-- ==== Sys2Proof/Word.lean ====
section
/-!
DEFINITION. The words of the two links, the numbers of the six strings, and a record holding one thing for each
string. Rules R1 and R14 to R16 give the widths; the table "Units and conventions" of 00_scope.md gives the
string numbers.
-/

namespace Sys2Proof

/-- A word of a link, a command or a message: 16 bits (00_scope.md, "Word"). -/
abbrev Word := BitVec 16

/-- The payload of a parameter or continuation word: bits 14..0 (00_scope.md, "Continuation word"). -/
abbrev Payload := BitVec 15

/-- A crossing time in PU, kept modulo 2^32 (00_scope.md, "Period unit"). -/
abbrev Time := BitVec 32

/-- A string, by its number 1..6: string 1 is the highest-pitched, string 6 the lowest. -/
inductive StringNo where
  | s1 | s2 | s3 | s4 | s5 | s6
deriving DecidableEq, Repr

/-- The string's number, 1..6. -/
def StringNo.number : StringNo → Nat
  | .s1 => 1
  | .s2 => 2
  | .s3 => 3
  | .s4 => 4
  | .s5 => 5
  | .s6 => 6

/-- The string a number names; none for a number outside 1..6. -/
def StringNo.ofNumber : Nat → Option StringNo
  | 1 => some .s1
  | 2 => some .s2
  | 3 => some .s3
  | 4 => some .s4
  | 5 => some .s5
  | 6 => some .s6
  | _ => none

/-- The six strings in string order. -/
def allStrings : List StringNo := [.s1, .s2, .s3, .s4, .s5, .s6]

/-- The lower-pitched neighbour of string s is string s+1; string 6 has none. -/
def StringNo.lower : StringNo → Option StringNo
  | .s1 => some .s2
  | .s2 => some .s3
  | .s3 => some .s4
  | .s4 => some .s5
  | .s5 => some .s6
  | .s6 => none

/-- The higher-pitched neighbour of string s is string s−1; string 1 has none. -/
def StringNo.higher : StringNo → Option StringNo
  | .s1 => none
  | .s2 => some .s1
  | .s3 => some .s2
  | .s4 => some .s3
  | .s5 => some .s4
  | .s6 => some .s5

/-- One value for each of the six strings. -/
structure PerString (α : Type) where
  s1 : α
  s2 : α
  s3 : α
  s4 : α
  s5 : α
  s6 : α
deriving DecidableEq, Repr

/-- The same value for every string. -/
def PerString.const {α : Type} (a : α) : PerString α := ⟨a, a, a, a, a, a⟩

/-- The value of one string. -/
def PerString.get {α : Type} (p : PerString α) : StringNo → α
  | .s1 => p.s1
  | .s2 => p.s2
  | .s3 => p.s3
  | .s4 => p.s4
  | .s5 => p.s5
  | .s6 => p.s6

/-- The record with the value of one string replaced. -/
def PerString.set {α : Type} (p : PerString α) (i : StringNo) (a : α) : PerString α :=
  match i with
  | .s1 => { p with s1 := a }
  | .s2 => { p with s2 := a }
  | .s3 => { p with s3 := a }
  | .s4 => { p with s4 := a }
  | .s5 => { p with s5 := a }
  | .s6 => { p with s6 := a }

/-- The record with every string's value changed. -/
def PerString.map {α β : Type} (f : α → β) (p : PerString α) : PerString β :=
  ⟨f p.s1, f p.s2, f p.s3, f p.s4, f p.s5, f p.s6⟩

/-- The six values in string order. -/
def PerString.toList {α : Type} (p : PerString α) : List α := [p.s1, p.s2, p.s3, p.s4, p.s5, p.s6]

end Sys2Proof
end

