-- ==== Sys2Proof/Syntax.lean ====
section
/-!
DEFINITION. The commands and events of the part, one constructor for each row of spec/opcode_table.json, with the
operands the rules give each.

Three groups of rows. STIMULI (POWER_ON, PICKUP_FRAME_SLOT, DOWNSTREAM_FRAME, UPSTREAM_FRAME, TICK) are what the
outside world and the frame timing do to the part. COMMANDS (UNKNOWN_COMMAND, LOAD_GRID ... RESTART) are a command
whose words reach the command unit whole. The rest are EVENTS THAT HAPPEN INSIDE a stimulus; such a row is that
stimulus, taken at the moment the event happens in it (log entry 1).
-/

namespace Sys2Proof

/-- A link word of a pickup frame: sixteen word bits and one parity bit (R2; "Pickup frame" layout). -/
structure LinkWord where
  word : Word
  parity : Bool
deriving DecidableEq, Repr

/-- What one pickup frame slot holds: a sync mark or none, the words of strings 1 to 6, and the side word
(R2). A slot in which nothing arrives has no sync mark. -/
structure PickupFrame where
  sync : Bool
  samples : PerString LinkWord
  side : LinkWord
deriving DecidableEq, Repr

/-- A downstream frame: a sync mark or none, the control word (bit 15 HOLD, bit 14 WORD_VALID) and the command
word ("Downstream frame" layout). -/
structure DownstreamFrame where
  sync : Bool
  control : Word
  command : Word
deriving DecidableEq, Repr

/-- The commands and events of spec/opcode_table.json, in the table's order.

`order` is the order in which the strings of one frame arrival reach the shared queues, which R20 leaves open: the
strings it names come first, as named, and the rest follow in string order (log entry 2). -/
inductive Instr where
  /-- POWER_ON: every block takes its power-on state (R7). -/
  | powerOn
  /-- PICKUP_FRAME_SLOT: the PLU takes one pickup frame slot (R2 to R5). -/
  | pickupFrameSlot (frame : PickupFrame) (order : List StringNo)
  /-- PICKUP_TEARDOWN: the slot with the eighth bad frame in a row (R5, R6). -/
  | pickupTeardown
  /-- MEASURE_COMPLETE: the slot whose frame brings a string's measurement count to N (R187). -/
  | measureComplete (string : StringNo) (frame : PickupFrame) (order : List StringNo)
  /-- DOWNSTREAM_FRAME: the SLU takes a downstream frame (R8, R11). -/
  | downstreamFrame (frame : DownstreamFrame)
  /-- SYNTH_LINK_LOSS: the downstream frame with the second missing sync mark in a row (R8, R10). -/
  | synthLinkLoss
  /-- UPSTREAM_FRAME: the SLU sends an upstream frame (R13, R14, R159). -/
  | upstreamFrame
  /-- RESULT_GRANT: the upstream frame in which a freed reply slot goes to a WAITING record (R157). -/
  | resultGrant
  /-- TICK: the tick divider takes one frame period; at its underflow it delivers a tick (R68). -/
  | tick
  /-- EARLY_POINT: the tick at which a string's attack clock reaches its latched EC (R72). -/
  | earlyPoint (string : StringNo)
  /-- GIVE_UP: the tick at which a string's attack clock reaches its latched GU (R73). -/
  | giveUp (string : StringNo)
  /-- RELEASE_EXPIRY: the tick at which a string's release counter reaches 0 (R75, R104). -/
  | releaseExpiry (string : StringNo)
  /-- UPDATE_EXPIRY: the tick at which a string's update scheduler reaches 0 (R78). -/
  | updateExpiry (string : StringNo)
  /-- MEASURE_TIMEOUT: the tick at which the elapsed ticks of a string's measurement reach T (R187). -/
  | measureTimeout (string : StringNo)
  /-- UNKNOWN_COMMAND: a command whose code is not in the code list (R172). -/
  | unknownCommand (code : BitVec 7) (params : List Payload)
  /-- LOAD_GRID, code 01 (R54 to R57). -/
  | loadGrid (params : List Payload)
  /-- LOAD_PROFILE, code 02 (R34). -/
  | loadProfile (params : List Payload)
  /-- LOAD_ACTION, code 03 (R111). -/
  | loadAction (params : List Payload)
  /-- LOAD_MAP, code 04 (R118). -/
  | loadMap (params : List Payload)
  /-- CLEAR_MAP, code 05 (R119). -/
  | clearMap (params : List Payload)
  /-- LOAD_CROSSTALK, code 06 (R22). -/
  | loadCrosstalk (params : List Payload)
  /-- SET_TICK, code 08 (R70). -/
  | setTick (params : List Payload)
  /-- SET_NUMBERING, code 09 (R125). -/
  | setNumbering (params : List Payload)
  /-- SET_STYLE, code 0A (R113). -/
  | setStyle (params : List Payload)
  /-- SET_FLAG_MASK, code 0B (R176). -/
  | setFlagMask (params : List Payload)
  /-- SET_COUNT_POINT, code 0C (R142). -/
  | setCountPoint (params : List Payload)
  /-- STRING_ON, code 10 (R89). -/
  | stringOn (params : List Payload)
  /-- STRING_OFF, code 11 (R105). -/
  | stringOff (params : List Payload)
  /-- ALL_NOTES_END, code 12 (R106). -/
  | allNotesEnd (params : List Payload)
  /-- MEASURE, code 14 (R185). -/
  | measure (params : List Payload)
  /-- MEASURE_CANCEL, code 15 (R190). -/
  | measureCancel (params : List Payload)
  /-- INJECT, code 16 (R137, R138). -/
  | inject (params : List Payload)
  /-- READ_STATUS, code 20 (R179). -/
  | readStatus (params : List Payload)
  /-- READ_STRING, code 21 (R50, R108). -/
  | readString (params : List Payload)
  /-- READ_GRID, code 22 (R66, R67). -/
  | readGrid (params : List Payload)
  /-- READ_MAP, code 23 (R120). -/
  | readMap (params : List Payload)
  /-- READ_ACTION, code 24 (R129). -/
  | readAction (params : List Payload)
  /-- READ_PROFILE, code 25 (R180). -/
  | readProfile (params : List Payload)
  /-- READ_COUNTERS, code 26 (R143). -/
  | readCounters (params : List Payload)
  /-- READ_STATUS_COUNTERS, code 27 (R181). -/
  | readStatusCounters (params : List Payload)
  /-- CLEAR_FLAGS, code 30 (R177). -/
  | clearFlags (params : List Payload)
  /-- CLEAR_COUNTERS, code 31 (R144). -/
  | clearCounters (params : List Payload)
  /-- RESTORE_DEFAULTS, code 32 (R182). -/
  | restoreDefaults (params : List Payload)
  /-- RESTART, code 33 (R183). -/
  | restart (params : List Payload)
deriving DecidableEq, Repr

end Sys2Proof
end

