-- ==== Sys2Proof/Decode.lean ====
section
/-!
DEFINITION. The command a table word spells. spec/opcode_table.json gives no row any bits (98_reader.md: no row with
fixed bits, none with fields), so no word spells a command of the table; commands reach the part through
DOWNSTREAM_FRAME, whose words Machine/CommandUnit.lean collects by the rules of 10_commands.md.
-/

namespace Sys2Proof

/-- The command spelled by a word of the table's bits: none, since no row of the table has bits. -/
def decodeTableWord (_nbits _w : Nat) : Option Instr := none

end Sys2Proof
end

