-- ==== Sys2Proof/Config.lean ====
section
/-!
DEFINITION. The sizes and limits the spec fixes for this part. The part has no implementation-defined constants:
every size below is stated by a rule. No free value is needed, since the orders the spec leaves open are operands
of the commands (log entries 2 and 3).
-/

namespace Sys2Proof.Config

/-- The event queue holds up to 64 messages (R145). -/
def eventQueueSize : Nat := 64

/-- The monitor queue holds up to 16 messages (R154). -/
def monitorQueueSize : Nat := 16

/-- The reply queue holds up to 8 replies (R156). -/
def replyQueueSize : Nat := 8

/-- The command buffer keeps at most 128 parameter words (R163). -/
def bufferSize : Nat := 128

/-- The history ring holds up to eight raw records (R37). -/
def ringSize : Nat := 8

/-- The shortest valid period, 4,096 PU (00_scope.md, "Valid period range"). -/
def minPeriod : Nat := 4096

/-- The longest valid period, 524,287 PU (00_scope.md, "Valid period range"). -/
def maxPeriod : Nat := 524287

/-- Good pickup frames in a row that take the pickup link to UP (R3). -/
def pickupGoodRun : Nat := 16

/-- Bad pickup frames in a row that end the pickup link (R5). -/
def pickupBadRun : Nat := 8

/-- Downstream frames in a row, each with its sync mark, that take the synth link to UP (R8). -/
def synthSyncRun : Nat := 4

/-- Missing sync marks in a row that end the synth link (R8). -/
def synthMissingRun : Nat := 2

/-- The power-on tick base (R70). -/
def powerOnTickBase : Nat := 11

end Sys2Proof.Config
end

