-- ==== Sys2Proof/Machine/Blocks.lean ====
section
/-!
DEFINITION. The state of each block of the part and its power-on value (00_scope.md, "Blocks and paths"). Quantities
the manual counts are Nat or Int; words, masks, crossing times and the frame number are bit vectors.
-/

namespace Sys2Proof.Machine

/-! ## PLU: the pickup link unit (R2 to R7) -/

/-- The pickup link state. -/
inductive PickupLink where
  | searching | up | holding
deriving DecidableEq, Repr

/-- The content of a good pickup frame: six samples and a side word. -/
structure GoodFrame where
  samples : PerString Word
  side : Word
deriving DecidableEq, Repr

/-- The PLU's state (01_links_frames_and_formats.md, "The pickup link"). -/
structure Plu where
  link : PickupLink
  /-- good-run count, 0..16 -/
  goodRun : Nat
  /-- bad-run count, 0..8 -/
  badRun : Nat
  lastGood : Option GoodFrame
  /-- current side word: bank 15, knob 14..8, switches 7 and 6 -/
  side : Word
  /-- frame number n, 24 bits, wrapping -/
  frameNo : BitVec 24
deriving DecidableEq, Repr

/-- R7, column Power-on. -/
def Plu.powerOn : Plu := ⟨.searching, 0, 0, none, 0, 0⟩

/-! ## SLU: the synth link unit (R8 to R14) -/

/-- The synth link state. -/
inductive SynthLink where
  | searching | up
deriving DecidableEq, Repr

/-- A message word slot: a valid marker and one word (R14). -/
structure WordSlot where
  valid : Bool
  word : Word
deriving DecidableEq, Repr

/-- An upstream frame ("Upstream frame" layout). -/
structure UpstreamFrame where
  samples : PerString Word
  stateHalf : Word
  sideHalf : Word
  slot1 : WordSlot
  slot2 : WordSlot
deriving DecidableEq, Repr

/-- The three things the part does in each frame period, in any order (R1): the PLU takes a pickup frame slot, the SLU
sends an upstream frame, and the SLU takes the words of the downstream frame. -/
inductive PeriodPart where
  | slot | upstream | words
deriving DecidableEq, Repr

/-- Which of the three parts of the frame period at hand have been done (R1; log entry 4). -/
structure PartsDone where
  slot : Bool
  upstream : Bool
  words : Bool
deriving DecidableEq, Repr

/-- A frame period of which no part has been done. -/
def PartsDone.nothing : PartsDone := ⟨false, false, false⟩

/-- The SLU's state ("The synth link"). The upstream frame being assembled is `handed`, `handedBefore` and, once the
frame is sent whole, `sent`. -/
structure Slu where
  link : SynthLink
  /-- sync-run count, 0..4 -/
  syncRun : Nat
  /-- missing-sync count, 0..2 -/
  missing : Nat
  /-- HOLD as seen -/
  hold : Bool
  /-- the loss-pending mark -/
  lossPending : Bool
  /-- samples handed over at the frame arrival of this frame period; 0 where it had none (R12) -/
  handed : PerString Word
  /-- samples handed over at the frame arrival of the preceding frame period; 0 where it had none (R12) -/
  handedBefore : PerString Word
  /-- the parts of the frame period at hand that have been done: MODEL's own field (log entry 4) -/
  done : PartsDone
  /-- the upstream frame last sent: MODEL's own field, the part's output -/
  sent : Option UpstreamFrame
deriving DecidableEq, Repr

/-- R8, R10, R11: SEARCHING with both counts 0, HOLD 0, no loss-pending mark, no samples handed over, no part of a
frame period done. -/
def Slu.powerOn : Slu := ⟨.searching, 0, 0, false, false, .const 0, .const 0, .nothing, none⟩

/-! ## IS: the input stage of a string (R20 to R32) -/

/-- The onset gate. -/
inductive OnsetGate where
  | opened | shut
deriving DecidableEq, Repr

/-- The crossing detector's arm state. -/
inductive Detector where
  | armed | disarmed
deriving DecidableEq, Repr

/-- The input stage's state (02_string_input_stage.md, first table). -/
structure InputStage where
  /-- filter value, −32,768..32,767 -/
  y : Int
  /-- envelope, 0..32,768 -/
  e : Nat
  gate : OnsetGate
  /-- trough, 0..32,768; present while the string's note context is open -/
  trough : Option Nat
  detector : Detector
  /-- tentative crossing time t_z -/
  tentative : Option Time
  /-- last committed crossing time t_prev -/
  committed : Option Time
deriving DecidableEq, Repr

/-- R31, R32: the cleared state, with the trough absent. -/
def InputStage.powerOn : InputStage := ⟨0, 0, .opened, none, .disarmed, none, none⟩

/-- The crosstalk coefficients of a string, each −128..127 (R21). -/
structure Crosstalk where
  kHi : Int
  kLo : Int
deriving DecidableEq, Repr

/-- R21: the power-on value of every coefficient is 0. -/
def Crosstalk.powerOn : Crosstalk := ⟨0, 0⟩

/-- The sample tap (R12). -/
inductive Tap where
  | raw | corrected | filtered | zero
deriving DecidableEq, Repr

/-- The profile of a string (R33), the fields in the order of LOAD PROFILE's words. -/
structure Profile where
  /-- L, low-pass shift, 0..4 -/
  lowPass : Nat
  /-- D, decay shift, 4..12 -/
  decay : Nat
  /-- H, detector half-band, 1..8,191 -/
  halfBand : Nat
  /-- Th_on, 1..32,768 -/
  thOn : Nat
  /-- Th_off, 0..Th_on − 1 -/
  thOff : Nat
  /-- Δ_re, restrike rise, 0..32,767; 0 is off -/
  restrikeRise : Nat
  /-- S, agreement shift, 3..8 -/
  agreement : Nat
  /-- G, glide shift, 0..3 -/
  glide : Nat
  /-- LOSS_N, 2..15 -/
  lossN : Nat
  /-- EC, ticks, 0..1,023; 0 is off -/
  earlyCommit : Nat
  /-- GU, ticks, 1..1,023 -/
  giveUp : Nat
  /-- RT, ticks, 0..1,023 -/
  releaseTime : Nat
  /-- d, update delay code, 0..3 -/
  delayCode : Nat
  /-- A_r, update rate mantissa, 0..7 -/
  rateMantissa : Nat
  /-- B, update rate exponent, 0..3 -/
  rateExponent : Nat
  /-- deadband, pitch steps, 0..63 -/
  deadband : Nat
  tap : Tap
  /-- monitor pitch stream on -/
  monitorStream : Bool
deriving DecidableEq, Repr

/-- R33, column Power-on. -/
def Profile.powerOn : Profile :=
  { lowPass := 2, decay := 8, halfBand := 64, thOn := 1024, thOff := 384, restrikeRise := 0, agreement := 5
    glide := 1, lossN := 4, earlyCommit := 0, giveUp := 240, releaseTime := 40, delayCode := 0, rateMantissa := 0
    rateExponent := 1, deadband := 4, tap := .corrected, monitorStream := false }

/-! ## PV: the period validator of a string (R36 to R51) -/

/-- The outcome a raw period receives (R37, R39 to R44). -/
inductive LockOutcome where
  | unlocked | lock | glide | merge | jump | miss | lost
deriving DecidableEq, Repr

/-- A record of the history ring (R37). -/
structure RawRecord where
  period : Nat
  outcome : LockOutcome
deriving DecidableEq, Repr

/-- The validator's state: the lock state A, C, m, and the history ring, newest first. -/
structure Validator where
  accepted : Option Nat
  candidate : Option Nat
  misses : Nat
  ring : List RawRecord
deriving DecidableEq, Repr

/-- R47: a cleared validator. -/
def Validator.cleared : Validator := ⟨none, none, 0, []⟩

/-! ## GS: the grid of a string (R52) -/

/-- A loaded grid: base note b and the period entries g[0], g[1], ... -/
structure Grid where
  base : Nat
  entries : List Nat
deriving DecidableEq, Repr

/-! ## ST: the tick divider and the timers of a string (R68 to R80) -/

/-- The tick divider: tick base TB and divider count, each 0..255. -/
structure Divider where
  tickBase : Nat
  count : Nat
deriving DecidableEq, Repr

/-- R70: power-on sets TB to 11 and the divider count to 11. -/
def Divider.powerOn : Divider := ⟨Config.powerOnTickBase, Config.powerOnTickBase⟩

/-- The attack clock, with the compare points EC and GU it latched when it started (R71). -/
structure AttackClock where
  running : Bool
  value : Nat
  earlyCommit : Nat
  giveUp : Nat
deriving DecidableEq, Repr

/-- The release counter (R75). -/
structure ReleaseCounter where
  running : Bool
  value : Nat
deriving DecidableEq, Repr

/-- The update scheduler, with the repeat period and deadband it latched when it started (R77). -/
structure UpdateScheduler where
  running : Bool
  value : Nat
  period : Nat
  deadband : Nat
deriving DecidableEq, Repr

/-- The timer set of a string. -/
structure Timers where
  attack : AttackClock
  release : ReleaseCounter
  update : UpdateScheduler
deriving DecidableEq, Repr

/-- R80, row Power-on: STOPPED, 0. DESIGN CHOICE (log entry 6): the latched points, which no rule gives a power-on
value, take the least value of their range. -/
def Timers.powerOn : Timers := ⟨⟨false, 0, 0, 1⟩, ⟨false, 0⟩, ⟨false, 0, 8, 0⟩⟩

/-- MODEL's own field (log entry 3): which receivers of the coming tick have taken it ahead of TICK. All clear outside
a frame period in which an expiry was commanded by its own row. -/
structure TickTaken where
  attack : Bool
  release : Bool
  update : Bool
  record : Bool
deriving DecidableEq, Repr

/-- No receiver has taken the coming tick. -/
def TickTaken.clear : TickTaken := ⟨false, false, false, false⟩

/-! ## AM: action entries and mapping tables (R110 to R129) -/

/-- The report style. -/
inductive Style where
  | full | gate | trigger
deriving DecidableEq, Repr

/-- A route verdict, in rising order PASS < COPY < DIVERT < DROP (R131). -/
inductive Verdict where
  | pass | copy | divert | drop
deriving DecidableEq, Repr

/-- The legato mode. -/
inductive LegatoMode where
  | glide | split
deriving DecidableEq, Repr

/-- The bank select. -/
inductive BankSelect where
  | none | altOnB | altOnA
deriving DecidableEq, Repr

/-- The numbering form. -/
inductive NumberingForm where
  | note | position
deriving DecidableEq, Repr

/-- The mode of a selector. -/
inductive SelectorMode where
  | source | fixed | mapFirst | mapChain
deriving DecidableEq, Repr

/-- A selector: its mode, the tables T1 and T2 it names, and its fixed value. -/
structure Selector where
  mode : SelectorMode
  t1 : Fin 4
  t2 : Fin 4
  fixed : Nat
deriving DecidableEq, Repr

/-- R110: SOURCE; T1 0, T2 0; fixed 0. -/
def Selector.powerOn : Selector := ⟨.source, 0, 0, 0⟩

/-- The action entry of a string (R110), the fields in the order of LOAD ACTION's words. -/
structure Action where
  style : Style
  noteSel : Selector
  velocitySel : Selector
  laneSel : Selector
  /-- bend span, 1..24 semitones -/
  bendSpan : Nat
  route : Verdict
  legato : LegatoMode
  bankSelect : BankSelect
  /-- map base, 0..255 -/
  mapBase : Nat
  altMapBase : Nat
  /-- count base, 0..127; 0 is no counting -/
  countBase : Nat
  altCountBase : Nat
  /-- cause offsets, each 0..7 -/
  pickedOffset : Nat
  legatoOffset : Nat
  injectedOffset : Nat
deriving DecidableEq, Repr

/-- R110, column Power-on. -/
def Action.powerOn : Action :=
  { style := .full, noteSel := .powerOn, velocitySel := .powerOn, laneSel := .powerOn, bendSpan := 2, route := .pass
    legato := .glide, bankSelect := .none, mapBase := 0, altMapBase := 0, countBase := 0, altCountBase := 0
    pickedOffset := 0, legatoOffset := 0, injectedOffset := 0 }

/-- The key mode of a mapping table (R117). -/
inductive KeyMode where
  | note | grade | position
deriving DecidableEq, Repr

/-- A mapping table: 256 entries, each empty or a value 0..127, and a key mode (R116). -/
structure MapTable where
  keyMode : KeyMode
  entries : Vector (Option (BitVec 7)) 256
deriving DecidableEq, Repr

/-- R116: every entry empty, key mode NOTE. -/
def MapTable.powerOn : MapTable := ⟨.note, Vector.replicate 256 none⟩

/-- The action latched in a note context (R114). -/
structure LatchedAction where
  style : Style
  route : Verdict
  bendSpan : Nat
  legato : LegatoMode
  noteSel : Selector
  velocitySel : Selector
  /-- map base in use -/
  mapBase : Nat
  /-- count base in use -/
  countBase : Nat
  counterIndex : Option Nat
  /-- resolved lane, absent until the start crosses MAP -/
  lane : Option Nat
deriving DecidableEq, Repr

/-! ## NT: the note tracker of a string (R81 to R109) -/

/-- The tracker state. -/
inductive TrackerState where
  | muted | silent | attack | sounding | releasing
deriving DecidableEq, Repr

/-- The cause of a NOTE START. -/
inductive StartCause where
  | picked | legato | recovery | injected
deriving DecidableEq, Repr

/-- The note context (R82). The trough, which the context also counts as its own, is held by the input stage. -/
structure NoteContext where
  /-- tracked note, 0..127 -/
  note : Nat
  /-- Pv last computed -/
  pvComputed : Nat
  /-- Pv last queued -/
  pvQueued : Option Nat
  /-- velocity grade at start, 0..59 -/
  grade : Nat
  /-- start cause: PICKED, LEGATO or RECOVERY -/
  cause : StartCause
  early : Bool
  announced : Bool
  monitored : Bool
  /-- bank at start is B -/
  bankB : Bool
  form : NumberingForm
  latched : LatchedAction
  /-- peak, 0..32,768 -/
  peak : Nat
deriving DecidableEq, Repr

/-- The tracker: its state, its note context while one is open, and the attack peak (0 outside ATTACK). -/
structure Tracker where
  state : TrackerState
  context : Option NoteContext
  attackPeak : Nat
deriving DecidableEq, Repr

/-- R107, row Power-on. -/
def Tracker.powerOn : Tracker := ⟨.muted, none, 0⟩

/-! ## MU: the measurement record of a string (R184 to R192) -/

/-- The state of a measurement record. -/
inductive RecordState where
  | idle | running | waiting
deriving DecidableEq, Repr

/-- The outcome of a finished measurement. -/
inductive MeasureOutcome where
  | complete | timeout | aborted
deriving DecidableEq, Repr

/-- The measurement record (11_open_string_measurement.md, first table). -/
structure Measurement where
  state : RecordState
  /-- target N, 4..64 -/
  target : Nat
  /-- timeout T, 1..32,767 ticks -/
  timeout : Nat
  count : Nat
  sum : Nat
  minimum : Option Nat
  maximum : Option Nat
  elapsed : Nat
  pending : Option MeasureOutcome
deriving DecidableEq, Repr

/-- R184. DESIGN CHOICE (log entry 6): target and timeout, which R184 gives no power-on value, take the least value of
their range. -/
def Measurement.powerOn : Measurement := ⟨.idle, 4, 1, 0, 0, none, none, 0, none⟩

/-! ## One string's blocks together -/

/-- Everything the part holds once per string. -/
structure StringBlock where
  stage : InputStage
  crosstalk : Crosstalk
  profile : Profile
  validator : Validator
  /-- the string's grid, or none while it is empty -/
  grid : Option Grid
  timers : Timers
  tracker : Tracker
  action : Action
  record : Measurement
  ticked : TickTaken
deriving DecidableEq, Repr

/-- A string at power-on. -/
def StringBlock.powerOn : StringBlock :=
  { stage := .powerOn, crosstalk := .powerOn, profile := .powerOn, validator := .cleared, grid := none
    timers := .powerOn, tracker := .powerOn, action := .powerOn, record := .powerOn, ticked := .clear }

/-! ## RC: counter sets (R139, R142) -/

/-- A counter set: two 32-bit counts that wrap. -/
structure CounterSet where
  notes : BitVec 32
  messages : BitVec 32
deriving DecidableEq, Repr

/-- The count point. -/
inductive CountPoint where
  | route | atAdmit
deriving DecidableEq, Repr

/-- The RC's state. -/
structure Rc where
  countPoint : CountPoint
  sets : Vector CounterSet 128
deriving DecidableEq, Repr

/-- R139, R142: every count 0, count point ROUTE. -/
def Rc.powerOn : Rc := ⟨.route, Vector.replicate 128 ⟨0, 0⟩⟩

/-! ## EQ, MQ, RQ and LA: the queues and the lane (R145 to R162) -/

/-- The cause of a PITCH, in rising rank GLIDE, SLUR, RETARGET (R149). -/
inductive PitchCause where
  | glide | slur | retarget
deriving DecidableEq, Repr

/-- The cause of a NOTE END. -/
inductive EndCause where
  | release | split | off | link | panic | injected
deriving DecidableEq, Repr

/-- The kind of an event message, with its cause and the fields of its continuation words ("Message kinds"). -/
inductive MessageBody where
  | noteStart (cause : StartCause) (note : Nat) (velocity : Nat) (early : Bool) (bend : Int)
  | pitch (cause : PitchCause) (note : Nat) (bend : Int)
  | restrike (velocity : Nat)
  | noteEnd (cause : EndCause)
  | tune (pv : Nat)
deriving DecidableEq, Repr

/-- An event message as a queue holds it (R15, R145). -/
structure Message where
  string : StringNo
  lane : Nat
  monitor : Bool
  injected : Bool
  body : MessageBody
deriving DecidableEq, Repr

/-- The event queue: its messages, oldest first, and the reserved count R, 0..6. -/
structure EventQueue where
  entries : List Message
  reserved : Nat
deriving DecidableEq, Repr

/-- The reason of a REFUSED reply ("Refusal reasons"). -/
inductive RefusalReason where
  | unknown | length | range | grid | busy | noGrid | idle | full
deriving DecidableEq, Repr

/-- The kind of a reply, with its reason or data words (R16, R175). -/
inductive ReplyBody where
  | accept
  | adjusted
  | refused (reason : RefusalReason)
  | data (words : List Payload)
  | result (words : List Payload)
deriving DecidableEq, Repr

/-- A REPLY: the code replied to and its body. -/
structure Reply where
  code : BitVec 7
  body : ReplyBody
deriving DecidableEq, Repr

/-- A source of the message lane. -/
inductive Source where
  | rq | eq | mq
deriving DecidableEq, Repr

/-- The transmit record of the message in flight (R159). -/
structure Transmit where
  words : List Word
  source : Source
  /-- words sent -/
  sent : Nat
deriving DecidableEq, Repr

/-- The message lane arbiter. -/
structure Lane where
  transmit : Option Transmit
  lastServed : Source
deriving DecidableEq, Repr

/-- R159, R160: no message in flight, source last served MQ. -/
def Lane.powerOn : Lane := ⟨none, .mq⟩

/-! ## CU: the command unit (R163) -/

/-- The command buffer: present while the CU is COLLECTING or HELD. -/
structure CommandBuffer where
  code : BitVec 7
  /-- declared count, 0..255 -/
  declared : Nat
  /-- words received, 0..255 -/
  received : Nat
  /-- stored parameters, at most 128, in arrival order -/
  stored : List Payload
  /-- overflow mark -/
  overflow : Bool
deriving DecidableEq, Repr

/-- The collection state, with the command buffer where one is present. -/
inductive CommandUnit where
  | ready
  | collecting (buffer : CommandBuffer)
  | held (buffer : CommandBuffer)
deriving DecidableEq, Repr

/-! ## SU: the status unit (R17 to R19) -/

/-- The status unit: twelve flags, the flag mask, and twenty-four status counters. -/
structure StatusUnit where
  flags : BitVec 12
  mask : BitVec 12
  counters : Vector (BitVec 16) 24
deriving DecidableEq, Repr

/-- R17: every mask bit 1 except RANGE (8) and TRACK_LOST (9). -/
def powerOnFlagMask : BitVec 12 := 0b110011111111#12

/-- R17 to R19: flags clear, the power-on mask, counters 0. -/
def StatusUnit.powerOn : StatusUnit := ⟨0, powerOnFlagMask, Vector.replicate 24 0⟩

end Sys2Proof.Machine
end

