-- ==== Sys2Proof/Machine/State.lean ====
section
/-!
DEFINITION. The whole state of the part, the reasons a step could stop, and the state after power-on. The part stops
at nothing: the spec gives every command and event an effect in every state, so Fault has no constructor.
-/

namespace Sys2Proof.Machine

/-- The state of the part: every piece of state its blocks hold, and the commands waiting to be taken. -/
structure State where
  plu : Plu
  slu : Slu
  strings : PerString StringBlock
  divider : Divider
  /-- the four mapping tables (R116) -/
  tables : Vector MapTable 4
  /-- the part-wide numbering form (R124) -/
  numbering : NumberingForm
  rc : Rc
  eq : EventQueue
  /-- the monitor queue, oldest first (R154) -/
  mq : List Message
  /-- the reply queue, oldest first (R156) -/
  rq : List Reply
  lane : Lane
  cu : CommandUnit
  su : StatusUnit
  /-- MODEL's own field: the commands waiting to be taken, first in, first out -/
  pending : List Instr
deriving DecidableEq, Repr

/-- Reasons the part stops with a fault. The spec gives none, and no meaning raises one: the type has no constructor,
so "no fault" holds of every step. -/
inductive Fault where
deriving DecidableEq, Repr

/-- Reasons the model gives a command no meaning. -/
inductive Refusal where
  /-- Raised by exec's arm of a command that has no meaning yet, and by nothing else. Safe: the model stops where the
  part goes on. No arm of this model raises it. -/
  | notModelled (mnemonic : String)
deriving DecidableEq, Repr

/-- The part right after power-on, no command waiting (R7 and the power-on rows of every block's chapter). -/
def State.reset : State :=
  { plu := .powerOn, slu := .powerOn, strings := .const .powerOn, divider := .powerOn
    tables := Vector.replicate 4 .powerOn, numbering := .note, rc := .powerOn, eq := ⟨[], 0⟩, mq := [], rq := []
    lane := .powerOn, cu := .ready, su := .powerOn, pending := [] }

end Sys2Proof.Machine
end

