-- ==== Sys2Proof/Machine/Flags.lean ====
section
/-!
DEFINITION. The status unit: how a cause sets a flag, how flags are cleared, and how a status counter grows (R17 to
R19).
-/

namespace Sys2Proof.Machine

/-- The twelve flags (R17). -/
inductive Flag where
  | frameErr | pickupLost | synthLost | cmdAbandoned | cmdOverrun | startLost | updateLost | monitorLost | range
  | trackLost | measureDone | queueFull
deriving DecidableEq, Repr

/-- The flag's bit number (R17). -/
def Flag.bit : Flag → Nat
  | .frameErr => 0
  | .pickupLost => 1
  | .synthLost => 2
  | .cmdAbandoned => 3
  | .cmdOverrun => 4
  | .startLost => 5
  | .updateLost => 6
  | .monitorLost => 7
  | .range => 8
  | .trackLost => 9
  | .measureDone => 10
  | .queueFull => 11

/-- The status counters (R19). -/
inductive StatusCounter where
  | badFrames | abandonedCommands | overrunWords | startsLost | updatesLost | monitorLost
  | onsets (string : StringNo) | unpitchedOnsets (string : StringNo) | lockLosses (string : StringNo)
deriving DecidableEq, Repr

/-- The counter's index (R19): strings 1 to 6 hold 6 to 11, 12 to 17 and 18 to 23. -/
def StatusCounter.index : StatusCounter → Nat
  | .badFrames => 0
  | .abandonedCommands => 1
  | .overrunWords => 2
  | .startsLost => 3
  | .updatesLost => 4
  | .monitorLost => 5
  | .onsets i => 5 + i.number
  | .unpitchedOnsets i => 11 + i.number
  | .lockLosses i => 17 + i.number

/-- The word with one bit set, and no other bit touched. -/
def oneBit (n : Nat) : BitVec 12 := BitVec.ofNat 12 (2 ^ n)

/-- A cause of a flag is taken: the flag is set if its mask bit is 1, and left as it is otherwise (R17). -/
def StatusUnit.cause (f : Flag) (su : StatusUnit) : StatusUnit :=
  if su.mask.getLsbD f.bit then { su with flags := su.flags ||| oneBit f.bit } else su

/-- The flags named in a mask are cleared and the others left (R18, R177). -/
def StatusUnit.clearFlags (named : BitVec 12) (su : StatusUnit) : StatusUnit :=
  { su with flags := su.flags &&& ~~~named }

/-- A 16-bit count grows by one and saturates at 65,535 (R19). -/
def saturatingIncrement (c : BitVec 16) : BitVec 16 := if c = 65535#16 then c else c + 1

/-- A cause of a status counter is taken, whatever the flag mask holds (R19). -/
def StatusUnit.bump (c : StatusCounter) (su : StatusUnit) : StatusUnit :=
  let grown := saturatingIncrement (su.counters[c.index]?.getD 0)
  { su with counters := su.counters.setIfInBounds c.index grown }

/-- FLAG_ANY: 1 while at least one flag is set (R18). -/
def StatusUnit.flagAny (su : StatusUnit) : Bool := su.flags != 0

/-- A flag cause taken by the part (R17). -/
def State.causeFlag (f : Flag) (s : State) : State := { s with su := s.su.cause f }

/-- A status counter's cause taken by the part (R19). -/
def State.bumpCounter (c : StatusCounter) (s : State) : State := { s with su := s.su.bump c }

end Sys2Proof.Machine
end

