-- ==== Sys2Proof/Machine/Operands.lean ====
section
/-!
DEFINITION. How parameter words are read (R174: an unsigned value in bits 14..0 unless the entry gives another
layout), how values are clamped (00_scope.md, "Clamped"), and how fields are put into words.
-/

namespace Sys2Proof.Machine

/-- A value placed in a field of a word: `width` bits, its least significant at bit `low`. -/
def field (value width low : Nat) : Nat := value % 2 ^ width * 2 ^ low

/-- A field of a word read as an unsigned value: `width` bits, its least significant at bit `low`. -/
def fieldOf (word width low : Nat) : Nat := word / 2 ^ low % 2 ^ width

/-- A one-bit field. -/
def bitField (b : Bool) (low : Nat) : Nat := field (if b then 1 else 0) 1 low

/-- The value brought into lo..hi (00_scope.md, "Clamped"). -/
def clamp (lo hi value : Nat) : Nat := if value < lo then lo else if hi < value then hi else value

/-- The signed value brought into lo..hi. -/
def clampInt (lo hi value : Int) : Int := if value < lo then lo else if hi < value then hi else value

/-- A string field: the string of number 1..6 the word names (R174). -/
def stringOf (word : Payload) : Option StringNo := StringNo.ofNumber word.toNat

/-- A string mask occupies bits 5..0, bit 0 for string 1; bits 14..6 are ignored (R174). -/
def maskNames (mask : Payload) (i : StringNo) : Bool := mask.getLsbD (i.number - 1)

/-- The strings a mask names, in string order. -/
def maskedStrings (mask : Payload) : List StringNo := allStrings.filter (maskNames mask)

/-- Bits 11..0 of a parameter word, as a flag mask (R176, R177). -/
def flagBits (word : Payload) : BitVec 12 := word.setWidth 12

/-- A payload word that carries an unsigned value in bits 14..0. -/
def payload (value : Nat) : Payload := BitVec.ofNat 15 value

/-- A payload word that carries a 15-bit two's complement value. -/
def payloadInt (value : Int) : Payload := BitVec.ofInt 15 value

/-- The two-word period form: the high 4 bits, then the low 15 bits (00_scope.md, "Period in two words"). -/
def periodWords (p : Nat) : List Payload := [payload (fieldOf p 4 15), payload (fieldOf p 15 0)]

/-- The period two words carry in the two-word form. -/
def periodOfWords (high low : Payload) : Nat := fieldOf high.toNat 4 0 * 2 ^ 15 + low.toNat

/-- A continuation word: bit 15 is 0 (00_scope.md, "Continuation word"). -/
def continuation (p : Payload) : Word := p.setWidth 16

end Sys2Proof.Machine
end

