-- ==== Sys2Proof/Machine/Ops.lean ====
section
/-!
DEFINITION. The named operations over the per-string blocks, the monitor queue and the reply queue that every other
file of the machine is written in.
-/

namespace Sys2Proof.Machine

/-! ## One string -/

/-- The blocks of one string. -/
def State.string (s : State) (i : StringNo) : StringBlock := s.strings.get i

/-- The part with the blocks of one string changed. -/
def State.modifyString (i : StringNo) (f : StringBlock → StringBlock) (s : State) : State :=
  { s with strings := s.strings.set i (f (s.strings.get i)) }

/-- The part with the blocks of every string changed alike. -/
def State.modifyAll (f : StringBlock → StringBlock) (s : State) : State := { s with strings := s.strings.map f }

/-- An event taken for each string of a list, in the list's order. -/
def forStrings (strings : List StringNo) (event : StringNo → State → State) (s : State) : State :=
  strings.foldl (fun t i => event i t) s

/-- The order in which the strings are served: those named, as named, then the rest in string order. A name given
twice counts once, so every string is served once. -/
def servedOrder : List StringNo → List StringNo → List StringNo
  | [], rest => rest
  | i :: named, rest => if i ∈ rest then i :: servedOrder named (rest.erase i) else servedOrder named rest

/-- A string's tracker changed. -/
def StringBlock.modifyTracker (f : Tracker → Tracker) (b : StringBlock) : StringBlock := { b with tracker := f b.tracker }

/-- A string's tracker goes to a state. -/
def State.setTracker (i : StringNo) (t : TrackerState) (s : State) : State :=
  s.modifyString i (·.modifyTracker fun k => { k with state := t })

/-- A string's open note context changed; nothing where none is open. -/
def State.modifyContext (i : StringNo) (f : NoteContext → NoteContext) (s : State) : State :=
  s.modifyString i (·.modifyTracker fun k => { k with context := k.context.map f })

/-- A string's timer set changed. -/
def State.modifyTimers (i : StringNo) (f : Timers → Timers) (s : State) : State :=
  s.modifyString i fun b => { b with timers := f b.timers }

/-- A string's measurement record changed. -/
def State.modifyRecord (i : StringNo) (f : Measurement → Measurement) (s : State) : State :=
  s.modifyString i fun b => { b with record := f b.record }

/-- A string's marks of receivers that took the coming tick changed. -/
def State.modifyTicked (i : StringNo) (f : TickTaken → TickTaken) (s : State) : State :=
  s.modifyString i fun b => { b with ticked := f b.ticked }

/-- A clear of the input stage, which clears the validator with it and leaves the trough (R31, R47). -/
def StringBlock.clearStage (b : StringBlock) : StringBlock :=
  { b with stage := { InputStage.powerOn with trough := b.stage.trough }, validator := .cleared }

/-- The attack clock stops, holding its value (R74). -/
def AttackClock.stop (c : AttackClock) : AttackClock := { c with running := false }

/-- The release counter stops, holding the value it has reached (R76). -/
def ReleaseCounter.stop (c : ReleaseCounter) : ReleaseCounter := { c with running := false }

/-- The update scheduler stops, holding the value it has reached (R79). -/
def UpdateScheduler.stop (u : UpdateScheduler) : UpdateScheduler := { u with running := false }

/-- Every timer of the set stops, values and latched points kept (R80). -/
def Timers.stop (t : Timers) : Timers := ⟨t.attack.stop, t.release.stop, t.update.stop⟩

/-- The note context closes: every field becomes absent and the trough with it, and the release counter and the update
scheduler stop (R76, R79, R82). -/
def StringBlock.closeContext (b : StringBlock) : StringBlock :=
  { b with
    stage := { b.stage with trough := none }
    timers := { b.timers with release := b.timers.release.stop, update := b.timers.update.stop }
    tracker := { b.tracker with context := none } }

/-- A tracker that is not MUTED goes to SILENT with no message: context closed, attack peak discarded, timers stopped
(R6 stage 2, R9, R107). -/
def StringBlock.silence (b : StringBlock) : StringBlock :=
  let c := b.closeContext
  { c with
    timers := c.timers.stop
    tracker := ⟨if b.tracker.state = .muted then .muted else .silent, none, 0⟩ }

/-! ## Queues -/

/-- The monitor queue takes every message handed to it, discarding its oldest entry when it is full (R154). -/
def State.placeMonitor (m : Message) (s : State) : State :=
  if s.mq.length < Config.monitorQueueSize then { s with mq := s.mq ++ [m] }
  else ({ s with mq := s.mq.tail ++ [m] }.causeFlag .monitorLost).bumpCounter .monitorLost

/-- A reply slot is free (R156). -/
def State.replySlotFree (s : State) : Bool := s.rq.length < Config.replyQueueSize

/-- A reply enters the reply queue. -/
def State.placeReply (r : Reply) (s : State) : State := { s with rq := s.rq ++ [r] }

end Sys2Proof.Machine
end

