-- ==== Sys2Proof/Machine/Measurement.lean ====
section
/-!
DEFINITION. The measurement record of a string: collecting periods, ending, the RESULT, and the search for a reply slot
(R185 to R191).
-/

namespace Sys2Proof.Machine

/-- The smaller of an optional minimum and a period. -/
def minWith (p : Nat) : Option Nat → Nat
  | none => p
  | some m => min m p

/-- The larger of an optional maximum and a period. -/
def maxWith (p : Nat) : Option Nat → Nat
  | none => p
  | some m => max m p

/-- A period added to a RUNNING record (R186). -/
def Measurement.add (p : Nat) (r : Measurement) : Measurement :=
  { r with count := r.count + 1, sum := r.sum + p, minimum := some (minWith p r.minimum), maximum := some (maxWith p r.maximum) }

/-- A measurement ends with an outcome; it waits for its reply slot, its values fixed (R187, R191). -/
def Measurement.finish (o : MeasureOutcome) (r : Measurement) : Measurement := { r with state := .waiting, pending := some o }

/-- The record goes to IDLE with no pending outcome (R189, R190, R192). -/
def Measurement.toIdle (r : Measurement) : Measurement := { r with state := .idle, pending := none }

/-- The outcome's code ("RESULT data words"). -/
def MeasureOutcome.code : MeasureOutcome → Nat
  | .complete => 0
  | .timeout => 1
  | .aborted => 2

/-- The data words of a RESULT: string, outcome and count; then average and spread when the count is above 0 (R188). -/
def resultWords (i : StringNo) (r : Measurement) : List Payload :=
  let first := field i.number 3 12 + field ((r.pending.map (·.code)).getD 0) 2 10 + field r.count 7 0
  if r.count = 0 then [payload first]
  else payload first :: (periodWords (r.sum / r.count) ++ periodWords (r.maximum.getD 0 - r.minimum.getD 0))

/-- The code of MEASURE, 14 (R16). -/
def measureCode : BitVec 7 := 0x14

/-- The RESULT of a finished measurement (R188). -/
def resultReply (i : StringNo) (r : Measurement) : Reply := ⟨measureCode, .result (resultWords i r)⟩

/-- The RESULT of a WAITING record is placed in the reply queue: the record goes to IDLE and MEASURE_DONE is set (R189). -/
def placeResult (i : StringNo) (s : State) : State :=
  ((s.placeReply (resultReply i (s.string i).record)).modifyRecord i (·.toIdle)).causeFlag .measureDone

/-- A finished record seeks a reply slot: its RESULT is placed if one is free, and it stays WAITING if none is (R189). -/
def seekSlot (i : StringNo) (s : State) : State :=
  if (s.string i).record.state = .waiting ∧ s.replySlotFree then placeResult i s else s

/-- A measurement ends with a RESULT, which seeks a slot at once (R187). -/
def endMeasurement (i : StringNo) (o : MeasureOutcome) (s : State) : State := seekSlot i (s.modifyRecord i (·.finish o))

/-- A raw period reaches the record: added while RUNNING, completing the measurement when the count reaches N; nothing
otherwise (R184, R186, R187). -/
def recordPeriod (i : StringNo) (p : Nat) (s : State) : State :=
  let r := (s.string i).record
  if r.state = .running then
    let added := s.modifyRecord i (·.add p)
    if r.target ≤ r.count + 1 then endMeasurement i .complete added else added
  else s

/-- A tick reaches the record: elapsed grows while RUNNING, timing the measurement out when it reaches T; nothing
otherwise (R184, R187). -/
def recordTick (i : StringNo) (s : State) : State :=
  let r := (s.string i).record
  if r.state = .running then
    let counted := s.modifyRecord i fun k => { k with elapsed := k.elapsed + 1 }
    if r.timeout ≤ r.elapsed + 1 then endMeasurement i .timeout counted else counted
  else s

/-- The record is RUNNING or WAITING. -/
def Measurement.active (r : Measurement) : Bool :=
  match r.state with
  | .idle => false
  | .running => true
  | .waiting => true

/-- An abort fixes a RUNNING record's values, replaces a WAITING record's outcome, and leaves an IDLE one alone (R191).
The ABORTED RESULT is not yet placed. -/
def abortRecord (i : StringNo) (s : State) : State :=
  if (s.string i).record.active then s.modifyRecord i (·.finish .aborted) else s

/-- A record holds a finished measurement that waits for a reply slot. -/
def State.isWaiting (s : State) (i : StringNo) : Bool := decide ((s.string i).record.state = .waiting)

/-- The WAITING record of the lowest-numbered string (R157). -/
def State.firstWaiting (s : State) : Option StringNo := allStrings.find? s.isWaiting

end Sys2Proof.Machine
end

