-- ==== Sys2Proof/Machine/Replies.lean ====
section
/-!
DEFINITION. What an executed command leaves: the part afterwards, its one reply, and the strings whose aborted
measurements seek a reply slot after that reply (R158, R175).
-/

namespace Sys2Proof.Machine

/-- The result of executing a command (R171, R175). -/
structure Executed where
  state : State
  reply : ReplyBody
  /-- strings whose measurement the execution aborted; their RESULTs seek slots after the reply, in this order (R158) -/
  aborted : List StringNo := []

/-- A command refused at a check changes no state of any block (R171). -/
def refuse (reason : RefusalReason) (s : State) : Executed := ⟨s, .refused reason, []⟩

/-- A command carried out: ADJUSTED when a value was clamped, ACCEPT otherwise (R175). -/
def carriedOut (adjusted : Bool) (s : State) : Executed := ⟨s, if adjusted then .adjusted else .accept, []⟩

/-- A read answers DATA and changes no state (R178). -/
def answer (words : List Payload) (s : State) : Executed := ⟨s, .data words, []⟩

/-- A command of one string: refused with RANGE for a string number outside 1..6 (R174). -/
def withString (word : Payload) (run : StringNo → State → Executed) (s : State) : Executed :=
  match stringOf word with
  | none => refuse .range s
  | some i => run i s

/-- The mapping table 0..3 a word names (R174). -/
def tableOf (word : Payload) : Option (Fin 4) := if h : word.toNat < 4 then some ⟨word.toNat, h⟩ else none

/-- A command of one mapping table: refused with RANGE for a table above 3 (R174). -/
def withTable (word : Payload) (run : Fin 4 → State → Executed) (s : State) : Executed :=
  match tableOf word with
  | none => refuse .range s
  | some t => run t s

/-- The tracker is ATTACK, SOUNDING or RELEASING: the guard of LOAD GRID and LOAD PROFILE (R34, R55). -/
def TrackerState.playing : TrackerState → Bool
  | .muted => false
  | .silent => false
  | .attack => true
  | .sounding => true
  | .releasing => true

end Sys2Proof.Machine
end

