-- ==== Sys2Proof/Machine/LoadCommands.lean ====
section
/-!
DEFINITION. What the loads do when the command unit executes them: LOAD GRID (R54 to R57), LOAD PROFILE (R33, R34),
LOAD ACTION (R111), LOAD MAP (R118), CLEAR MAP (R119) and LOAD CROSSTALK (R22). Each takes its parameter words, the
count having passed the LENGTH check.
-/

namespace Sys2Proof.Machine

/-! ## LOAD GRID -/

/-- The period entries two words each; none when a high word carries a 1 in bits 14..4 (R54, R56). -/
def gridEntries : List Payload → Option (List Nat)
  | high :: low :: rest =>
    if high.toNat < 16 then (gridEntries rest).map (periodOfWords high low :: ·) else none
  | [_] => none
  | [] => some []

/-- Each entry is smaller than the entry before it (R52). -/
def strictlyDecreasing : List Nat → Bool
  | a :: b :: rest => decide (b < a) && strictlyDecreasing (b :: rest)
  | _ => true

/-- The four conditions every loaded grid meets (R52, R56). -/
def Grid.valid (g : Grid) : Bool :=
  decide (2 ≤ g.entries.length ∧ g.entries.length ≤ 40 ∧ g.base ≤ 127 ∧ g.base + g.entries.length ≤ 128) &&
    g.entries.all (fun p => decide (Config.minPeriod ≤ p ∧ p ≤ Config.maxPeriod)) && strictlyDecreasing g.entries

/-- The grid a LOAD GRID carries, if it passes the content checks (R56). -/
def gridOfWords (base : Payload) (entries : List Payload) : Option Grid :=
  (gridEntries entries).bind fun gs => if Grid.valid ⟨base.toNat, gs⟩ then some ⟨base.toNat, gs⟩ else none

/-- LOAD GRID: the guard, then the content checks, then the grid replaced whole (R55 to R57). -/
def runLoadGrid : List Payload → State → Executed
  | string :: base :: entries, s =>
    withString string (fun i s =>
      if (s.string i).tracker.state.playing then refuse .busy s
      else
        match gridOfWords base entries with
        | none => refuse .grid s
        | some g => carriedOut false (s.modifyString i fun b => { b with grid := some g })) s
  | _, s => refuse .length s

/-! ## LOAD PROFILE -/

/-- The tap a code 0..3 stands for; a code above 3 takes 3 (R34). -/
def Tap.ofCode : Nat → Tap
  | 0 => .raw
  | 1 => .corrected
  | 2 => .filtered
  | _ => .zero

/-- The tap's code (R33). -/
def Tap.code : Tap → Nat
  | .raw => 0
  | .corrected => 1
  | .filtered => 2
  | .zero => 3

/-- The profile eighteen words give, each field clamped to its range, Th_off after Th_on (R33, R34). -/
def profileOfWords : List Payload → Option Profile
  | [l, d, h, on, off, re, ag, gl, ln, ec, gu, rt, dc, ar, ex, db, tap, mon] =>
    let thOn := clamp 1 32768 (on.toNat + 1)
    some
      { lowPass := clamp 0 4 l.toNat, decay := clamp 4 12 d.toNat, halfBand := clamp 1 8191 h.toNat, thOn := thOn
        thOff := clamp 0 (thOn - 1) off.toNat, restrikeRise := clamp 0 32767 re.toNat, agreement := clamp 3 8 ag.toNat
        glide := clamp 0 3 gl.toNat, lossN := clamp 2 15 ln.toNat, earlyCommit := clamp 0 1023 ec.toNat
        giveUp := clamp 1 1023 gu.toNat, releaseTime := clamp 0 1023 rt.toNat, delayCode := clamp 0 3 dc.toNat
        rateMantissa := clamp 0 7 ar.toNat, rateExponent := clamp 0 3 ex.toNat, deadband := clamp 0 63 db.toNat
        tap := .ofCode tap.toNat, monitorStream := decide (0 < mon.toNat) }
  | _ => none

/-- The words of a profile, in the order and coding of LOAD PROFILE's words 2 to 19, Th_on in the Th_on − 1 form (R33,
R180). -/
def profileWords (p : Profile) : List Payload :=
  [p.lowPass, p.decay, p.halfBand, p.thOn - 1, p.thOff, p.restrikeRise, p.agreement, p.glide, p.lossN, p.earlyCommit,
    p.giveUp, p.releaseTime, p.delayCode, p.rateMantissa, p.rateExponent, p.deadband, p.tap.code,
    if p.monitorStream then 1 else 0].map payload

/-- LOAD PROFILE taken: the fields replaced, the input stage cleared, an active measurement aborted; ADJUSTED when a
field was clamped, which is when the stored fields read back other than as given (R34). -/
def takeProfile (i : StringNo) (given : List Payload) (p : Profile) (s : State) : Executed :=
  let loaded := s.modifyString i fun b => { b.clearStage with profile := p }
  let aborted := if (s.string i).record.active then [i] else []
  ⟨abortRecord i loaded, if profileWords p = given then .accept else .adjusted, aborted⟩

/-- LOAD PROFILE (R34). -/
def runLoadProfile : List Payload → State → Executed
  | string :: fields, s =>
    match profileOfWords fields with
    | none => refuse .length s
    | some p =>
      withString string (fun i s =>
        if (s.string i).tracker.state.playing then refuse .busy s else takeProfile i fields p s) s
  | [], s => refuse .length s

/-! ## LOAD ACTION -/

/-- The style a code 0..2 stands for; a code above 2 takes TRIGGER (R111, R113). -/
def Style.ofCode : Nat → Style
  | 0 => .full
  | 1 => .gate
  | _ => .trigger

/-- The style's code. -/
def Style.code : Style → Nat
  | .full => 0
  | .gate => 1
  | .trigger => 2

/-- The verdict a code 0..3 stands for; a code above 3 takes DROP (R111, R137). -/
def Verdict.ofCode : Nat → Verdict
  | 0 => .pass
  | 1 => .copy
  | 2 => .divert
  | _ => .drop

/-- The verdict's code. -/
def Verdict.code : Verdict → Nat
  | .pass => 0
  | .copy => 1
  | .divert => 2
  | .drop => 3

/-- The legato mode of a code; a code above 1 takes SPLIT (R111). -/
def LegatoMode.ofCode : Nat → LegatoMode
  | 0 => .glide
  | _ => .split

/-- The legato mode's code. -/
def LegatoMode.code : LegatoMode → Nat
  | .glide => 0
  | .split => 1

/-- The bank select of a code; a code above 2 takes ALT_ON_A (R111). -/
def BankSelect.ofCode : Nat → BankSelect
  | 0 => .none
  | 1 => .altOnB
  | _ => .altOnA

/-- The bank select's code. -/
def BankSelect.code : BankSelect → Nat
  | .none => 0
  | .altOnB => 1
  | .altOnA => 2

/-- The selector mode of a code 0..3 (R111). -/
def SelectorMode.ofCode : Nat → SelectorMode
  | 0 => .source
  | 1 => .fixed
  | 2 => .mapFirst
  | _ => .mapChain

/-- The selector mode's code. -/
def SelectorMode.code : SelectorMode → Nat
  | .source => 0
  | .fixed => 1
  | .mapFirst => 2
  | .mapChain => 3

/-- A selector from its selector word (mode 5..4, T1 3..2, T2 1..0) and its fixed value, clamped to 0..top (R111). -/
def selectorOfWords (word fixed : Payload) (top : Nat) : Selector :=
  { mode := .ofCode (fieldOf word.toNat 2 4), t1 := Fin.ofNat 4 (fieldOf word.toNat 2 2)
    t2 := Fin.ofNat 4 (fieldOf word.toNat 2 0), fixed := clamp 0 top fixed.toNat }

/-- The two words of a selector, bits 14..6 of the first at 0 (R111, R129). -/
def Selector.words (sel : Selector) : List Nat :=
  [field sel.mode.code 2 4 + field sel.t1.val 2 2 + field sel.t2.val 2 0, sel.fixed]

/-- The action entry eighteen words give, each field clamped to its range (R111). -/
def actionOfWords : List Payload → Option Action
  | [style, ns, nf, vs, vf, ls, lf, span, route, legato, bank, mb, amb, cb, acb, po, lo, io] =>
    some
      { style := .ofCode style.toNat, noteSel := selectorOfWords ns nf 127, velocitySel := selectorOfWords vs vf 127
        laneSel := selectorOfWords ls lf 15, bendSpan := clamp 1 24 span.toNat, route := .ofCode route.toNat
        legato := .ofCode legato.toNat, bankSelect := .ofCode bank.toNat, mapBase := clamp 0 255 mb.toNat
        altMapBase := clamp 0 255 amb.toNat, countBase := clamp 0 127 cb.toNat, altCountBase := clamp 0 127 acb.toNat
        pickedOffset := clamp 0 7 po.toNat, legatoOffset := clamp 0 7 lo.toNat, injectedOffset := clamp 0 7 io.toNat }
  | _ => none

/-- The words of an action entry, in the order and coding of LOAD ACTION's words 2 to 19 (R129). -/
def actionWords (a : Action) : List Payload :=
  (a.style.code :: (a.noteSel.words ++ a.velocitySel.words ++ a.laneSel.words ++
    [a.bendSpan, a.route.code, a.legato.code, a.bankSelect.code, a.mapBase, a.altMapBase, a.countBase, a.altCountBase,
      a.pickedOffset, a.legatoOffset, a.injectedOffset])).map payload

/-- The given words with the ignored bits 14..6 of the three selector words at 0 (R111). -/
def withoutIgnored : List Payload → List Payload
  | style :: ns :: nf :: vs :: vf :: ls :: rest => style :: (ns &&& 63) :: nf :: (vs &&& 63) :: vf :: (ls &&& 63) :: rest
  | short => short

/-- LOAD ACTION: the entry replaced whole; ADJUSTED when a field was clamped, which is when the stored fields read back
other than as given (R111, R112). -/
def runLoadAction : List Payload → State → Executed
  | string :: fields, s =>
    match actionOfWords fields with
    | none => refuse .length s
    | some a =>
      withString string (fun i s =>
        carriedOut (decide (actionWords a ≠ withoutIgnored fields)) (s.modifyString i fun b => { b with action := a })) s
  | [], s => refuse .length s

/-! ## Mapping tables -/

/-- One mapping table changed. -/
def State.modifyTable (t : Fin 4) (f : MapTable → MapTable) (s : State) : State :=
  { s with tables := s.tables.set t (f s.tables[t]) }

/-- The entry a word of LOAD MAP gives: empty with bit 14 set; otherwise its value, 128 and above as 127 (R118). -/
def mapEntryOf (word : Payload) : Option (BitVec 7) :=
  if word.getLsbD 14 then none else some (BitVec.ofNat 7 (clamp 0 127 word.toNat))

/-- The word's value was clamped (R118). -/
def mapEntryClamped (word : Payload) : Bool := !word.getLsbD 14 && decide (127 < word.toNat)

/-- A run of entries written from an index upward (R118). -/
def writeEntries : List Payload → Nat → Vector (Option (BitVec 7)) 256 → Vector (Option (BitVec 7)) 256
  | [], _, v => v
  | w :: rest, at_, v => writeEntries rest (at_ + 1) (v.setIfInBounds at_ (mapEntryOf w))

/-- LOAD MAP (R118). -/
def runLoadMap : List Payload → State → Executed
  | table :: start :: words, s =>
    withTable table (fun t s =>
      if 255 < start.toNat ∨ 256 < start.toNat + words.length then refuse .range s
      else carriedOut (words.any mapEntryClamped)
        (s.modifyTable t fun m => { m with entries := writeEntries words start.toNat m.entries })) s
  | _, s => refuse .length s

/-- The key mode of a code 0..2; a code above 2 takes POSITION (R119). -/
def KeyMode.ofCode : Nat → KeyMode
  | 0 => .note
  | 1 => .grade
  | _ => .position

/-- The key mode's code. -/
def KeyMode.code : KeyMode → Nat
  | .note => 0
  | .grade => 1
  | .position => 2

/-- CLEAR MAP (R119). -/
def runClearMap : List Payload → State → Executed
  | [table, mode], s =>
    withTable table (fun t s =>
      carriedOut (decide (2 < mode.toNat)) (s.modifyTable t fun _ => ⟨.ofCode mode.toNat, Vector.replicate 256 none⟩)) s
  | _, s => refuse .length s

/-! ## LOAD CROSSTALK -/

/-- A coefficient clamped to −128..127 (R22). -/
def clampCoefficient (word : Payload) : Int := clampInt (-128) 127 word.toInt

/-- LOAD CROSSTALK: string; k_hi; k_lo (R22). -/
def runLoadCrosstalk : List Payload → State → Executed
  | [string, hi, lo], s =>
    withString string (fun i s =>
      carriedOut (decide (clampCoefficient hi ≠ hi.toInt ∨ clampCoefficient lo ≠ lo.toInt))
        (s.modifyString i fun b => { b with crosstalk := ⟨clampCoefficient hi, clampCoefficient lo⟩ })) s
  | _, s => refuse .length s

end Sys2Proof.Machine
end

