-- ==== Sys2Proof/Machine/InputStage.lean ====
section
/-!
DEFINITION. The input stage of one string at one frame arrival: crosstalk correction, low-pass, envelope, crossing
detector, raw period, envelope edge and sample tap (R20 to R30). The stage works on its own string alone.
-/

namespace Sys2Proof.Machine

/-- A sample brought into −32,768..32,767 (R21). -/
def saturateSample (v : Int) : Int := clampInt (-32768) 32767 v

/-- The raw sample of a neighbour; 0 where there is none, so that its product is 0 (R21). -/
def neighbourSample (samples : PerString Word) : Option StringNo → Int
  | none => 0
  | some i => (samples.get i).toInt

/-- The corrected sample c (R21). -/
def correctedSample (samples : PerString Word) (x : Crosstalk) (i : StringNo) : Int :=
  let sum := x.kLo * neighbourSample samples i.lower + x.kHi * neighbourSample samples i.higher
  saturateSample ((samples.get i).toInt - Int.fdiv sum 256)

/-- The new filter value y_n (R23). -/
def filterValue (lowPass : Nat) (yBefore c : Int) : Int := yBefore + Int.fdiv (c - yBefore) (2 ^ lowPass)

/-- The new envelope e_n (R24). -/
def envelopeValue (decay : Nat) (y : Int) (eBefore : Nat) : Nat := max y.natAbs (eBefore - eBefore / 2 ^ decay)

/-- The start of frame n in PU, modulo 2^32: 256·n (R28). -/
def frameTime (n : BitVec 24) : Time := n.setWidth 32 * 256

/-- The tentative time of a rise from a < 0 to b ≥ 0 seen at frame n: 256·(n − 1) + floor(256·(−a)/(b − a)) (R28). -/
def crossingTime (n : BitVec 24) (a b : Int) : Time :=
  frameTime n - 256 + BitVec.ofNat 32 (256 * a.natAbs / (b - a).natAbs)

/-- The detector's look for a rising zero crossing (R28). -/
def lookForCrossing (n : BitVec 24) (yBefore y : Int) (st : InputStage) : InputStage :=
  if st.detector = .armed ∧ yBefore < 0 ∧ 0 ≤ y then { st with tentative := some (crossingTime n yBefore y) } else st

/-- The crossing committed at this arrival, if any: ARMED and y ≥ H (R29). -/
def committedNow (halfBand : Nat) (y : Int) (st : InputStage) : Option Time :=
  if st.detector = .armed ∧ (halfBand : Int) ≤ y then st.tentative else none

/-- The commit and the arming of the detector (R29). -/
def commitAndArm (halfBand : Nat) (y : Int) (st : InputStage) : InputStage :=
  let after := if st.detector = .armed ∧ (halfBand : Int) ≤ y then { st with tentative := none, detector := .disarmed } else st
  if y ≤ -(halfBand : Int) ∧ after.detector = .disarmed then { after with detector := .armed, tentative := none } else after

/-- Raw period delivery at an arrival: the stage afterwards, and the raw period delivered, if any (R30). -/
def deliverPeriod (n : BitVec 24) (commit : Option Time) (st : InputStage) : InputStage × Option Nat :=
  match commit, st.committed with
  | some now, none => ({ st with committed := some now }, none)
  | some now, some prev =>
    let p := (now - prev).toNat
    if p < Config.minPeriod then (st, none)
    else ({ st with committed := some now }, if p ≤ Config.maxPeriod then some p else none)
  | none, some prev =>
    if Config.maxPeriod < (frameTime n - prev).toNat then ({ st with committed := none }, none) else (st, none)
  | none, none => (st, none)

/-- An envelope edge (R25 to R27). -/
inductive Edge where
  | onset | fall | rise | restrike
deriving DecidableEq, Repr

/-- The restrike condition: a trough is present, Δ_re > 0 and e_n ≥ trough + Δ_re (R27). -/
def restrikes (restrikeRise e : Nat) (trough : Option Nat) : Bool :=
  match trough with
  | none => false
  | some low => decide (0 < restrikeRise ∧ low + restrikeRise ≤ e)

/-- The edge an arrival chooses, by tracker state, first that applies (R25 to R27). -/
def chooseEdge (p : Profile) (state : TrackerState) (gate : OnsetGate) (trough : Option Nat) (e : Nat) : Option Edge :=
  match state with
  | .muted => none
  | .silent => if gate = .opened ∧ p.thOn ≤ e then some .onset else none
  | .attack => if e < p.thOff then some .fall else none
  | .sounding =>
    if restrikes p.restrikeRise e trough then some .restrike else if e < p.thOff then some .fall else none
  | .releasing =>
    if restrikes p.restrikeRise e trough then some .restrike else if p.thOn ≤ e then some .rise else none

/-- The onset gate after an arrival (R25). -/
def gateAfter (p : Profile) (e : Nat) (gate : OnsetGate) : OnsetGate :=
  if p.thOn ≤ e then .shut else if e < p.thOff then .opened else gate

/-- The trough after an arrival: e_n at a restrike, otherwise the smaller of itself and e_n, while the tracker is
SOUNDING or RELEASING (R27). -/
def troughAfter (p : Profile) (state : TrackerState) (e : Nat) (trough : Option Nat) : Option Nat :=
  if state = .sounding ∨ state = .releasing then
    if restrikes p.restrikeRise e trough then some e else trough.map (min e)
  else trough

/-- The sample the tap chooses (R12). -/
def tapSample (tap : Tap) (raw : Word) (c y : Int) : Word :=
  match tap with
  | .raw => raw
  | .corrected => BitVec.ofInt 16 c
  | .filtered => BitVec.ofInt 16 y
  | .zero => 0

/-- What one arrival leaves and reports: the stage, the sample handed over, the edge and the raw period (R20). -/
structure StageReport where
  stage : InputStage
  handed : Word
  edge : Option Edge
  period : Option Nat

/-- The detector's part of an arrival, from the filter value before it (R20 step 5, R28 to R30). -/
def detect (n : BitVec 24) (halfBand : Nat) (yBefore : Int) (st : InputStage) : InputStage × Option Nat :=
  let looked := lookForCrossing n yBefore st.y st
  deliverPeriod n (committedNow halfBand st.y looked) (commitAndArm halfBand st.y looked)

/-- The input stage of a string runs once, for the frame arrival of frame number n (R20, steps 1 to 7). -/
def runStage (samples : PerString Word) (n : BitVec 24) (i : StringNo) (b : StringBlock) : StageReport :=
  let p := b.profile
  let c := correctedSample samples b.crosstalk i
  let y := filterValue p.lowPass b.stage.y c
  let e := envelopeValue p.decay y b.stage.e
  let (detected, period) := detect n p.halfBand b.stage.y { b.stage with y := y, e := e }
  { stage := { detected with
      gate := gateAfter p e b.stage.gate
      trough := troughAfter p b.tracker.state e b.stage.trough }
    handed := tapSample p.tap (samples.get i) c y
    edge := chooseEdge p b.tracker.state b.stage.gate b.stage.trough e
    period := period }

end Sys2Proof.Machine
end

