-- ==== Sys2Proof/Machine/Pitch.lean ====
section
/-!
DEFINITION. Looking a period up in a grid (R58), note and bend at a start (R61, R62), and the velocity grade (R64,
R65).
-/

namespace Sys2Proof.Machine

/-- The grid outcome of a lookup in a loaded grid (R58). -/
inductive GridOutcome where
  | under | within | over
deriving DecidableEq, Repr

/-- The pitch value inside a grid: the first position k, counted from `note`, whose next entry is below p, and the
fraction of the way to it (R58, case IN). -/
def pitchWithin (note : Nat) (p : Nat) : List Nat → Nat
  | here :: next :: rest =>
    if next < p then 64 * note + (here - p) * 64 / (here - next) else pitchWithin (note + 1) p (next :: rest)
  | _ => 64 * note

/-- A lookup of one period in a loaded grid: the grid outcome and the pitch value Pv (R58). -/
def Grid.lookup (g : Grid) (p : Nat) : GridOutcome × Nat :=
  if g.entries.headD 0 < p then (.under, 64 * g.base)
  else if p ≤ g.entries.getLastD 0 then (.over, 64 * (g.base + g.entries.length - 1))
  else (.within, pitchWithin g.base p g.entries)

/-- A lookup in a string's grid: NONE against an empty grid (R58). -/
def gridLookup (grid : Option Grid) (p : Nat) : Option (GridOutcome × Nat) := grid.map (·.lookup p)

/-- The note nearest a pitch value: floor((Pv + 32)/64) (R61). -/
def noteOf (pv : Nat) : Nat := (pv + 32) / 64

/-- The bend of a pitch value from a tracked note: Pv − 64·note (R61, R63). -/
def bendOf (pv note : Nat) : Int := (pv : Int) - 64 * (note : Int)

/-- The grid position of a note: note − b (R62). An empty grid, which no open note has (R53), counts as base 0. -/
def gridPosition (grid : Option Grid) (note : Nat) : Nat := note - (grid.map (·.base)).getD 0

/-- The velocity grade of an envelope value (R64). -/
def gradeOf (e : Nat) : Nat :=
  if e < 4 then e else 4 * (Nat.log2 e - 1) + e / 2 ^ (Nat.log2 e - 2) % 4

/-- The source velocity of a grade: 2·grade + 8 (R65). -/
def sourceVelocity (grade : Nat) : Nat := 2 * grade + 8

end Sys2Proof.Machine
end

