-- ==== Sys2Proof/Machine/Mapping.lean ====
section
/-!
DEFINITION. The action table and map unit: latching at a note start (R114, R115), lookups in mapping tables (R117),
selectors (R121, R122), and the MAP point for tracker messages (R123, R126) and for injected ones (R128).
-/

namespace Sys2Proof.Machine

/-- The bank bit of a side word: bit 15, set for bank B ("Side word"). -/
def bankBit (side : Word) : Bool := side.getLsbD 15

/-- Bank select: the alternate bases are in use (R115). -/
def BankSelect.usesAlternate : BankSelect → Bool → Bool
  | .none, _ => false
  | .altOnB, bankB => bankB
  | .altOnA, bankB => !bankB

/-- The map base in use (R115). -/
def Action.mapBaseInUse (a : Action) (bankB : Bool) : Nat :=
  if a.bankSelect.usesAlternate bankB then a.altMapBase else a.mapBase

/-- The count base in use (R115). -/
def Action.countBaseInUse (a : Action) (bankB : Bool) : Nat :=
  if a.bankSelect.usesAlternate bankB then a.altCountBase else a.countBase

/-- The counter index: base plus offset; absent when the base is 0 or the sum is 128 or more (R114, R128). -/
def counterIndex (base offset : Nat) : Option Nat :=
  if base = 0 ∨ 128 ≤ base + offset then none else some (base + offset)

/-- The cause offset of a start (R114): the LEGATO offset for a legato start, the PICKED offset otherwise. -/
def Action.startOffset (a : Action) : StartCause → Nat
  | .legato => a.legatoOffset
  | .injected => a.injectedOffset
  | .picked => a.pickedOffset
  | .recovery => a.pickedOffset

/-- The latched action, formed from the action entry, the bank bit and the cause of the start (R114). -/
def Action.latch (a : Action) (bankB : Bool) (cause : StartCause) : LatchedAction :=
  { style := a.style, route := a.route, bendSpan := a.bendSpan, legato := a.legato, noteSel := a.noteSel
    velocitySel := a.velocitySel, mapBase := a.mapBaseInUse bankB, countBase := a.countBaseInUse bankB
    counterIndex := counterIndex (a.countBaseInUse bankB) (a.startOffset cause), lane := none }

/-- The keys a message offers to a lookup, by key mode; absent where the message has none, which is a miss (R117,
R128). -/
structure MapKeys where
  note : Option Nat
  grade : Option Nat
  position : Option Nat
deriving DecidableEq, Repr

/-- The key for a table's key mode. -/
def MapKeys.forMode (k : MapKeys) : KeyMode → Option Nat
  | .note => k.note
  | .grade => k.grade
  | .position => k.position

/-- The POSITION key: (string − 1)·40 + the grid position (R117). -/
def positionKey (i : StringNo) (position : Nat) : Nat := (i.number - 1) * 40 + position

/-- A lookup in a table: the key plus the map base in use is the index; an index of 256 or more, or an empty entry, is
a miss (R117). -/
def MapTable.lookup (t : MapTable) (mapBase : Nat) (keys : MapKeys) : Option Nat :=
  (keys.forMode t.keyMode).bind fun key => (t.entries[mapBase + key]?.getD none).map (·.toNat)

/-- A selector's value for a message, by its mode, from the source value of the field (R121). -/
def Selector.resolve (sel : Selector) (tables : Vector MapTable 4) (mapBase : Nat) (keys : MapKeys) (source : Nat) : Nat :=
  match sel.mode with
  | .source => source
  | .fixed => sel.fixed
  | .mapFirst => (tables[sel.t1].lookup mapBase keys).getD source
  | .mapChain => ((tables[sel.t1].lookup mapBase keys).or (tables[sel.t2].lookup mapBase keys)).getD sel.fixed

/-- A velocity of 0 becomes 1 (R122). -/
def velocityField (v : Nat) : Nat := if v = 0 then 1 else v

/-- A lane is taken modulo 16: this brings a table's value into range and leaves 0..15 as it is (R122). -/
def laneField (v : Nat) : Nat := v % 16

/-- The bend clamped to ±64 times the bend span (R126). -/
def clampBend (span : Nat) (bend : Int) : Int := clampInt (-(64 * (span : Int))) (64 * (span : Int)) bend

/-- What the tracker asks to be sent (R84): the kind with its cause, pitch value, velocity grade and early bit. The
tracked note and the latched action are the context's. -/
inductive TrackerMessage where
  | start (cause : StartCause) (pv : Nat) (grade : Nat) (early : Bool)
  | pitch (cause : PitchCause) (pv : Nat)
  | restrike (grade : Nat)
  | noteEnd (cause : EndCause)
deriving DecidableEq, Repr

/-- The velocity grade a lookup for the message keys on: the grade the message carries, or the context's where it
carries none (R117). -/
def TrackerMessage.grade (m : TrackerMessage) (c : NoteContext) : Nat :=
  match m with
  | .start _ _ grade _ => grade
  | .pitch _ _ => c.grade
  | .restrike grade => grade
  | .noteEnd _ => c.grade

/-- The keys of a tracker message (R117). -/
def trackerKeys (i : StringNo) (grid : Option Grid) (c : NoteContext) (grade : Nat) : MapKeys :=
  ⟨some c.note, some grade, some (positionKey i (gridPosition grid c.note))⟩

/-- The source value of the note field: the tracked note, or its grid position in the POSITION form (R121, R124). -/
def sourceNote (grid : Option Grid) (c : NoteContext) : Nat :=
  match c.form with
  | .note => c.note
  | .position => gridPosition grid c.note

/-- The note field of a tracker message (R123). -/
def trackerNote (tables : Vector MapTable 4) (b : StringBlock) (c : NoteContext) (keys : MapKeys) : Nat :=
  c.latched.noteSel.resolve tables c.latched.mapBase keys (sourceNote b.grid c)

/-- The velocity field of a tracker message (R122, R123). -/
def trackerVelocity (tables : Vector MapTable 4) (c : NoteContext) (keys : MapKeys) (grade : Nat) : Nat :=
  velocityField (c.latched.velocitySel.resolve tables c.latched.mapBase keys (sourceVelocity grade))

/-- The lane of a tracker message: a NOTE START of cause PICKED or LEGATO resolves it through the lane selector of the
string's entry, and every other message carries the resolved lane of its context (R123). -/
def trackerLane (tables : Vector MapTable 4) (i : StringNo) (b : StringBlock) (c : NoteContext) (m : TrackerMessage)
    (keys : MapKeys) : Nat :=
  match m with
  | .start .picked _ _ _ => laneField (b.action.laneSel.resolve tables c.latched.mapBase keys i.number)
  | .start .legato _ _ _ => laneField (b.action.laneSel.resolve tables c.latched.mapBase keys i.number)
  | .start .recovery _ _ _ => c.latched.lane.getD 0
  | .start .injected _ _ _ => c.latched.lane.getD 0
  | .pitch _ _ => c.latched.lane.getD 0
  | .restrike _ => c.latched.lane.getD 0
  | .noteEnd _ => c.latched.lane.getD 0

/-- The kind and continuation fields of a tracker message at MAP (R123, R126). -/
def trackerBody (tables : Vector MapTable 4) (b : StringBlock) (c : NoteContext) (m : TrackerMessage) (keys : MapKeys) :
    MessageBody :=
  match m with
  | .start cause pv grade early =>
    .noteStart cause (trackerNote tables b c keys) (trackerVelocity tables c keys grade) early
      (clampBend c.latched.bendSpan (bendOf pv c.note))
  | .pitch cause pv =>
    .pitch cause (trackerNote tables b c keys) (clampBend c.latched.bendSpan (bendOf pv c.note))
  | .restrike grade => .restrike (trackerVelocity tables c keys grade)
  | .noteEnd cause => .noteEnd cause

/-- The MAP point for a tracker message: the message the engine would see (R123). -/
def mapTracker (tables : Vector MapTable 4) (i : StringNo) (b : StringBlock) (c : NoteContext) (m : TrackerMessage) : Message :=
  let keys := trackerKeys i b.grid c (m.grade c)
  { string := i, lane := trackerLane tables i b c m keys, monitor := false, injected := false
    body := trackerBody tables b c m keys }

/-! ## Injected messages -/

/-- The kind of an injected message (R137). -/
inductive InjectKind where
  | noteStart | pitch | restrike | noteEnd
deriving DecidableEq, Repr

/-- The words of an INJECT, after clamping. A field its kind and point do not use is not looked at (R137). -/
structure Injection where
  kind : InjectKind
  string : StringNo
  verdict : Verdict
  note : Nat
  bend : Int
  grade : Nat
  velocity : Nat
  lane : Nat
deriving DecidableEq, Repr

/-- The kind carries a note (R137, word 5). -/
def InjectKind.hasNote : InjectKind → Bool
  | .noteStart => true
  | .pitch => true
  | .restrike => false
  | .noteEnd => false

/-- The kind carries a velocity (R137, words 7 and 8). -/
def InjectKind.hasVelocity : InjectKind → Bool
  | .noteStart => true
  | .pitch => false
  | .restrike => true
  | .noteEnd => false

/-- The supplied note's position, when the grid is loaded and the note lies within b..b + N − 1 (R128). -/
def injectedPosition (grid : Option Grid) (note : Nat) : Option Nat :=
  grid.bind fun g => if g.base ≤ note ∧ note < g.base + g.entries.length then some (note - g.base) else none

/-- The keys of a message injected at MAP (R128). -/
def injectedKeys (b : StringBlock) (j : Injection) : MapKeys :=
  { note := if j.kind.hasNote then some j.note else none
    grade := if j.kind.hasVelocity then some j.grade else none
    position := if j.kind.hasNote then (injectedPosition b.grid j.note).map (positionKey j.string) else none }

/-- The kind and continuation fields of an injected message, from its note and velocity (R138): cause INJECTED for
NOTE START and NOTE END, GLIDE for PITCH; early bit 0; the bend clamped to the current entry's span (R137). -/
def injectedBody (b : StringBlock) (j : Injection) (note velocity : Nat) : MessageBody :=
  let bend := clampBend b.action.bendSpan j.bend
  match j.kind with
  | .noteStart => .noteStart .injected note velocity false bend
  | .pitch => .pitch .glide note bend
  | .restrike => .restrike velocity
  | .noteEnd => .noteEnd .injected

/-- The MAP point for an injected message: the current entry's selectors, the current bank bit (R128). -/
def mapInjected (tables : Vector MapTable 4) (b : StringBlock) (bankB : Bool) (j : Injection) : Message :=
  let keys := injectedKeys b j
  let base := b.action.mapBaseInUse bankB
  let note := b.action.noteSel.resolve tables base keys j.note
  let velocity := velocityField (b.action.velocitySel.resolve tables base keys (sourceVelocity j.grade))
  { string := j.string, lane := laneField (b.action.laneSel.resolve tables base keys j.string.number), monitor := false
    injected := true, body := injectedBody b j note velocity }

/-- A message injected at ROUTE or ADMIT carries its fields as supplied (R138). -/
def plainInjected (b : StringBlock) (j : Injection) : Message :=
  { string := j.string, lane := j.lane, monitor := false, injected := true, body := injectedBody b j j.note j.velocity }

/-- The counter index of an injected message: the current entry's count base in use and INJECTED offset (R128, R138). -/
def injectedIndex (b : StringBlock) (bankB : Bool) : Option Nat :=
  counterIndex (b.action.countBaseInUse bankB) b.action.injectedOffset

end Sys2Proof.Machine
end

