-- ==== Sys2Proof/Machine/Routing.lean ====
section
/-!
DEFINITION. ROUTE and ADMIT: verdicts (R131), counting (R139 to R141), the event queue's admission rules (R146 to
R149), and a message's crossing of the points (R130).
-/

namespace Sys2Proof.Machine

/-! ## Verdicts -/

/-- The order PASS < COPY < DIVERT < DROP (R131). -/
def Verdict.rank : Verdict → Nat
  | .pass => 0
  | .copy => 1
  | .divert => 2
  | .drop => 3

/-- The higher of two verdicts (R131). -/
def Verdict.higher (v w : Verdict) : Verdict := if v.rank ≤ w.rank then w else v

/-- The verdict calls for a monitor copy at ROUTE (R131). -/
def Verdict.copies : Verdict → Bool
  | .pass => false
  | .copy => true
  | .divert => true
  | .drop => false

/-- The verdict hands the event copy to ADMIT (R131). -/
def Verdict.offers : Verdict → Bool
  | .pass => true
  | .copy => true
  | .divert => false
  | .drop => false

/-! ## Counting -/

/-- The message is a NOTE START, which also counts in NOTES (R139). -/
def Message.isStart (m : Message) : Bool :=
  match m.body with
  | .noteStart .. => true
  | .pitch .. => false
  | .restrike .. => false
  | .noteEnd .. => false
  | .tune .. => false

/-- A message counted at one set; both counts wrap (R139). -/
def CounterSet.count (isStart : Bool) (c : CounterSet) : CounterSet :=
  ⟨if isStart then c.notes + 1 else c.notes, c.messages + 1⟩

/-- One set of a vector of counter sets changed by counting a message. -/
def countAt (index : Nat) (isStart : Bool) (sets : Vector CounterSet 128) : Vector CounterSet 128 :=
  sets.setIfInBounds index ((sets[index]?.getD ⟨0, 0⟩).count isStart)

/-- A message is counted at the set of its index and at set 0 with it; without an index it is not counted (R139). -/
def State.countMessage (index : Option Nat) (m : Message) (s : State) : State :=
  match index with
  | none => s
  | some k => { s with rc := { s.rc with sets := countAt 0 m.isStart (countAt k m.isStart s.rc.sets) } }

/-! ## The event queue -/

/-- Occupancy plus the reserved count. -/
def EventQueue.load (q : EventQueue) : Nat := q.entries.length + q.reserved

/-- The message is a PITCH. -/
def Message.isPitch (m : Message) : Bool :=
  match m.body with
  | .noteStart .. => false
  | .pitch .. => true
  | .restrike .. => false
  | .noteEnd .. => false
  | .tune .. => false

/-- The message is a PITCH of a string. -/
def Message.isPitchOf (i : StringNo) (m : Message) : Bool := m.isPitch && decide (m.string = i)

/-- The rank RETARGET above SLUR above GLIDE (R149). -/
def PitchCause.rank : PitchCause → Nat
  | .glide => 0
  | .slur => 1
  | .retarget => 2

/-- The higher of two PITCH causes (R149). -/
def PitchCause.higher (a b : PitchCause) : PitchCause := if a.rank ≤ b.rank then b else a

/-- A queued PITCH replaced in place: it takes the arriving note field, bend, lane and injected bit, and the higher
cause (R149). -/
def replacedPitch (queued arriving : Message) : Message :=
  match queued.body, arriving.body with
  | .pitch old _ _, .pitch new note bend =>
    { queued with lane := arriving.lane, injected := arriving.injected, body := .pitch (old.higher new) note bend }
  | _, _ => queued

/-- The result of offering an event copy at ADMIT: the part afterwards, and whether the copy was admitted (R136). -/
structure Admission where
  state : State
  admitted : Bool

/-- The queue takes a message at its tail. -/
def EventQueue.enqueue (m : Message) (q : EventQueue) : EventQueue := { q with entries := q.entries ++ [m] }

/-- A message that takes one unit and no reservation (R147). -/
def admitOne (m : Message) (s : State) : Admission :=
  if s.eq.load + 1 ≤ Config.eventQueueSize then ⟨{ s with eq := s.eq.enqueue m }, true⟩ else ⟨s, false⟩

/-- A NOTE START of a FULL or GATE note from the tracker: two free units, one of them reserved for its end; a refusal
sets START_LOST and counts (R146). -/
def admitReserving (m : Message) (s : State) : Admission :=
  if s.eq.load + 2 ≤ Config.eventQueueSize then
    ⟨{ s with eq := { s.eq.enqueue m with reserved := s.eq.reserved + 1 } }, true⟩
  else ⟨(s.causeFlag .startLost).bumpCounter .startsLost, false⟩

/-- A PITCH: it replaces the queued PITCH of its string in place, or takes one unit, or is refused with UPDATE_LOST
(R149). -/
def admitPitch (m : Message) (s : State) : Admission :=
  if s.eq.entries.any (·.isPitchOf m.string) then
    let entries := s.eq.entries.map fun q => if q.isPitchOf m.string then replacedPitch q m else q
    ⟨{ s with eq := { s.eq with entries := entries } }, true⟩
  else if s.eq.load + 1 ≤ Config.eventQueueSize then ⟨{ s with eq := s.eq.enqueue m }, true⟩
  else ⟨(s.causeFlag .updateLost).bumpCounter .updatesLost, false⟩

/-- The NOTE END of an announced note: always admitted; a queued PITCH of its string is removed and its reservation is
used (R148). -/
def admitEnd (m : Message) (s : State) : Admission :=
  let kept := s.eq.entries.filter fun q => !q.isPitchOf m.string
  ⟨{ s with eq := { entries := kept ++ [m], reserved := s.eq.reserved - 1 } }, true⟩

/-- The event queue's admission rules, by kind, by the injected bit, and, for a tracker NOTE START, by whether its
note's style is FULL or GATE (`reserves`) (R146 to R149). -/
def admitMessage (reserves : Bool) (m : Message) (s : State) : Admission :=
  match m.body with
  | .noteStart .. => if reserves then admitReserving m s else admitOne m s
  | .pitch .. => admitPitch m s
  | .restrike .. => admitOne m s
  | .noteEnd .. => if m.injected then admitOne m s else admitEnd m s
  | .tune .. => ⟨s, false⟩

/-! ## Crossing the points -/

/-- What the offering event learns when a crossing ends (R130), with the part afterwards. -/
structure Crossing where
  state : State
  /-- a monitor copy was placed at ROUTE -/
  copied : Bool
  /-- the event copy was offered at ADMIT -/
  offered : Bool
  /-- the event copy was admitted -/
  admitted : Bool

/-- ADMIT: the event copy is offered, and counted there if the count point is ADMIT and it was admitted (R136, R141). -/
def admitStage (reserves : Bool) (index : Option Nat) (m : Message) (s : State) : Admission :=
  let a := admitMessage reserves m s
  if a.admitted ∧ a.state.rc.countPoint = .atAdmit then ⟨a.state.countMessage index m, true⟩ else a

/-- ROUTE, for a message that leaves it with verdict v: a COPY or DIVERT places a monitor copy, with its monitor bit at
1, and a PASS or COPY is counted if the count point is ROUTE (R133, R134, R140). -/
def routeStage (v : Verdict) (index : Option Nat) (m : Message) (s : State) : State :=
  let copied := if v.copies then s.placeMonitor { m with monitor := true } else s
  if v.offers ∧ copied.rc.countPoint = .route then copied.countMessage index m else copied

/-- ROUTE and ADMIT: the verdict is raised by the route, and the event copy is offered when the verdict is then PASS or
COPY and the message is not withheld (R130, R133, R135). -/
def crossRoute (verdict route : Verdict) (withheld reserves : Bool) (index : Option Nat) (m : Message) (s : State) :
    Crossing :=
  let v := verdict.higher route
  let routed := routeStage v index m s
  if v.offers ∧ !withheld then
    let a := admitStage reserves index m routed
    ⟨a.state, v.copies, true, a.admitted⟩
  else ⟨routed, v.copies, false, false⟩

/-- A message injected at ADMIT meets no route: it is offered when its verdict is PASS or COPY (R138). -/
def crossAdmit (verdict : Verdict) (index : Option Nat) (m : Message) (s : State) : Crossing :=
  if verdict.offers then
    let a := admitStage false index m s
    ⟨a.state, false, true, a.admitted⟩
  else ⟨s, false, false, false⟩

/-- The style reserves a place for its NOTE END: FULL and GATE do (R146). -/
def Style.reserves : Style → Bool
  | .full => true
  | .gate => true
  | .trigger => false

/-- A tracker message crosses MAP, ROUTE and ADMIT under its context (R130). -/
def crossTracker (i : StringNo) (c : NoteContext) (withheld : Bool) (m : TrackerMessage) (s : State) : Crossing :=
  crossRoute .pass c.latched.route withheld c.latched.style.reserves c.latched.counterIndex
    (mapTracker s.tables i (s.string i) c m) s

end Sys2Proof.Machine
end

