-- ==== Sys2Proof/Machine/Tracker.lean ====
section
/-!
DEFINITION. The note tracker of a string: starting and ending notes, the messages it builds, and how it takes edges,
outcomes and expiries (R81 to R106). Every operation acts on the whole part, since a message crosses the points within
the event that builds it (R84).
-/

namespace Sys2Proof.Machine

/-! ## Building and offering messages -/

/-- The update scheduler starts, latching the repeat period and the deadband (R77). -/
def UpdateScheduler.start (p : Profile) : UpdateScheduler :=
  { running := true, value := (p.delayCode + 1) * 16, period := (8 + p.rateMantissa) * 2 ^ p.rateExponent
    deadband := p.deadband }

/-- The update scheduler of a string starts for an announced FULL note (R77). -/
def startScheduler (i : StringNo) (s : State) : State :=
  s.modifyString i fun b => { b with timers := { b.timers with update := .start b.profile } }

/-- The context takes the two results of its start's crossing: announced when the event copy was admitted, monitored
when a monitor copy was placed (R83, R101). -/
def NoteContext.takeStartResult (copied admitted : Bool) (c : NoteContext) : NoteContext :=
  { c with announced := c.announced || admitted, monitored := c.monitored || copied }

/-- A NOTE START is offered in full under the string's open context; a FULL note it announces starts the update
scheduler (R77, R83, R101). -/
def offerStart (i : StringNo) (cause : StartCause) (s : State) : State :=
  match (s.string i).tracker.context with
  | none => s
  | some c =>
    let x := crossTracker i c false (.start cause c.pvComputed c.grade c.early) s
    let noted := x.state.modifyContext i (·.takeStartResult x.copied x.admitted)
    if x.admitted ∧ c.latched.style = .full then startScheduler i noted else noted

/-- A later message of an open note: offered in full when the note is announced, withheld when it is unannounced and
monitored, not built otherwise. Answers whether it was admitted (R86). -/
def laterMessage (i : StringNo) (m : TrackerMessage) (s : State) : Admission :=
  match (s.string i).tracker.context with
  | none => ⟨s, false⟩
  | some c =>
    if c.announced ∨ c.monitored then
      let x := crossTracker i c (!c.announced) m s
      ⟨x.state, x.admitted⟩
    else ⟨s, false⟩

/-- A PITCH of a FULL note, from its Pv last computed; Pv last queued takes that Pv when it is admitted (R84, R85). -/
def buildPitch (i : StringNo) (cause : PitchCause) (s : State) : State :=
  match (s.string i).tracker.context with
  | none => s
  | some c =>
    if c.latched.style = .full then
      let a := laterMessage i (.pitch cause c.pvComputed) s
      if a.admitted then a.state.modifyContext i fun k => { k with pvQueued := some c.pvComputed } else a.state
    else s

/-- The end of an open note: a FULL or GATE note builds its NOTE END, and the context closes whatever the admission
result (R84 to R86). The caller says where the tracker goes. -/
def endNote (i : StringNo) (cause : EndCause) (s : State) : State :=
  match (s.string i).tracker.context with
  | none => s
  | some c =>
    let sent := if c.latched.style.reserves then (laterMessage i (.noteEnd cause) s).state else s
    sent.modifyString i (·.closeContext)

/-! ## Starting a note -/

/-- The context a start opens, from its pitch value, cause, grade, peak and early flag (R83 step 2). -/
def openContext (b : StringBlock) (bankB : Bool) (form : NumberingForm) (pv : Nat) (cause : StartCause) (grade peak : Nat)
    (early : Bool) : NoteContext :=
  { note := noteOf pv, pvComputed := pv, pvQueued := none, grade := grade, cause := cause, early := early
    announced := false, monitored := false, bankB := bankB, form := form, latched := b.action.latch bankB cause
    peak := peak }

/-- The lane a start resolves at MAP is stored in its context before the start goes on to ROUTE (R123). -/
def storeLane (i : StringNo) (cause : StartCause) (s : State) : State :=
  let b := s.string i
  s.modifyContext i fun c =>
    let m := TrackerMessage.start cause c.pvComputed c.grade c.early
    { c with latched := { c.latched with lane := some (mapTracker s.tables i b c m).lane } }

/-- The string's blocks when a note starts: context open, trough at the envelope, attack clock stopped, SOUNDING, attack
peak moved out (R83 steps 2 to 4). -/
def StringBlock.startNote (c : NoteContext) (b : StringBlock) : StringBlock :=
  { b with
    stage := { b.stage with trough := some b.stage.e }
    timers := { b.timers with attack := b.timers.attack.stop }
    tracker := ⟨.sounding, some c, 0⟩ }

/-- A note starts (R83). -/
def startNote (i : StringNo) (pv : Nat) (cause : StartCause) (grade peak : Nat) (early : Bool) (s : State) : State :=
  let c := openContext (s.string i) (bankBit s.plu.side) s.numbering pv cause grade peak early
  offerStart i cause (storeLane i cause (s.modifyString i (·.startNote c)))

/-- A start from ATTACK, firm or early: cause PICKED, the attack peak and its grade (R92, R93). -/
def startFromAttack (i : StringNo) (pv : Nat) (early : Bool) (s : State) : State :=
  let peak := (s.string i).tracker.attackPeak
  startNote i pv .picked (gradeOf peak) peak early s

/-- A legato start: cause LEGATO, the envelope as the peak and its grade (R98). -/
def startLegato (i : StringNo) (pv : Nat) (s : State) : State :=
  let e := (s.string i).stage.e
  startNote i pv .legato (gradeOf e) e false s

/-! ## Envelope edges -/

/-- ONSET in SILENT: the validator is cleared, the attack clock starts with EC and GU latched, the attack peak takes e,
the onset is counted, and the tracker goes to ATTACK (R71, R90). -/
def takeOnset (i : StringNo) (s : State) : State :=
  (s.modifyString i fun b =>
    { b with
      validator := .cleared
      timers := { b.timers with attack := ⟨true, 0, b.profile.earlyCommit, b.profile.giveUp⟩ }
      tracker := { b.tracker with state := .attack, attackPeak := b.stage.e } }).bumpCounter (.onsets i)

/-- An attack ends without a note: the attack clock stops, the attack peak is discarded, no message (R91, R94). -/
def endAttack (i : StringNo) (after : TrackerState) (s : State) : State :=
  s.modifyString i fun b =>
    { b with
      timers := { b.timers with attack := b.timers.attack.stop }
      tracker := { b.tracker with state := after, attackPeak := 0 } }

/-- The tracker returns to SOUNDING with the release counter stopped (R76, R103). -/
def backToSounding (i : StringNo) (s : State) : State :=
  s.modifyString i fun b =>
    { b with
      timers := { b.timers with release := b.timers.release.stop }
      tracker := { b.tracker with state := .sounding } }

/-- FALL in SOUNDING: with RT above 0 the release counter is loaded and the tracker goes to RELEASING; with RT 0 the
note ends at the FALL (R75, R102). -/
def fallInSounding (i : StringNo) (s : State) : State :=
  let rt := (s.string i).profile.releaseTime
  if 0 < rt then
    s.modifyString i fun b =>
      { b with
        timers := { b.timers with release := ⟨true, rt⟩ }
        tracker := { b.tracker with state := .releasing } }
  else (endNote i .release s).setTracker i .silent

/-- A NOTE START with cause RECOVERY, in place of a RESTRIKE: the context's start cause and grade change, the latched
action does not, and the start is offered in full (R101). -/
def recoveryStart (i : StringNo) (s : State) : State :=
  let grade := gradeOf (s.string i).stage.e
  offerStart i .recovery (s.modifyContext i fun c => { c with cause := .recovery, grade := grade })

/-- What a RESTRIKE edge builds for the open note (R101). -/
def restrikeNote (i : StringNo) (s : State) : State :=
  match (s.string i).tracker.context with
  | none => s
  | some c =>
    if c.latched.style.reserves then
      if c.announced then (laterMessage i (.restrike (gradeOf (s.string i).stage.e)) s).state else recoveryStart i s
    else s

/-- The tracker takes an envelope edge on its state. An edge is only chosen for a state that takes it (R25 to R27); in
any other state nothing happens. -/
def takeEdge (i : StringNo) (edge : Edge) (s : State) : State :=
  match edge, (s.string i).tracker.state with
  | .onset, .silent => takeOnset i s
  | .fall, .attack => endAttack i .silent s
  | .fall, .sounding => fallInSounding i s
  | .rise, .releasing => backToSounding i s
  | .restrike, .sounding => restrikeNote i s
  | .restrike, .releasing => restrikeNote i (backToSounding i s)
  | _, _ => s

/-! ## Validator outcomes -/

/-- The outcome brings a pitch: LOCK, GLIDE, MERGE and JUMP (R92). -/
def LockOutcome.locks : LockOutcome → Bool
  | .unlocked => false
  | .lock => true
  | .glide => true
  | .merge => true
  | .jump => true
  | .miss => false
  | .lost => false

/-- The outcome builds a TUNE when the stream is on: LOCK, GLIDE and JUMP (R87). -/
def LockOutcome.tunes : LockOutcome → Bool
  | .unlocked => false
  | .lock => true
  | .glide => true
  | .merge => false
  | .jump => true
  | .miss => false
  | .lost => false

/-- The tracker state in which an outcome's pitch is looked up for the tracker's own use (R92, R95). -/
def TrackerState.followsPitch : TrackerState → Bool
  | .muted => false
  | .silent => false
  | .attack => true
  | .sounding => true
  | .releasing => true

/-- A lookup answered UNDER or OVER sets RANGE under the flag mask (R60, R87). -/
def noteRange (outcome : GridOutcome) (s : State) : State :=
  match outcome with
  | .within => s
  | .under => s.causeFlag .range
  | .over => s.causeFlag .range

/-- The first locking outcome after an early start: the early flag is cleared, and when the locked note differs the
context takes it and a FULL note builds a PITCH with cause RETARGET (R96). -/
def clearEarly (i : StringNo) (pv note : Nat) (s : State) : State :=
  let settled := s.modifyContext i fun k => { k with early := false, pvComputed := pv, note := noteOf pv }
  if noteOf pv = note then settled else buildPitch i .retarget settled

/-- A change of note (R97, R98): in mode GLIDE the context takes the new note and a FULL note builds a PITCH with cause
SLUR; in mode SPLIT the note ends with cause SPLIT and a legato start follows. -/
def changeNote (i : StringNo) (mode : LegatoMode) (pv : Nat) (s : State) : State :=
  match mode with
  | .glide => buildPitch i .slur (s.modifyContext i fun k => { k with pvComputed := pv, note := noteOf pv })
  | .split => startLegato i pv (endNote i .split (s.modifyContext i fun k => { k with pvComputed := pv }))

/-- A pitch that moves the open note without changing it (R95). -/
def movePitch (i : StringNo) (pv : Nat) (s : State) : State := s.modifyContext i fun k => { k with pvComputed := pv }

/-- A JUMP taken in RELEASING returns the tracker to SOUNDING; in SOUNDING there is nothing to return from (R103). -/
def jumpReturns (i : StringNo) (outcome : LockOutcome) (s : State) : State :=
  if outcome = .jump ∧ (s.string i).tracker.state = .releasing then backToSounding i s else s

/-- A locking outcome with pitch value pv, taken while the context c is open (R95 to R98, R103). -/
def pitchOutcome (i : StringNo) (outcome : LockOutcome) (pv : Nat) (c : NoteContext) (s : State) : State :=
  if c.early then clearEarly i pv c.note (jumpReturns i outcome s)
  else if (outcome = .jump ∨ outcome = .lock) ∧ noteOf pv ≠ c.note then changeNote i c.latched.legato pv (backToSounding i s)
  else movePitch i pv (jumpReturns i outcome s)

/-- LOST while a note is open: TRACK_LOST under the flag mask, and the lock loss is counted (R99). -/
def lostInNote (i : StringNo) (s : State) : State := (s.causeFlag .trackLost).bumpCounter (.lockLosses i)

/-- The tracker takes a locking outcome whose lookup answered (R92, R95). -/
def takePitch (i : StringNo) (outcome : LockOutcome) (found : GridOutcome × Nat) (s : State) : State :=
  match (s.string i).tracker.state, (s.string i).tracker.context with
  | .attack, _ => if found.1 = .within then startFromAttack i found.2 false s else s
  | .sounding, some c => pitchOutcome i outcome found.2 c s
  | .releasing, some c => pitchOutcome i outcome found.2 c s
  | _, _ => s

/-- The tracker hands a TUNE with a pitch value directly to the monitor queue (R87). -/
def placeTune (i : StringNo) (pv : Nat) (s : State) : State :=
  s.placeMonitor { string := i, lane := 0, monitor := false, injected := false, body := .tune pv }

/-- The outcome's lookup, made once for the tracker's own use and for the TUNE: RANGE is noted, the outcome is taken,
and the TUNE is placed after the messages it built (R87, R155). -/
def takeLocking (i : StringNo) (outcome : LockOutcome) (a : Nat) (s : State) : State :=
  let b := s.string i
  let tunes := b.profile.monitorStream && outcome.tunes
  match gridLookup b.grid a with
  | none => s
  | some found =>
    if b.tracker.state.followsPitch ∨ tunes then
      let taken := takePitch i outcome found (noteRange found.1 s)
      if tunes then placeTune i found.2 taken else taken
    else s

/-- The tracker takes an outcome, with A as it stands after it (R45, R88, R90 to R99). -/
def takeOutcome (i : StringNo) (outcome : LockOutcome) (accepted : Option Nat) (s : State) : State :=
  match outcome, accepted with
  | .lost, _ => if (s.string i).tracker.context.isSome then lostInNote i s else s
  | _, some a => if outcome.locks then takeLocking i outcome a s else s
  | _, none => s

/-! ## Timer expiries -/

/-- The pitch value of the first record, newest first, whose lookup answers IN (R93). -/
def earlyPitch (grid : Option Grid) : List RawRecord → Option Nat
  | [] => none
  | r :: older =>
    match gridLookup grid r.period with
    | some (.within, pv) => some pv
    | _ => earlyPitch grid older

/-- A record was examined before that one whose lookup answered UNDER or OVER (R93). -/
def earlyOutside (grid : Option Grid) : List RawRecord → Bool
  | [] => false
  | r :: older =>
    match gridLookup grid r.period with
    | some (.within, _) => false
    | some (.under, _) => true
    | some (.over, _) => true
    | none => earlyOutside grid older

/-- The early-point expiry taken in ATTACK: an early start from the ring, or nothing (R93). -/
def takeEarlyPoint (i : StringNo) (s : State) : State :=
  let b := s.string i
  if b.tracker.state = .attack then
    let noted := if earlyOutside b.grid b.validator.ring then s.causeFlag .range else s
    match earlyPitch b.grid b.validator.ring with
    | some pv => startFromAttack i pv true noted
    | none => noted
  else s

/-- The give-up expiry: the unpitched onset is counted, and the tracker leaves ATTACK for SILENT (R73, R94). -/
def takeGiveUp (i : StringNo) (s : State) : State :=
  let counted := s.bumpCounter (.unpitchedOnsets i)
  if (s.string i).tracker.state = .attack then endAttack i .silent counted else counted

/-- The release expiry: the note ends with cause RELEASE and the tracker goes to SILENT (R104). -/
def takeReleaseExpiry (i : StringNo) (s : State) : State :=
  if (s.string i).tracker.state = .releasing then (endNote i .release s).setTracker i .silent else s

/-- The magnitude of the difference of two pitch values. -/
def pvDistance (p q : Nat) : Nat := (p - q) + (q - p)

/-- The update test (R78). -/
def updateTest (b : StringBlock) : Bool :=
  match b.tracker.context with
  | none => false
  | some c =>
    b.validator.accepted.isSome && !c.early &&
      (match c.pvQueued with
       | none => true
       | some q => decide (b.timers.update.deadband ≤ pvDistance c.pvComputed q))

/-- The update expiry: when the test passes, a PITCH with cause GLIDE is built (R78, R100). -/
def takeUpdateExpiry (i : StringNo) (s : State) : State :=
  if updateTest (s.string i) then buildPitch i .glide s else s

/-! ## Ending notes by command -/

/-- STRING OFF for one string (R105). -/
def offString (i : StringNo) (s : State) : State :=
  match (s.string i).tracker.state with
  | .sounding => (endNote i .off s).setTracker i .muted
  | .releasing => (endNote i .off s).setTracker i .muted
  | .attack => endAttack i .muted s
  | .silent => s.setTracker i .muted
  | .muted => s

/-- ALL NOTES END for one string (R106). -/
def panicString (i : StringNo) (s : State) : State :=
  match (s.string i).tracker.state with
  | .sounding => (endNote i .panic s).setTracker i .silent
  | .releasing => (endNote i .panic s).setTracker i .silent
  | .attack => endAttack i .silent s
  | .silent => s
  | .muted => s

end Sys2Proof.Machine
end

