-- ==== Sys2Proof/Machine/NoteCommands.lean ====
section
/-!
DEFINITION. What the commands to strings do when the command unit executes them: STRING ON (R89), STRING OFF (R105), ALL
NOTES END (R106), MEASURE (R185), MEASURE CANCEL (R190) and INJECT (R137, R138).
-/

namespace Sys2Proof.Machine

/-! ## STRING ON, STRING OFF, ALL NOTES END -/

/-- A MUTED tracker goes to SILENT; any other is left (R89). -/
def onString (i : StringNo) (s : State) : State :=
  if (s.string i).tracker.state = .muted then s.setTracker i .silent else s

/-- STRING ON: refused with NO_GRID when a named string has an empty grid (R89). -/
def runStringOn : List Payload → State → Executed
  | [mask], s =>
    if (maskedStrings mask).any (fun i => (s.string i).grid.isNone) then refuse .noGrid s
    else carriedOut false (forStrings (maskedStrings mask) onString s)
  | _, s => refuse .length s

/-- STRING OFF: the named strings in order from 1 to 6 (R105). -/
def runStringOff : List Payload → State → Executed
  | [mask], s => carriedOut false (forStrings (maskedStrings mask) offString s)
  | _, s => refuse .length s

/-- ALL NOTES END: the strings in order from 1 to 6 (R106). -/
def runAllNotesEnd : List Payload → State → Executed
  | [], s => carriedOut false (forStrings allStrings panicString s)
  | _, s => refuse .length s

/-! ## MEASURE, MEASURE CANCEL -/

/-- A record set up for a measurement of N periods and at most T ticks (R185). -/
def Measurement.start (n t : Nat) : Measurement := ⟨.running, n, t, 0, 0, none, none, 0, none⟩

/-- MEASURE: refused with BUSY unless the record is IDLE; N clamped to 4..64, a T of 0 takes 1 (R185). -/
def runMeasure : List Payload → State → Executed
  | [string, n, t], s =>
    withString string (fun i s =>
      if (s.string i).record.active then refuse .busy s
      else
        carriedOut (decide (clamp 4 64 n.toNat ≠ n.toNat ∨ t.toNat = 0))
          (s.modifyRecord i fun _ => .start (clamp 4 64 n.toNat) (clamp 1 32767 t.toNat))) s
  | _, s => refuse .length s

/-- MEASURE CANCEL: refused with IDLE when the record is IDLE; otherwise it goes to IDLE and no RESULT is placed (R190). -/
def runMeasureCancel : List Payload → State → Executed
  | [string], s =>
    withString string (fun i s =>
      if (s.string i).record.active then carriedOut false (s.modifyRecord i (·.toIdle)) else refuse .idle s) s
  | _, s => refuse .length s

/-! ## INJECT -/

/-- The point an INJECT names (R137). -/
inductive InjectPoint where
  | map | route | atAdmit
deriving DecidableEq, Repr

/-- The point of a code 0..2 (R137). -/
def injectPointOf : Nat → Option InjectPoint
  | 0 => some .map
  | 1 => some .route
  | 2 => some .atAdmit
  | _ => none

/-- The kind of a code 0..3 (R137). -/
def injectKindOf : Nat → Option InjectKind
  | 0 => some .noteStart
  | 1 => some .pitch
  | 2 => some .restrike
  | 3 => some .noteEnd
  | _ => none

/-- The word of a velocity grade is used: NOTE START and RESTRIKE, at MAP (R137). -/
def usesGrade (point : InjectPoint) (kind : InjectKind) : Bool := kind.hasVelocity && decide (point = .map)

/-- The word of a velocity is used: NOTE START and RESTRIKE, at ROUTE and ADMIT (R137). -/
def usesVelocity (point : InjectPoint) (kind : InjectKind) : Bool := kind.hasVelocity && decide (point ≠ .map)

/-- The word of a lane is used: every kind, at ROUTE and ADMIT (R137). -/
def usesLane (point : InjectPoint) : Bool := decide (point ≠ .map)

/-- A used word of INJECT was clamped; the bend is clamped silently, and a word that is not used is not looked at
(R137). -/
def injectClamped (point : InjectPoint) (kind : InjectKind) (verdict note grade velocity lane : Nat) : Bool :=
  decide (4 ≤ verdict) || (kind.hasNote && decide (127 < note)) || (usesGrade point kind && decide (59 < grade)) ||
    (usesVelocity point kind && decide (velocity = 0 ∨ 127 < velocity)) || (usesLane point && decide (15 < lane))

/-- The crossing of an injected message, from the point it is injected at (R128, R138). -/
def crossInjected (point : InjectPoint) (j : Injection) (s : State) : Crossing :=
  let b := s.string j.string
  let bankB := bankBit s.plu.side
  let index := injectedIndex b bankB
  match point with
  | .map => crossRoute j.verdict b.action.route false false index (mapInjected s.tables b bankB j) s
  | .route => crossRoute j.verdict b.action.route false false index (plainInjected b j) s
  | .atAdmit => crossAdmit j.verdict index (plainInjected b j) s

/-- The reply to INJECT follows the crossing: REFUSED FULL, with QUEUE_FULL, when the event copy was offered and refused;
otherwise ADJUSTED or ACCEPT (R138). -/
def injectReply (clamped : Bool) (x : Crossing) : Executed :=
  if x.offered ∧ !x.admitted then ⟨x.state.causeFlag .queueFull, .refused .full, []⟩ else carriedOut clamped x.state

/-- INJECT: point; kind; string; verdict; note; bend; grade; velocity; lane (R137, R138). -/
def runInject : List Payload → State → Executed
  | [point, kind, string, verdict, note, bend, grade, velocity, lane], s =>
    match injectPointOf point.toNat, injectKindOf kind.toNat with
    | some pt, some kd =>
      withString string (fun i s =>
        injectReply (injectClamped pt kd verdict.toNat note.toNat grade.toNat velocity.toNat lane.toNat)
          (crossInjected pt
            { kind := kd, string := i, verdict := .ofCode verdict.toNat, note := clamp 0 127 note.toNat, bend := bend.toInt
              grade := clamp 0 59 grade.toNat, velocity := clamp 1 127 velocity.toNat, lane := clamp 0 15 lane.toNat } s)) s
    | _, _ => refuse .range s
  | _, s => refuse .length s

end Sys2Proof.Machine
end

