-- ==== Sys2Proof/Machine/Teardown.lean ====
section
/-!
DEFINITION. The two effects that reach the whole part: the pickup teardown (R6) and the link-loss effect (R9).
-/

namespace Sys2Proof.Machine

/-! ## The pickup teardown -/

/-- Stages 1 and 2 for one string: an open FULL or GATE note builds its NOTE END with cause LINK as R86 gives, and the
context closes (R6, R107). -/
def linkEnd (i : StringNo) (s : State) : State := endNote i .link s

/-- Stage 4 for one string: a RUNNING or WAITING record ends with a RESULT of outcome ABORTED, which seeks a slot (R6,
R191). -/
def abortAndSeek (i : StringNo) (s : State) : State := seekSlot i (abortRecord i s)

/-- The pickup teardown, stage by stage (R6). -/
def pickupTeardown (s : State) : State :=
  let ended := forStrings allStrings linkEnd s
  let silenced := ended.modifyAll (·.silence)
  let cleared := silenced.modifyAll (·.clearStage)
  let aborted := forStrings allStrings abortAndSeek cleared
  ({ aborted with plu := { aborted.plu with lastGood := none } }).causeFlag .pickupLost

/-! ## The link-loss effect -/

/-- A record that is RUNNING or WAITING returns to IDLE and queues no RESULT (R9, R192). -/
def Measurement.drop (r : Measurement) : Measurement := if r.active then r.toIdle else r

/-- What the link-loss effect does to the blocks of one string (R9). -/
def StringBlock.linkLoss (b : StringBlock) : StringBlock :=
  let c := b.silence.clearStage
  { c with record := c.record.drop, ticked := .clear }

/-- The link-loss effect (R9): queues and R emptied, transmit record and command buffer dropped, source last served MQ
(R162), strings silenced and cleared, records dropped, divider reloaded from TB. -/
def linkLossEffect (s : State) : State :=
  { s.modifyAll (·.linkLoss) with
    divider := { s.divider with count := s.divider.tickBase }
    eq := ⟨[], 0⟩, mq := [], rq := [], lane := .powerOn, cu := .ready }

/-- A synth link loss (R10): the link-loss effect, and the pickup link to SEARCHING as R7 gives, HOLD as seen 0, both
synth counts 0, the loss-pending mark set, no samples handed over (R12), and no frame period
at hand (R1). -/
def synthLoss (s : State) : State :=
  let lost := linkLossEffect s
  { lost with
    plu := { lost.plu with link := .searching, goodRun := 0, badRun := 0, lastGood := none }
    slu := { lost.slu with
      link := .searching, syncRun := 0, missing := 0, hold := false, lossPending := true
      handed := .const 0, handedBefore := .const 0, done := .nothing } }

end Sys2Proof.Machine
end

