-- ==== Sys2Proof/Machine/SettingCommands.lean ====
section
/-!
DEFINITION. What the settings, clears and resets do when the command unit executes them: SET TICK (R70), SET NUMBERING
(R125), SET STYLE (R113), SET FLAG MASK (R176), SET COUNT POINT (R142), CLEAR FLAGS (R177), CLEAR COUNTERS (R144),
RESTORE DEFAULTS (R182) and RESTART (R183).
-/

namespace Sys2Proof.Machine

/-- SET TICK: TB is written, the divider count left (R69, R70). -/
def runSetTick : List Payload → State → Executed
  | [base], s =>
    carriedOut (decide (255 < base.toNat)) { s with divider := { s.divider with tickBase := clamp 0 255 base.toNat } }
  | _, s => refuse .length s

/-- The numbering form of a code; a code above 1 takes POSITION (R125). -/
def NumberingForm.ofCode : Nat → NumberingForm
  | 0 => .note
  | _ => .position

/-- SET NUMBERING (R125). -/
def runSetNumbering : List Payload → State → Executed
  | [form], s => carriedOut (decide (1 < form.toNat)) { s with numbering := .ofCode form.toNat }
  | _, s => refuse .length s

/-- SET STYLE: the style field of each named entry, and nothing else (R113). -/
def runSetStyle : List Payload → State → Executed
  | [mask, style], s =>
    carriedOut (decide (2 < style.toNat))
      (forStrings (maskedStrings mask)
        (fun i t => t.modifyString i fun b => { b with action := { b.action with style := .ofCode style.toNat } }) s)
  | _, s => refuse .length s

/-- SET FLAG MASK: the whole mask is replaced, flags already set stay set (R176). -/
def runSetFlagMask : List Payload → State → Executed
  | [mask], s => carriedOut false { s with su := { s.su with mask := flagBits mask } }
  | _, s => refuse .length s

/-- The count point of a code; a code above 1 takes ADMIT (R142). -/
def CountPoint.ofCode : Nat → CountPoint
  | 0 => .route
  | _ => .atAdmit

/-- SET COUNT POINT (R142). -/
def runSetCountPoint : List Payload → State → Executed
  | [point], s => carriedOut (decide (1 < point.toNat)) { s with rc := { s.rc with countPoint := .ofCode point.toNat } }
  | _, s => refuse .length s

/-- CLEAR FLAGS: the named flags are cleared, whatever the mask holds (R177). -/
def runClearFlags : List Payload → State → Executed
  | [mask], s => carriedOut false { s with su := s.su.clearFlags (flagBits mask) }
  | _, s => refuse .length s

/-- A run of `number` counter sets from `first` upward set to zero (R144). -/
def clearSets : Nat → Nat → Vector CounterSet 128 → Vector CounterSet 128
  | 0, _, sets => sets
  | number + 1, first, sets => clearSets number (first + 1) (sets.setIfInBounds first ⟨0, 0⟩)

/-- CLEAR COUNTERS (R144). -/
def runClearCounters : List Payload → State → Executed
  | [first, number], s =>
    if 127 < first.toNat ∨ 128 < number.toNat ∨ 128 < first.toNat + number.toNat then refuse .range s
    else carriedOut false { s with rc := { s.rc with sets := clearSets number.toNat first.toNat s.rc.sets } }
  | _, s => refuse .length s

/-- A note context is open on some string. -/
def State.noteOpen (s : State) : Bool := allStrings.any fun i => (s.string i).tracker.context.isSome

/-- The settings of one string at their power-on values, its input stage cleared (R35, R182). -/
def StringBlock.restoreDefaults (b : StringBlock) : StringBlock :=
  { b.clearStage with profile := .powerOn, crosstalk := .powerOn, action := .powerOn }

/-- The strings whose measurement is RUNNING or WAITING, in string order. -/
def State.activeRecords (s : State) : List StringNo := allStrings.filter fun i => (s.string i).record.active

/-- The settings RESTORE DEFAULTS returns to their power-on values (R182). -/
def restoredSettings (s : State) : State :=
  { s.modifyAll (·.restoreDefaults) with
    numbering := .note, divider := { s.divider with tickBase := Config.powerOnTickBase }
    rc := { s.rc with countPoint := .route }, su := { s.su with mask := powerOnFlagMask } }

/-- RESTORE DEFAULTS: refused with BUSY while a note context is open; every active measurement ends ABORTED after the
reply (R182, R191). No rule orders the flag mask's return against the MEASURE_DONE of the RESULTs placed within the execution:
that they meet the restored mask is the model's choice (DESIGN CHOICE, log entry 19). -/
def runRestoreDefaults : List Payload → State → Executed
  | [], s =>
    if s.noteOpen then refuse .busy s
    else ⟨forStrings s.activeRecords abortRecord (restoredSettings s), .accept, s.activeRecords⟩
  | _, s => refuse .length s

/-- RESTART: the link-loss effect; its ACCEPT is placed first in the emptied reply queue (R183). -/
def runRestart : List Payload → State → Executed
  | [], s => carriedOut false (linkLossEffect s)
  | _, s => refuse .length s

end Sys2Proof.Machine
end

