-- ==== Sys2Proof/Machine/Words.lean ====
section
/-!
DEFINITION. The words of the upstream frame: event messages and replies (R15, R16, "Message kinds") and the status word
(R13).
-/

namespace Sys2Proof.Machine

/-- The kind code of an event message. -/
def MessageBody.kind : MessageBody → Nat
  | .noteStart .. => 0
  | .pitch .. => 1
  | .restrike .. => 2
  | .noteEnd .. => 3
  | .tune .. => 4

/-- The cause code of a NOTE START. -/
def StartCause.code : StartCause → Nat
  | .picked => 0
  | .legato => 1
  | .recovery => 2
  | .injected => 3

/-- The cause code of a PITCH. -/
def PitchCause.code : PitchCause → Nat
  | .glide => 0
  | .slur => 1
  | .retarget => 2

/-- The cause code of a NOTE END. -/
def EndCause.code : EndCause → Nat
  | .release => 0
  | .split => 1
  | .off => 2
  | .link => 3
  | .panic => 4
  | .injected => 5

/-- The cause field of an event message. -/
def MessageBody.causeCode : MessageBody → Nat
  | .noteStart c _ _ _ _ => c.code
  | .pitch c _ _ => c.code
  | .restrike _ => 0
  | .noteEnd c => c.code
  | .tune _ => 0

/-- A message head word: bit 15 is 1, kind 14..12, string 11..9, lane 8..5, monitor 4, injected 3, cause 2..0. -/
def headWord (kind string lane : Nat) (monitor injected : Bool) (cause : Nat) : Word :=
  BitVec.ofNat 16 (field 1 1 15 + field kind 3 12 + field string 3 9 + field lane 4 5 + bitField monitor 4 + bitField injected 3 +
    field cause 3 0)

/-- The continuation words of an event message ("Message kinds"). -/
def MessageBody.continuations : MessageBody → List Payload
  | .noteStart _ note velocity early bend =>
    [payload (field note 7 8 + field velocity 7 1 + bitField early 0), payloadInt bend]
  | .pitch _ note bend => [payload (field note 7 8), payloadInt bend]
  | .restrike velocity => [payload (field velocity 7 1)]
  | .noteEnd _ => []
  | .tune pv => [payload (field pv 13 0)]

/-- The words of an event message, head word first (R15). -/
def Message.words (m : Message) : List Word :=
  headWord m.body.kind m.string.number m.lane m.monitor m.injected m.body.causeCode ::
    m.body.continuations.map continuation

/-- The reason code of a REFUSED reply ("Refusal reasons"). -/
def RefusalReason.code : RefusalReason → Nat
  | .unknown => 1
  | .length => 2
  | .range => 3
  | .grid => 4
  | .busy => 5
  | .noGrid => 6
  | .idle => 7
  | .full => 8

/-- The reply kind, carried in the cause field (R16). -/
def ReplyBody.kind : ReplyBody → Nat
  | .accept => 0
  | .adjusted => 1
  | .refused _ => 2
  | .data _ => 3
  | .result _ => 4

/-- Bits 7..0 of a reply's word 2 (R16). -/
def ReplyBody.info : ReplyBody → Nat
  | .accept => 0
  | .adjusted => 0
  | .refused reason => reason.code
  | .data words => words.length
  | .result words => words.length

/-- The data words of a reply. -/
def ReplyBody.dataWords : ReplyBody → List Payload
  | .accept => []
  | .adjusted => []
  | .refused _ => []
  | .data words => words
  | .result words => words

/-- The words of a REPLY: kind 5, string 0, lane 0, monitor 0, injected 0; the code and the count or reason; the data
words (R16). -/
def Reply.words (r : Reply) : List Word :=
  headWord 5 0 0 false false r.body.kind ::
    (payload (field r.code.toNat 7 8 + field r.body.info 8 0) :: r.body.dataWords).map continuation

/-! ## The status word -/

/-- The pickup link state's code. -/
def PickupLink.code : PickupLink → Nat
  | .searching => 0
  | .up => 1
  | .holding => 2

/-- CMD_RDY: 0 while the CU holds a command, 1 otherwise (R13, R163). -/
def CommandUnit.commandReady : CommandUnit → Bool
  | .ready => true
  | .collecting _ => true
  | .held _ => false

/-- The EQ level: occupancy divided by 8, truncated (R13). -/
def EventQueue.level (q : EventQueue) : Nat := q.entries.length / 8

/-- The state half of the status word, as the fields stand (R13, "Status word, state half"). -/
def stateHalf (s : State) : Word :=
  BitVec.ofNat 16 (field s.plu.link.code 2 14 + bitField s.cu.commandReady 13 + bitField s.su.flagAny 12 + bitField s.slu.hold 11 +
    field s.eq.level 4 7 + field s.eq.reserved 3 4)

/-- The side half: bank bit, knob and switches of the current side word in their places, bits 5..0 sent as 0 (R13). -/
def sideHalf (s : State) : Word := s.plu.side &&& 0xFFC0

end Sys2Proof.Machine
end

