-- ==== Sys2Proof/Machine/ReadCommands.lean ====
section
/-!
DEFINITION. What the reads answer: READ STATUS (R179), READ STRING (R50, R108), READ GRID (R66, R67), READ MAP (R120),
READ ACTION (R129), READ PROFILE (R180), READ COUNTERS (R143) and READ STATUS COUNTERS (R181). A read changes no state
(R178); payload bits that carry no field are 0.
-/

namespace Sys2Proof.Machine

/-! ## READ STATUS -/

/-- The tracker state's code (R108, R179). -/
def TrackerState.code : TrackerState → Nat
  | .muted => 0
  | .silent => 1
  | .attack => 2
  | .sounding => 3
  | .releasing => 4

/-- The measurement record state's code (R179). -/
def RecordState.code : RecordState → Nat
  | .idle => 0
  | .running => 1
  | .waiting => 2

/-- The source's code (R179). -/
def Source.code : Source → Nat
  | .rq => 0
  | .eq => 1
  | .mq => 2

/-- The numbering form's code. -/
def NumberingForm.code : NumberingForm → Nat
  | .note => 0
  | .position => 1

/-- The count point's code. -/
def CountPoint.code : CountPoint → Nat
  | .route => 0
  | .atAdmit => 1

/-- A tracker state of a string, in a three-bit field (R179). -/
def trackerField (s : State) (i : StringNo) (low : Nat) : Nat := field (s.string i).tracker.state.code 3 low

/-- The grid-loaded bits, bit 0 for string 1 (R179, word 8). -/
def gridBits (s : State) : Nat := (allStrings.map fun i => bitField (s.string i).grid.isSome (i.number - 1)).sum

/-- The record states, two bits per string, bits 1..0 for string 1 (R179, word 9). -/
def recordBits (s : State) : Nat := (allStrings.map fun i => field (s.string i).record.state.code 2 (2 * (i.number - 1))).sum

/-- The eleven data words of READ STATUS (R179). -/
def statusWords (s : State) : List Payload :=
  [ payload s.su.flags.toNat, payload s.su.mask.toNat
  , payload (field s.plu.link.code 2 13 + field s.rc.countPoint.code 1 12 + field s.numbering.code 1 11 + bitField s.slu.hold 10 +
      field s.divider.tickBase 8 0)
  , payload (field s.divider.count 8 0)
  , payload (field s.eq.entries.length 7 8 + field s.eq.reserved 3 4)
  , payload (field s.mq.length 5 10 + field s.rq.length 4 6 + field s.lane.lastServed.code 2 0)
  , payload (trackerField s .s1 12 + trackerField s .s2 9 + trackerField s .s3 6 + trackerField s .s4 3 + trackerField s .s5 0)
  , payload (trackerField s .s6 12 + gridBits s)
  , payload (recordBits s)
  , payload (fieldOf s.plu.frameNo.toNat 9 15), payload (fieldOf s.plu.frameNo.toNat 15 0) ]

/-- READ STATUS (R179). -/
def runReadStatus : List Payload → State → Executed
  | [], s => answer (statusWords s) s
  | _, s => refuse .length s

/-! ## READ STRING -/

/-- The context's fields of T1 (R108). -/
def contextBits (c : NoteContext) : Nat :=
  bitField true 11 + field c.latched.style.code 2 9 + bitField c.early 8 + bitField c.announced 7 + bitField c.monitored 6 +
    field c.cause.code 2 4 + bitField c.bankB 3 + field c.latched.legato.code 1 2 + field c.form.code 1 1 +
    bitField c.pvQueued.isSome 0

/-- The peak READ STRING shows: the attack peak in ATTACK, the context's peak while one is open, 0 otherwise (R108). -/
def shownPeak (t : Tracker) : Nat :=
  match t.context with
  | some c => c.peak
  | none => if t.state = .attack then t.attackPeak else 0

/-- A context field; 0 while no context is open (R108). -/
def contextField (t : Tracker) (f : NoteContext → Nat) : Nat := (t.context.map f).getD 0

/-- A run state and a value: bit 14 and the low bits. -/
def timerWord (running : Bool) (value width : Nat) : Payload := payload (bitField running 14 + field value width 0)

/-- The tracker's section, words T1 to T11 (R108). -/
def trackerWords (b : StringBlock) : List Payload :=
  let t := b.tracker
  let f := contextField t
  let trough := b.stage.trough.getD 0
  [ payload (field t.state.code 3 12 + f contextBits)
  , payload (field (f (·.note)) 7 7 + field (f (·.grade)) 6 0)
  , payload (field (f (·.latched.route.code)) 2 13 + field (f (·.pvComputed)) 13 0)
  , payload (field (trough / 2 ^ 15) 1 14 + field (shownPeak t / 2 ^ 15) 1 13 + field (f fun c => c.pvQueued.getD 0) 13 0)
  , payload (field (f (·.latched.bendSpan)) 5 10 + field (f fun c => c.latched.lane.getD 0) 4 6 +
      field (f fun c => if c.latched.counterIndex.isSome then 1 else 0) 1 5)
  , payload (field (f fun c => c.latched.counterIndex.getD 0) 7 8 + field (f (·.latched.mapBase)) 8 0)
  , payload (field trough 15 0), payload (field (shownPeak t) 15 0)
  , timerWord b.timers.attack.running b.timers.attack.value 10
  , timerWord b.timers.release.running b.timers.release.value 10
  , timerWord b.timers.update.running b.timers.update.value 7 ]

/-- The outcome's code; 7 stands for no record (R50). -/
def LockOutcome.code : LockOutcome → Nat
  | .unlocked => 0
  | .lock => 1
  | .glide => 2
  | .merge => 3
  | .jump => 4
  | .miss => 5
  | .lost => 6

/-- The two words of a ring slot: outcome code and high period bits, then low period bits (R50). -/
def ringWords : Option RawRecord → List Payload
  | none => [payload (field 7 3 12), 0]
  | some r => [payload (field r.outcome.code 3 12 + fieldOf r.period 4 15), payload (fieldOf r.period 15 0)]

/-- The validator's section, words V1 to V21 (R50). -/
def validatorWords (v : Validator) : List Payload :=
  payload (bitField v.accepted.isSome 14 + bitField v.candidate.isSome 13 + field v.misses 4 9 + field v.ring.length 4 0) ::
    (periodWords (v.accepted.getD 0) ++ periodWords (v.candidate.getD 0) ++
      ((List.range Config.ringSize).map fun k => ringWords v.ring[k]?).flatten)

/-- READ STRING: the tracker's section and then the validator's, thirty-two words (R50, R108). -/
def runReadString : List Payload → State → Executed
  | [string], s =>
    withString string (fun i s => answer (trackerWords (s.string i) ++ validatorWords (s.string i).validator) s) s
  | _, s => refuse .length s

/-! ## READ GRID -/

/-- The grid word: loaded 14, base 13..7, N 5..0 (R67). -/
def gridWord : Option Grid → Payload
  | none => 0
  | some g => payload (bitField true 14 + field g.base 7 7 + field g.entries.length 6 0)

/-- The two words of a grid entry: position 13..8 and high period bits, then low period bits (R67). -/
def gridEntryWords (position p : Nat) : List Payload :=
  [payload (field position 6 8 + fieldOf p 4 15), payload (fieldOf p 15 0)]

/-- The words of `count` entries from `start` (R67). -/
def gridRunWords (g : Grid) (start count : Nat) : List Payload :=
  ((List.range count).map fun k => gridEntryWords (start + k) (g.entries.getD (start + k) 0)).flatten

/-- READ GRID (R66, R67). -/
def runReadGrid : List Payload → State → Executed
  | [string, start, count], s =>
    withString string (fun i s =>
      if 39 < start.toNat ∨ 16 < count.toNat then refuse .range s
      else if count.toNat = 0 then answer [gridWord (s.string i).grid] s
      else
        match (s.string i).grid with
        | none => refuse .range s
        | some g =>
          if g.entries.length < start.toNat + count.toNat then refuse .range s
          else answer (gridRunWords g start.toNat count.toNat) s) s
  | _, s => refuse .length s

/-! ## READ MAP -/

/-- The summary word: entries holding a value 14..6, key mode 1..0 (R120). -/
def mapSummaryWord (m : MapTable) : Payload :=
  payload (field (m.entries.toList.countP (·.isSome)) 9 6 + field m.keyMode.code 2 0)

/-- The word of a table entry: bit 14 for an empty entry, otherwise its value (R120). -/
def mapEntryWord : Option (BitVec 7) → Payload
  | none => payload (bitField true 14)
  | some v => payload v.toNat

/-- READ MAP (R120). -/
def runReadMap : List Payload → State → Executed
  | [table, start, count], s =>
    withTable table (fun t s =>
      if 255 < start.toNat ∨ 32 < count.toNat ∨ (0 < count.toNat ∧ 256 < start.toNat + count.toNat) then refuse .range s
      else if count.toNat = 0 then answer [mapSummaryWord s.tables[t]] s
      else
        answer ((List.range count.toNat).map fun k => mapEntryWord (s.tables[t].entries[start.toNat + k]?.getD none)) s) s
  | _, s => refuse .length s

/-! ## READ ACTION, READ PROFILE -/

/-- READ ACTION: the current entry (R129). -/
def runReadAction : List Payload → State → Executed
  | [string], s => withString string (fun i s => answer (actionWords (s.string i).action) s) s
  | _, s => refuse .length s

/-- READ PROFILE: the eighteen fields, then k_hi and k_lo (R180). -/
def runReadProfile : List Payload → State → Executed
  | [string], s =>
    withString string (fun i s =>
      let b := s.string i
      answer (profileWords b.profile ++ [payloadInt b.crosstalk.kHi, payloadInt b.crosstalk.kLo]) s) s
  | _, s => refuse .length s

/-! ## READ COUNTERS, READ STATUS COUNTERS -/

/-- The words of a counter set in LOW form (R143). -/
def lowWords (c : CounterSet) : List Payload :=
  [ payload (fieldOf c.notes.toNat 15 15), payload (fieldOf c.notes.toNat 15 0)
  , payload (fieldOf c.messages.toNat 15 15), payload (fieldOf c.messages.toNat 15 0) ]

/-- The word of a counter set in HIGH form (R143). -/
def highWords (c : CounterSet) : List Payload :=
  [payload (field (fieldOf c.notes.toNat 2 30) 2 2 + field (fieldOf c.messages.toNat 2 30) 2 0)]

/-- The words of a run of counter sets (R143). -/
def counterWords (form : Nat) (first number : Nat) (sets : Vector CounterSet 128) : List Payload :=
  ((List.range number).map fun k =>
    let c := sets[first + k]?.getD ⟨0, 0⟩
    if form = 0 then lowWords c else highWords c).flatten

/-- READ COUNTERS (R143). -/
def runReadCounters : List Payload → State → Executed
  | [first, number, form], s =>
    if 127 < first.toNat ∨ number.toNat = 0 ∨ 8 < number.toNat ∨ 128 < first.toNat + number.toNat ∨ 1 < form.toNat then
      refuse .range s
    else answer (counterWords form.toNat first.toNat number.toNat s.rc.sets) s
  | _, s => refuse .length s

/-- The words of a run of status counters: bit 15 of the counter, then bits 14..0 (R181). -/
def statusCounterWords (first number : Nat) (counters : Vector (BitVec 16) 24) : List Payload :=
  ((List.range number).map fun k =>
    let c := (counters[first + k]?.getD 0).toNat
    [payload (fieldOf c 1 15), payload (fieldOf c 15 0)]).flatten

/-- READ STATUS COUNTERS (R181). -/
def runReadStatusCounters : List Payload → State → Executed
  | [first, number], s =>
    if 23 < first.toNat ∨ number.toNat = 0 ∨ 16 < number.toNat ∨ 24 < first.toNat + number.toNat then refuse .range s
    else answer (statusCounterWords first.toNat number.toNat s.su.counters) s
  | _, s => refuse .length s

end Sys2Proof.Machine
end

