-- ==== Sys2Proof/Machine/CommandUnit.lean ====
section
/-!
DEFINITION. The command unit: the code list (R172, R173), execution with its checks in order (R171), and the collection
of command words (R164 to R168).
-/

namespace Sys2Proof.Machine

/-- The commands of the code list (R173). -/
inductive Command where
  | loadGrid | loadProfile | loadAction | loadMap | clearMap | loadCrosstalk
  | setTick | setNumbering | setStyle | setFlagMask | setCountPoint
  | stringOn | stringOff | allNotesEnd | measure | measureCancel | inject
  | readStatus | readString | readGrid | readMap | readAction | readProfile | readCounters | readStatusCounters
  | clearFlags | clearCounters | restoreDefaults | restart
deriving DecidableEq, Repr

/-- The command's code (R173). -/
def Command.code : Command → BitVec 7
  | .loadGrid => 0x01
  | .loadProfile => 0x02
  | .loadAction => 0x03
  | .loadMap => 0x04
  | .clearMap => 0x05
  | .loadCrosstalk => 0x06
  | .setTick => 0x08
  | .setNumbering => 0x09
  | .setStyle => 0x0A
  | .setFlagMask => 0x0B
  | .setCountPoint => 0x0C
  | .stringOn => 0x10
  | .stringOff => 0x11
  | .allNotesEnd => 0x12
  | .measure => 0x14
  | .measureCancel => 0x15
  | .inject => 0x16
  | .readStatus => 0x20
  | .readString => 0x21
  | .readGrid => 0x22
  | .readMap => 0x23
  | .readAction => 0x24
  | .readProfile => 0x25
  | .readCounters => 0x26
  | .readStatusCounters => 0x27
  | .clearFlags => 0x30
  | .clearCounters => 0x31
  | .restoreDefaults => 0x32
  | .restart => 0x33

/-- The command a code stands for; none for a code not in the list (R172). -/
def commandOf (code : BitVec 7) : Option Command :=
  match code.toNat with
  | 0x01 => some .loadGrid
  | 0x02 => some .loadProfile
  | 0x03 => some .loadAction
  | 0x04 => some .loadMap
  | 0x05 => some .clearMap
  | 0x06 => some .loadCrosstalk
  | 0x08 => some .setTick
  | 0x09 => some .setNumbering
  | 0x0A => some .setStyle
  | 0x0B => some .setFlagMask
  | 0x0C => some .setCountPoint
  | 0x10 => some .stringOn
  | 0x11 => some .stringOff
  | 0x12 => some .allNotesEnd
  | 0x14 => some .measure
  | 0x15 => some .measureCancel
  | 0x16 => some .inject
  | 0x20 => some .readStatus
  | 0x21 => some .readString
  | 0x22 => some .readGrid
  | 0x23 => some .readMap
  | 0x24 => some .readAction
  | 0x25 => some .readProfile
  | 0x26 => some .readCounters
  | 0x27 => some .readStatusCounters
  | 0x30 => some .clearFlags
  | 0x31 => some .clearCounters
  | 0x32 => some .restoreDefaults
  | 0x33 => some .restart
  | _ => none

/-- The parameter counts the list allows for a command (R173). -/
def Command.countAllowed : Command → Nat → Bool
  | .loadGrid, n => decide (2 ≤ n ∧ n ≤ 128 ∧ n % 2 = 0)
  | .loadProfile, n => n == 19
  | .loadAction, n => n == 19
  | .loadMap, n => decide (2 ≤ n ∧ n ≤ 128)
  | .clearMap, n => n == 2
  | .loadCrosstalk, n => n == 3
  | .setTick, n => n == 1
  | .setNumbering, n => n == 1
  | .setStyle, n => n == 2
  | .setFlagMask, n => n == 1
  | .setCountPoint, n => n == 1
  | .stringOn, n => n == 1
  | .stringOff, n => n == 1
  | .allNotesEnd, n => n == 0
  | .measure, n => n == 3
  | .measureCancel, n => n == 1
  | .inject, n => n == 9
  | .readStatus, n => n == 0
  | .readString, n => n == 1
  | .readGrid, n => n == 3
  | .readMap, n => n == 3
  | .readAction, n => n == 1
  | .readProfile, n => n == 1
  | .readCounters, n => n == 3
  | .readStatusCounters, n => n == 2
  | .clearFlags, n => n == 1
  | .clearCounters, n => n == 2
  | .restoreDefaults, n => n == 0
  | .restart, n => n == 0

/-- What a command does, its count having passed the LENGTH check (R171, steps 3 and 4). -/
def Command.run : Command → List Payload → State → Executed
  | .loadGrid => runLoadGrid
  | .loadProfile => runLoadProfile
  | .loadAction => runLoadAction
  | .loadMap => runLoadMap
  | .clearMap => runClearMap
  | .loadCrosstalk => runLoadCrosstalk
  | .setTick => runSetTick
  | .setNumbering => runSetNumbering
  | .setStyle => runSetStyle
  | .setFlagMask => runSetFlagMask
  | .setCountPoint => runSetCountPoint
  | .stringOn => runStringOn
  | .stringOff => runStringOff
  | .allNotesEnd => runAllNotesEnd
  | .measure => runMeasure
  | .measureCancel => runMeasureCancel
  | .inject => runInject
  | .readStatus => runReadStatus
  | .readString => runReadString
  | .readGrid => runReadGrid
  | .readMap => runReadMap
  | .readAction => runReadAction
  | .readProfile => runReadProfile
  | .readCounters => runReadCounters
  | .readStatusCounters => runReadStatusCounters
  | .clearFlags => runClearFlags
  | .clearCounters => runClearCounters
  | .restoreDefaults => runRestoreDefaults
  | .restart => runRestart

/-- The checks in order: UNKNOWN, LENGTH, then the command's own, RANGE first (R171 to R174). -/
def runBuffer (b : CommandBuffer) (s : State) : Executed :=
  match commandOf b.code with
  | none => refuse .unknown s
  | some c => if b.overflow || !c.countAllowed b.declared then refuse .length s else c.run b.stored s

/-- A command is executed as one event: the CU returns to READY, the command acts, its own reply is placed, and the
measurements it aborted seek reply slots after it, in string order (R158, R167, R171, R175). -/
def execute (b : CommandBuffer) (s : State) : State :=
  let x := runBuffer b { s with cu := .ready }
  forStrings x.aborted seekSlot (x.state.placeReply ⟨b.code, x.reply⟩)

/-- A command is taken: executed at once when a reply slot is free, HELD otherwise (R167). -/
def takeCommand (b : CommandBuffer) (s : State) : State :=
  if s.replySlotFree then execute b s else { s with cu := .held b }

/-- A header starts a command; with a declared count of 0 the command is taken at once (R164). -/
def startCommand (code : BitVec 7) (declared : Nat) (s : State) : State :=
  let b : CommandBuffer := ⟨code, declared, 0, [], false⟩
  if declared = 0 then takeCommand b s else { s with cu := .collecting b }

/-- A parameter word consumed: stored while at most 128 were received, the overflow mark set beyond (R165). -/
def CommandBuffer.consume (p : Payload) (b : CommandBuffer) : CommandBuffer :=
  if b.received + 1 ≤ Config.bufferSize then { b with received := b.received + 1, stored := b.stored ++ [p] }
  else { b with received := b.received + 1, overflow := true }

/-- A command abandoned, or a stray word: CMD_ABANDONED under the flag mask, and the count (R164, R166). -/
def noteAbandoned (s : State) : State := (s.causeFlag .cmdAbandoned).bumpCounter .abandonedCommands

/-- A word discarded while a command is held: CMD_OVERRUN under the flag mask, and the count (R168). -/
def noteOverrun (s : State) : State := (s.causeFlag .cmdOverrun).bumpCounter .overrunWords

/-- The word is a header: bit 15 is 1 (10_commands.md, opening table). -/
def isHeader (w : Word) : Bool := w.getLsbD 15

/-- A header's command code, bits 14..8. -/
def headerCode (w : Word) : BitVec 7 := BitVec.ofNat 7 (fieldOf w.toNat 7 8)

/-- A header's parameter count, bits 7..0. -/
def headerCount (w : Word) : Nat := fieldOf w.toNat 8 0

/-- The CU takes one command word (R164 to R168). -/
def takeWord (w : Word) (s : State) : State :=
  match s.cu with
  | .ready => if isHeader w then startCommand (headerCode w) (headerCount w) s else noteAbandoned s
  | .collecting b =>
    if isHeader w then startCommand (headerCode w) (headerCount w) (noteAbandoned { s with cu := .ready })
    else
      let c := b.consume (w.setWidth 15)
      if c.received = c.declared then takeCommand c s else { s with cu := .collecting c }
  | .held _ => noteOverrun s

/-- The header word of a command with a code and a parameter count. -/
def headerWord (code : BitVec 7) (count : Nat) : Word := BitVec.ofNat 16 (field 1 1 15 + field code.toNat 7 8 + field count 8 0)

/-- The words of a command, header first. -/
def commandWords (code : BitVec 7) (params : List Payload) : List Word :=
  headerWord code params.length :: params.map continuation

/-- The words of a command reach the CU one after another, with no other event between them; while the synth link is
SEARCHING no command word reaches the CU (R1, R163). -/
def sendCommand (code : BitVec 7) (params : List Payload) (s : State) : State :=
  if s.slu.link = .up then (commandWords code params).foldl (fun t w => takeWord w t) s else s

end Sys2Proof.Machine
end

