-- ==== Sys2Proof/Machine/MessageLane.lean ====
section
/-!
DEFINITION. The message lane: the choice of a source (R160), a lane word slot (R159), and the reply queue's slot arbiter
(R157).
-/

namespace Sys2Proof.Machine

/-- The three sources in cyclic order RQ, EQ, MQ, beginning after the one last served (R160). -/
def sourcesAfter : Source → List Source
  | .rq => [.eq, .mq, .rq]
  | .eq => [.mq, .rq, .eq]
  | .mq => [.rq, .eq, .mq]

/-- The source is eligible (R160): it holds something to send and, for the event queue, HOLD as seen is 0. -/
def State.eligible (s : State) : Source → Bool
  | .rq => !s.rq.isEmpty
  | .eq => !s.eq.entries.isEmpty && !s.slu.hold
  | .mq => !s.mq.isEmpty

/-- The source the arbiter chooses at a message boundary: the first eligible one (R160). -/
def State.chosenSource (s : State) : Option Source := (sourcesAfter s.lane.lastServed).find? s.eligible

/-- The words of the entry at the head of a source's queue. -/
def State.headWords (s : State) : Source → List Word
  | .rq => (s.rq.head?.map (·.words)).getD []
  | .eq => (s.eq.entries.head?.map (·.words)).getD []
  | .mq => (s.mq.head?.map (·.words)).getD []

/-- The head entry removed from a source's queue; R does not change (R152). -/
def State.dropHead (s : State) : Source → State
  | .rq => { s with rq := s.rq.tail }
  | .eq => { s with eq := { s.eq with entries := s.eq.entries.tail } }
  | .mq => { s with mq := s.mq.tail }

/-- The reply queue's slot arbiter acts at an event that frees a slot: the slot goes to the WAITING record of the
lowest-numbered string; with no record WAITING, to the held command, which is executed; otherwise it stays free (R157,
R169). -/
def grantSlot (s : State) : State :=
  match s.firstWaiting with
  | some i => seekSlot i s
  | none =>
    match s.cu with
    | .held b => execute b s
    | .ready => s
    | .collecting _ => s

/-- The transmit record after the head word of a message has gone: absent for a message of one word (R159). -/
def transmitAfterHead (words : List Word) (source : Source) : Option Transmit :=
  if words.length ≤ 1 then none else some ⟨words, source, 1⟩

/-- The transmit record after its next word has gone: absent once that was the last (R159). -/
def Transmit.advance (t : Transmit) : Option Transmit :=
  if t.sent + 1 < t.words.length then some { t with sent := t.sent + 1 } else none

/-- The lane begins the head entry of a source: it leaves its queue and becomes the transmit record; beginning a reply
frees a slot (R157, R159). -/
def beginMessage (source : Source) (s : State) : State :=
  let begun := { s.dropHead source with lane := ⟨transmitAfterHead (s.headWords source) source, source⟩ }
  match source with
  | .rq => grantSlot begun
  | .eq => begun
  | .mq => begun

/-- The slot sent with nothing in it: marker 0, word 0 (R14). -/
def emptySlot : WordSlot := ⟨false, 0⟩

/-- The word a lane word slot carries (R159). -/
def laneWord (s : State) : WordSlot :=
  match s.lane.transmit with
  | some t => ⟨true, t.words.getD t.sent 0⟩
  | none =>
    match s.chosenSource with
    | some source => ⟨true, (s.headWords source).headD 0⟩
    | none => emptySlot

/-- The part after a lane word slot (R159). -/
def afterLaneSlot (s : State) : State :=
  match s.lane.transmit with
  | some t => { s with lane := { s.lane with transmit := t.advance } }
  | none =>
    match s.chosenSource with
    | some source => beginMessage source s
    | none => s

/-- The lane word slot is a message boundary at which the lane begins a reply while a record is WAITING, so that the
freed slot is granted to that record (R157). -/
def grantsResult (s : State) : Bool :=
  s.lane.transmit.isNone && decide (s.chosenSource = some .rq) && s.firstWaiting.isSome

end Sys2Proof.Machine
end

