-- ==== Sys2Proof/Machine/Timers.lean ====
section
/-!
DEFINITION. The tick divider and how a tick reaches the timers of a string and its measurement record (R68 to R80,
R187). A receiver takes each tick once: TICK delivers it to every receiver, and the row of an expiry lets the sender
take one receiver ahead of TICK, in any order (log entry 3).
-/

namespace Sys2Proof.Machine

/-! ## What a tick does to one timer -/

/-- The tick brings the clock to its latched EC, with EC above 0 and below the latched GU (R72). -/
def AttackClock.reachesEarly (c : AttackClock) : Bool :=
  c.running && decide (c.value + 1 = c.earlyCommit ∧ c.earlyCommit < c.giveUp)

/-- The tick brings the clock to its latched GU (R73). -/
def AttackClock.reachesGiveUp (c : AttackClock) : Bool := c.running && decide (c.giveUp ≤ c.value + 1)

/-- The tick brings the release counter to 0 (R75). -/
def ReleaseCounter.reachesZero (c : ReleaseCounter) : Bool := c.running && decide (c.value ≤ 1)

/-- The tick brings the update scheduler to 0 (R78). -/
def UpdateScheduler.reachesZero (u : UpdateScheduler) : Bool := u.running && decide (u.value ≤ 1)

/-- The tick brings elapsed to T (R187). -/
def Measurement.reachesTimeout (r : Measurement) : Bool := decide (r.state = .running ∧ r.timeout ≤ r.elapsed + 1)

/-- The attack clock takes a tick: RUNNING it counts one, saturating at 1,023, and stops at GU (R71, R73). -/
def AttackClock.tick (c : AttackClock) : AttackClock :=
  if c.running then { c with value := min (c.value + 1) 1023, running := decide (c.value + 1 < c.giveUp) } else c

/-- The release counter takes a tick: RUNNING it counts down one and stops at 0 (R75). -/
def ReleaseCounter.tick (c : ReleaseCounter) : ReleaseCounter :=
  if c.running then ⟨decide (1 < c.value), c.value - 1⟩ else c

/-- The update scheduler takes a tick: RUNNING it counts down one, and at 0 it reloads its latched repeat period (R78). -/
def UpdateScheduler.tick (u : UpdateScheduler) : UpdateScheduler :=
  if u.running then { u with value := if 1 < u.value then u.value - 1 else u.period } else u

/-! ## What a tick does to one receiver, with its expiry -/

/-- The attack clock of a string takes the tick, with the early-point or give-up expiry it brings (R72, R73). -/
def attackTick (i : StringNo) (s : State) : State :=
  let c := (s.string i).timers.attack
  let ticked := s.modifyTimers i fun t => { t with attack := t.attack.tick }
  if c.reachesGiveUp then takeGiveUp i ticked else if c.reachesEarly then takeEarlyPoint i ticked else ticked

/-- The release counter of a string takes the tick, with the release expiry it brings (R75, R104). -/
def releaseTick (i : StringNo) (s : State) : State :=
  let c := (s.string i).timers.release
  let ticked := s.modifyTimers i fun t => { t with release := t.release.tick }
  if c.reachesZero then takeReleaseExpiry i ticked else ticked

/-- The update scheduler of a string takes the tick, with the update expiry it brings (R78). -/
def updateTick (i : StringNo) (s : State) : State :=
  let u := (s.string i).timers.update
  let ticked := s.modifyTimers i fun t => { t with update := t.update.tick }
  if u.reachesZero then takeUpdateExpiry i ticked else ticked

/-! ## Each receiver takes a tick once -/

/-- The attack clock takes the coming tick, unless it already has. -/
def attackOnce (i : StringNo) (s : State) : State :=
  if (s.string i).ticked.attack then s else attackTick i (s.modifyTicked i fun k => { k with attack := true })

/-- The release counter takes the coming tick, unless it already has. -/
def releaseOnce (i : StringNo) (s : State) : State :=
  if (s.string i).ticked.release then s else releaseTick i (s.modifyTicked i fun k => { k with release := true })

/-- The update scheduler takes the coming tick, unless it already has. -/
def updateOnce (i : StringNo) (s : State) : State :=
  if (s.string i).ticked.update then s else updateTick i (s.modifyTicked i fun k => { k with update := true })

/-- The measurement record takes the coming tick, unless it already has. -/
def recordOnce (i : StringNo) (s : State) : State :=
  if (s.string i).ticked.record then s else recordTick i (s.modifyTicked i fun k => { k with record := true })

/-- The timers of a string's set that the tick brings to no point take it before those it does (DEDUCED from the
example of 05_string_timers.md, where the scheduler counts at the tick of the release expiry; log entry 5). -/
def quietTimers (i : StringNo) (s : State) : State :=
  let t := (s.string i).timers
  let attack := if t.attack.reachesGiveUp || t.attack.reachesEarly then s else attackOnce i s
  let release := if t.release.reachesZero then attack else releaseOnce i attack
  if t.update.reachesZero then release else updateOnce i release

/-- Every receiver of a string that has not yet taken the coming tick takes it. -/
def stringTick (i : StringNo) (s : State) : State :=
  recordOnce i (updateOnce i (releaseOnce i (attackOnce i (quietTimers i s))))

/-! ## The divider -/

/-- A tick is at hand: frame periods run, and the divider count is 0 (R1, R68). -/
def State.tickAtHand (s : State) : Bool := decide (s.slu.link = .up ∧ s.divider.count = 0)

/-- The underflow: a tick is delivered to every receiver that has not taken it, and the divider count is reloaded with
TB (R68). -/
def underflow (s : State) : State :=
  let delivered := forStrings allStrings stringTick s
  { delivered.modifyAll (fun b => { b with ticked := .clear }) with
    divider := { delivered.divider with count := delivered.divider.tickBase } }

/-- The divider takes one frame period (R68); while the synth link is SEARCHING no frame period runs (R1). -/
def dividerPeriod (s : State) : State :=
  if s.slu.link = .up then
    if 0 < s.divider.count then { s with divider := { s.divider with count := s.divider.count - 1 } } else underflow s
  else s

end Sys2Proof.Machine
end

