-- ==== Sys2Proof/Machine/Validator.lean ====
section
/-!
DEFINITION. The period validator of one string: the agreement test, the history ring, and the outcome of a raw period
(R36 to R44).
-/

namespace Sys2Proof.Machine

/-- agree(p, q): |p − q|·2^S ≤ q, the second argument the reference (R36). -/
def agree (shift p q : Nat) : Bool := decide (((p - q) + (q - p)) * 2 ^ shift ≤ q)

/-- A moved by a share of the way to p: A + (p − A)/2^G, truncating toward zero (R40). -/
def moveToward (glide a p : Nat) : Nat := ((a : Int) + Int.tdiv ((p : Int) - (a : Int)) (2 ^ glide)).toNat

/-- A record placed at the front of the ring; the oldest goes when eight were held (R37). -/
def placeRecord (r : RawRecord) (ring : List RawRecord) : List RawRecord := (r :: ring).take Config.ringSize

/-- What the validator hands over for a raw period: its state brought up to date, the outcome, and the period of the
newest ring record (R45). -/
structure Validated where
  validator : Validator
  outcome : LockOutcome
  period : Nat

/-- UNLOCKED and LOCK: A is absent (R39). -/
def validateUnlocked (shift p : Nat) (v : Validator) : Validated :=
  match v.ring with
  | ⟨q, .unlocked⟩ :: _ =>
    if agree shift p q then ⟨{ v with accepted := some ((p + q) / 2), ring := placeRecord ⟨p, .lock⟩ v.ring }, .lock, p⟩
    else ⟨{ v with ring := placeRecord ⟨p, .unlocked⟩ v.ring }, .unlocked, p⟩
  | _ => ⟨{ v with ring := placeRecord ⟨p, .unlocked⟩ v.ring }, .unlocked, p⟩

/-- MISS, or LOST when the miss count reaches LOSS_N (R43, R44). -/
def validateMiss (lossN p : Nat) (v : Validator) : Validated :=
  if v.misses + 1 < lossN then
    ⟨{ v with candidate := some p, misses := v.misses + 1, ring := placeRecord ⟨p, .miss⟩ v.ring }, .miss, p⟩
  else ⟨⟨none, none, 0, placeRecord ⟨p, .lost⟩ v.ring⟩, .lost, p⟩

/-- JUMP when p agrees with the candidate, otherwise MISS or LOST (R42 to R44). -/
def validateJump (shift lossN p : Nat) (v : Validator) : Validated :=
  match v.candidate with
  | some c =>
    if agree shift p c then ⟨⟨some ((p + c) / 2), none, 0, placeRecord ⟨p, .jump⟩ v.ring⟩, .jump, p⟩
    else validateMiss lossN p v
  | none => validateMiss lossN p v

/-- The newest record is a MISS of period q that p completes to a period agreeing with A (R41). -/
def mergeFits (shift p a q : Nat) : Bool := decide (p + q ≤ Config.maxPeriod) && agree shift (p + q) a

/-- GLIDE, MERGE, JUMP and MISS in that order: A is present (R38, R40 to R44). -/
def validateLocked (shift glide lossN p a : Nat) (v : Validator) : Validated :=
  if agree shift p a then
    ⟨⟨some (moveToward glide a p), none, 0, placeRecord ⟨p, .glide⟩ v.ring⟩, .glide, p⟩
  else
    match v.ring with
    | ⟨q, .miss⟩ :: older =>
      if mergeFits shift p a q then
        ⟨⟨some (moveToward glide a (p + q)), none, 0, ⟨p + q, .merge⟩ :: older⟩, .merge, p + q⟩
      else validateJump shift lossN p v
    | _ => validateJump shift lossN p v

/-- The validator takes one raw period, reading S, G and LOSS_N from the profile as it stands (R38). -/
def Validator.take (profile : Profile) (p : Nat) (v : Validator) : Validated :=
  match v.accepted with
  | none => validateUnlocked profile.agreement p v
  | some a => validateLocked profile.agreement profile.glide profile.lossN p a v

end Sys2Proof.Machine
end

