-- ==== Sys2Proof/Machine/Links.lean ====
section
/-!
DEFINITION. The two links: judging and taking a pickup frame slot (R2 to R5), a frame arrival (R20), a downstream frame
(R8, R11) and an upstream frame (R13, R14).
-/

namespace Sys2Proof.Machine

/-! ## Frame periods -/

/-- The part of the frame period at hand has been done. -/
def PartsDone.has (d : PartsDone) : PeriodPart → Bool
  | .slot => d.slot
  | .upstream => d.upstream
  | .words => d.words

/-- A part of the frame period at hand is done. -/
def PartsDone.mark (d : PartsDone) : PeriodPart → PartsDone
  | .slot => { d with slot := true }
  | .upstream => { d with upstream := true }
  | .words => { d with words := true }

/-- A part of a frame period is done, in whatever order with the other two (R1). A part done already in the period at hand
belongs to the next one: that period begins, and the samples handed over in the one before are those its upstream frame
carries (R12; log entry 4). -/
def Slu.doPart (p : PeriodPart) (u : Slu) : Slu :=
  if u.done.has p then
    { u with handedBefore := u.handed, handed := .const 0, done := PartsDone.nothing.mark p }
  else { u with done := u.done.mark p }

/-- A part of a frame period is done. -/
def State.doPart (p : PeriodPart) (s : State) : State := { s with slu := s.slu.doPart p }

/-! ## A frame arrival -/

/-- The attack peak takes the larger of itself and the envelope of the arrival, in ATTACK (R91). -/
def followPeak (i : StringNo) (s : State) : State :=
  s.modifyString i fun b =>
    if b.tracker.state = .attack then { b with tracker := { b.tracker with attackPeak := max b.tracker.attackPeak b.stage.e } }
    else b

/-- A raw period is delivered: the validator takes it, the tracker takes the outcome, and the measurement record adds
the period (R30, R45, R186). -/
def takePeriod (i : StringNo) (p : Nat) (s : State) : State :=
  let v := (s.string i).validator.take (s.string i).profile p
  let judged := s.modifyString i fun b => { b with validator := v.validator }
  recordPeriod i p (takeOutcome i v.outcome v.validator.accepted judged)

/-- The stage's state and its sample are left by its run (R20, steps 2 to 7). -/
def leaveStage (i : StringNo) (r : StageReport) (s : State) : State :=
  let left := s.modifyString i fun b => { b with stage := r.stage }
  { left with slu := { left.slu with handed := left.slu.handed.set i r.handed } }

/-- The reports of a stage are delivered: first the envelope edge, then the raw period (R20, step 8). -/
def deliverReports (i : StringNo) (edge : Option Edge) (period : Option Nat) (s : State) : State :=
  let edged := match edge with
    | some e => takeEdge i e s
    | none => s
  match period with
  | some p => takePeriod i p edged
  | none => edged

/-- One string's part of a frame arrival (R20). -/
def stringArrival (samples : PerString Word) (i : StringNo) (s : State) : State :=
  let r := runStage samples s.plu.frameNo i (s.string i)
  deliverReports i r.edge r.period (followPeak i (leaveStage i r s))

/-- A frame arrival: n is incremented, and the input stage of every string runs once on the delivered samples. The order
in which the strings reach the shared queues is the sender's (R4, R20; log entry 2). -/
def frameArrival (samples : PerString Word) (order : List StringNo) (s : State) : State :=
  forStrings (servedOrder order allStrings) (stringArrival samples) { s with plu := { s.plu with frameNo := s.plu.frameNo + 1 } }

/-! ## The pickup link -/

/-- The number of ones among the sixteen word bits. -/
def onesIn (w : Word) : Nat := (List.range 16).countP (w.getLsbD ·)

/-- A link word has even parity across its sixteen bits and its parity bit (R2). -/
def evenParity (w : LinkWord) : Bool := (onesIn w.word + if w.parity then 1 else 0) % 2 == 0

/-- A pickup frame is good: its sync mark is present and its seven words have even parity (R2). -/
def goodFrame (f : PickupFrame) : Bool := f.sync && f.samples.toList.all evenParity && evenParity f.side

/-- The content of a frame. -/
def frameContent (f : PickupFrame) : GoodFrame := ⟨f.samples.map (·.word), f.side.word⟩

/-- A good frame delivered: it becomes the last good frame, its side word the current one, and it arrives (R3 to R5). The
rules name these in one sentence and order none of them: that a note start made within the arrival latches the bank bit
of the side word the same frame brings is the model's choice (DESIGN CHOICE, log entry 18). -/
def deliverGood (g : GoodFrame) (order : List StringNo) (s : State) : State :=
  frameArrival g.samples order
    { s with plu := { s.plu with link := .up, badRun := 0, lastGood := some g, side := g.side } }

/-- A bad frame taken in UP or HOLDING is counted and sets FRAME_ERR under the flag mask (R2). -/
def noteBadFrame (s : State) : State := (s.causeFlag .frameErr).bumpCounter .badFrames

/-- The last good frame delivered again, in HOLDING with a bad-run count (R4, R5). A link that is UP or HOLDING has a
last good frame; without one nothing is delivered. -/
def repeatLast (badRun : Nat) (order : List StringNo) (s : State) : State :=
  let held := { s with plu := { s.plu with link := .holding, badRun := badRun } }
  match s.plu.lastGood with
  | some g => frameArrival g.samples order held
  | none => held

/-- The eighth bad frame in a row ends the link: SEARCHING, both counts 0, and the pickup teardown (R5, R6). -/
def endPickupLink (s : State) : State :=
  pickupTeardown { s with plu := { s.plu with link := .searching, goodRun := 0, badRun := 0 } }

/-- A good frame taken in SEARCHING: it increments the good-run count, and the sixteenth in a row takes the link to UP and
is delivered (R3). -/
def goodWhileSearching (g : GoodFrame) (order : List StringNo) (s : State) : State :=
  let counted := { s with plu := { s.plu with goodRun := s.plu.goodRun + 1 } }
  if counted.plu.goodRun < Config.pickupGoodRun then counted else deliverGood g order counted

/-- A bad frame: in SEARCHING it resets the good-run count; in UP and HOLDING it is counted, and is bridged by the last
good frame until the eighth in a row (R2 to R5). -/
def badFrame (order : List StringNo) (s : State) : State :=
  match s.plu.link with
  | .searching => { s with plu := { s.plu with goodRun := 0 } }
  | .up => repeatLast 1 order (noteBadFrame s)
  | .holding =>
    if s.plu.badRun + 1 < Config.pickupBadRun then repeatLast (s.plu.badRun + 1) order (noteBadFrame s)
    else endPickupLink (noteBadFrame s)

/-- What the PLU makes of what arrives in a slot (R2 to R5). -/
def judgeSlot (f : PickupFrame) (order : List StringNo) (s : State) : State :=
  if goodFrame f then
    match s.plu.link with
    | .searching => goodWhileSearching (frameContent f) order s
    | .up => deliverGood (frameContent f) order s
    | .holding => deliverGood (frameContent f) order s
  else badFrame order s

/-- The PLU takes one pickup frame slot; while the synth link is SEARCHING it takes none (R1 to R5). -/
def pickupSlot (f : PickupFrame) (order : List StringNo) (s : State) : State :=
  if s.slu.link = .up then judgeSlot f order (s.doPart .slot) else s

/-- A slot in which nothing arrives (R2). -/
def emptyPickupFrame : PickupFrame := ⟨false, .const ⟨0, false⟩, ⟨0, false⟩⟩

/-! ## The synth link -/

/-- The control word's HOLD bit. -/
def holdBit (f : DownstreamFrame) : Bool := f.control.getLsbD 15

/-- The control word's WORD_VALID bit. -/
def wordValid (f : DownstreamFrame) : Bool := f.control.getLsbD 14

/-- The control word and command word of a frame taken in UP with its sync mark present: HOLD as seen takes the HOLD bit,
and the command word reaches the CU when WORD_VALID is 1 (R11). -/
def takeDownstream (f : DownstreamFrame) (s : State) : State :=
  let seen := { s with slu := { s.slu with hold := holdBit f } }
  if wordValid f then takeWord f.command seen else seen

/-- The synth link reaches UP: SYNTH_LOST is set under the flag mask when the loss-pending mark is set, and the mark is
cleared (R8, R10). The first frame period is at hand, with no part of it done and no samples of a period before it (R8,
R12). -/
def synthLinkUp (s : State) : State :=
  let noted := if s.slu.lossPending then s.causeFlag .synthLost else s
  { noted with slu := { noted.slu with
      link := .up, lossPending := false, handed := .const 0, handedBefore := .const 0, done := .nothing } }

/-- A downstream frame with its sync mark present (R8, R11). -/
def syncedFrame (f : DownstreamFrame) (s : State) : State :=
  match s.slu.link with
  | .searching =>
    let counted := { s with slu := { s.slu with syncRun := s.slu.syncRun + 1 } }
    if counted.slu.syncRun < Config.synthSyncRun then counted else takeDownstream f ((synthLinkUp counted).doPart .words)
  | .up => takeDownstream f (State.doPart .words { s with slu := { s.slu with missing := 0 } })

/-- A downstream frame whose sync mark is missing: in UP the first one's period runs and its words are discarded; the
second in a row is the synth link loss (R8, R10). -/
def unsyncedFrame (s : State) : State :=
  match s.slu.link with
  | .searching => { s with slu := { s.slu with syncRun := 0 } }
  | .up =>
    if s.slu.missing + 1 < Config.synthMissingRun then
      State.doPart .words { s with slu := { s.slu with missing := s.slu.missing + 1 } }
    else synthLoss s

/-- The SLU takes a downstream frame (R8, R11). -/
def downstream (f : DownstreamFrame) (s : State) : State := if f.sync then syncedFrame f s else unsyncedFrame s

/-- The SLU sends an upstream frame: the samples of the period before, the status word as it stands before the two lane
word slots (log entry 7), and slot 1 and slot 2 in that order with nothing between them (log entry 17). While the synth
link is SEARCHING it sends none (R1, R12 to R14, R159). -/
def upstream (s : State) : State :=
  if s.slu.link = .up then
    let begun := s.doPart .upstream
    let after1 := afterLaneSlot begun
    let after2 := afterLaneSlot after1
    let frame : UpstreamFrame := ⟨begun.slu.handedBefore, stateHalf begun, sideHalf begun, laneWord begun, laneWord after1⟩
    { after2 with slu := { after2.slu with sent := some frame } }
  else s

end Sys2Proof.Machine
end

