-- ==== Sys2Proof/Machine/InnerEvents.lean ====
section
/-!
DEFINITION. The meanings of the rows that name what happens inside a stimulus. Such a row is that stimulus, or one
receiver's share of it, taken at the moment the event happens in it; at any other time the event does not occur and
nothing changes (log entries 1 and 3).
-/

namespace Sys2Proof.Machine

/-- An event that occurs only under a condition; otherwise nothing changes. -/
def occurs (condition : Bool) (event : State → State) (s : State) : State := if condition then event s else s

/-! ## Inside a pickup frame slot -/

/-- The slot at hand, if bad, is the eighth bad frame in a row (R5). -/
def eighthBadAtHand (s : State) : Bool :=
  decide (s.slu.link = .up ∧ s.plu.link = .holding ∧ s.plu.badRun + 1 = Config.pickupBadRun)

/-- PICKUP_TEARDOWN: the slot with the eighth bad frame in a row (R5, R6). -/
def execPickupTeardown (s : State) : Host.Outcome State Fault Refusal :=
  .next (occurs (eighthBadAtHand s) (pickupSlot emptyPickupFrame []) s)

/-- The slot delivers a frame arrival: it takes the pickup link to UP or HOLDING, or leaves it there (R3 to R5). -/
def arrivesIn (before after : State) : Bool := decide (before.plu.frameNo ≠ after.plu.frameNo)

/-- A string's record is RUNNING before the slot and ended by it, in a slot that delivers a frame arrival: the count has
reached N (R187). -/
def completesIn (i : StringNo) (before after : State) : Bool :=
  arrivesIn before after && decide ((before.string i).record.state = .running ∧ (after.string i).record.state ≠ .running)

/-- MEASURE_COMPLETE: the slot whose frame arrival brings the count of a string's measurement to N (R187). -/
def execMeasureComplete (string : StringNo) (frame : PickupFrame) (order : List StringNo) (s : State) :
    Host.Outcome State Fault Refusal :=
  .next (occurs (completesIn string s (pickupSlot frame order s)) (pickupSlot frame order) s)

/-! ## Inside a downstream or upstream frame -/

/-- A missing sync mark at hand would be the second in a row (R8). -/
def secondMissingAtHand (s : State) : Bool := decide (s.slu.link = .up ∧ s.slu.missing + 1 = Config.synthMissingRun)

/-- SYNTH_LINK_LOSS: the downstream frame with the second missing sync mark in a row (R8, R10). -/
def execSynthLinkLoss (s : State) : Host.Outcome State Fault Refusal :=
  .next (occurs (secondMissingAtHand s) (downstream ⟨false, 0, 0⟩) s)

/-- One of the two lane word slots of the upstream frame at hand grants a freed reply slot to a WAITING record (R157). -/
def resultGrantAtHand (s : State) : Bool :=
  decide (s.slu.link = .up) && (grantsResult s || grantsResult (afterLaneSlot s))

/-- RESULT_GRANT: the upstream frame in which the lane begins a reply and the freed slot goes to the WAITING record of the
lowest string (R157). -/
def execResultGrant (s : State) : Host.Outcome State Fault Refusal := .next (occurs (resultGrantAtHand s) upstream s)

/-! ## Inside a tick -/

/-- The tick at hand brings the string's attack clock to its early point (R72). -/
def earlyPointAtHand (i : StringNo) (s : State) : Bool :=
  s.tickAtHand && !(s.string i).ticked.attack && (s.string i).timers.attack.reachesEarly &&
    !(s.string i).timers.attack.reachesGiveUp

/-- EARLY_POINT: the attack clock takes the tick that brings it to its latched EC (R72, R93). -/
def execEarlyPoint (string : StringNo) (s : State) : Host.Outcome State Fault Refusal :=
  .next (occurs (earlyPointAtHand string s) (fun t => attackOnce string (quietTimers string t)) s)

/-- The tick at hand brings the string's attack clock to its give-up point (R73). -/
def giveUpAtHand (i : StringNo) (s : State) : Bool :=
  s.tickAtHand && !(s.string i).ticked.attack && (s.string i).timers.attack.reachesGiveUp

/-- GIVE_UP: the attack clock takes the tick that brings it to its latched GU (R73, R94). -/
def execGiveUp (string : StringNo) (s : State) : Host.Outcome State Fault Refusal :=
  .next (occurs (giveUpAtHand string s) (fun t => attackOnce string (quietTimers string t)) s)

/-- The tick at hand brings the string's release counter to 0 (R75). -/
def releaseAtHand (i : StringNo) (s : State) : Bool :=
  s.tickAtHand && !(s.string i).ticked.release && (s.string i).timers.release.reachesZero

/-- RELEASE_EXPIRY: the release counter takes the tick that brings it to 0 (R75, R104). -/
def execReleaseExpiry (string : StringNo) (s : State) : Host.Outcome State Fault Refusal :=
  .next (occurs (releaseAtHand string s) (fun t => releaseOnce string (quietTimers string t)) s)

/-- The tick at hand brings the string's update scheduler to 0 (R78). -/
def updateAtHand (i : StringNo) (s : State) : Bool :=
  s.tickAtHand && !(s.string i).ticked.update && (s.string i).timers.update.reachesZero

/-- UPDATE_EXPIRY: the update scheduler takes the tick that brings it to 0 (R78, R100). -/
def execUpdateExpiry (string : StringNo) (s : State) : Host.Outcome State Fault Refusal :=
  .next (occurs (updateAtHand string s) (fun t => updateOnce string (quietTimers string t)) s)

/-- The tick at hand brings the elapsed ticks of the string's measurement to T (R187). -/
def timeoutAtHand (i : StringNo) (s : State) : Bool :=
  s.tickAtHand && !(s.string i).ticked.record && (s.string i).record.reachesTimeout

/-- MEASURE_TIMEOUT: the record takes the tick that brings its elapsed ticks to T (R187). -/
def execMeasureTimeout (string : StringNo) (s : State) : Host.Outcome State Fault Refusal :=
  .next (occurs (timeoutAtHand string s) (recordOnce string) s)

end Sys2Proof.Machine
end

