-- ==== Sys2Proof/Machine/Loads.lean ====
section
/-!
DEFINITION. The meanings of the loads: each command's words reach the command unit whole, which collects, holds or
executes them (R164 to R171). What a command does when it is executed stands in LoadCommands, SettingCommands,
NoteCommands and ReadCommands.
-/

namespace Sys2Proof.Machine

/-- LOAD_GRID (R54 to R57). -/
def execLoadGrid (params : List Payload) (s : State) : Host.Outcome State Fault Refusal :=
  .next (sendCommand Command.loadGrid.code params s)

/-- LOAD_PROFILE (R34). -/
def execLoadProfile (params : List Payload) (s : State) : Host.Outcome State Fault Refusal :=
  .next (sendCommand Command.loadProfile.code params s)

/-- LOAD_ACTION (R111, R112). -/
def execLoadAction (params : List Payload) (s : State) : Host.Outcome State Fault Refusal :=
  .next (sendCommand Command.loadAction.code params s)

/-- LOAD_MAP (R118). -/
def execLoadMap (params : List Payload) (s : State) : Host.Outcome State Fault Refusal :=
  .next (sendCommand Command.loadMap.code params s)

/-- CLEAR_MAP (R119). -/
def execClearMap (params : List Payload) (s : State) : Host.Outcome State Fault Refusal :=
  .next (sendCommand Command.clearMap.code params s)

/-- LOAD_CROSSTALK (R22). -/
def execLoadCrosstalk (params : List Payload) (s : State) : Host.Outcome State Fault Refusal :=
  .next (sendCommand Command.loadCrosstalk.code params s)

end Sys2Proof.Machine
end

