-- ==== Sys2Proof/Machine/Notes.lean ====
section
/-!
DEFINITION. The meanings of the commands to strings: each command's words reach the command unit whole, which collects, holds or
executes them (R164 to R171). What a command does when it is executed stands in LoadCommands, SettingCommands,
NoteCommands and ReadCommands.
-/

namespace Sys2Proof.Machine

/-- STRING_ON (R89). -/
def execStringOn (params : List Payload) (s : State) : Host.Outcome State Fault Refusal :=
  .next (sendCommand Command.stringOn.code params s)

/-- STRING_OFF (R105). -/
def execStringOff (params : List Payload) (s : State) : Host.Outcome State Fault Refusal :=
  .next (sendCommand Command.stringOff.code params s)

/-- ALL_NOTES_END (R106). -/
def execAllNotesEnd (params : List Payload) (s : State) : Host.Outcome State Fault Refusal :=
  .next (sendCommand Command.allNotesEnd.code params s)

/-- MEASURE (R185). -/
def execMeasure (params : List Payload) (s : State) : Host.Outcome State Fault Refusal :=
  .next (sendCommand Command.measure.code params s)

/-- MEASURE_CANCEL (R190). -/
def execMeasureCancel (params : List Payload) (s : State) : Host.Outcome State Fault Refusal :=
  .next (sendCommand Command.measureCancel.code params s)

/-- INJECT (R137, R138). -/
def execInject (params : List Payload) (s : State) : Host.Outcome State Fault Refusal :=
  .next (sendCommand Command.inject.code params s)

end Sys2Proof.Machine
end

