-- ==== Sys2Proof/Machine/Reads.lean ====
section
/-!
DEFINITION. The meanings of the reads: each command's words reach the command unit whole, which collects, holds or
executes them (R164 to R171). What a command does when it is executed stands in LoadCommands, SettingCommands,
NoteCommands and ReadCommands.
-/

namespace Sys2Proof.Machine

/-- READ_STATUS (R179). -/
def execReadStatus (params : List Payload) (s : State) : Host.Outcome State Fault Refusal :=
  .next (sendCommand Command.readStatus.code params s)

/-- READ_STRING (R50, R108). -/
def execReadString (params : List Payload) (s : State) : Host.Outcome State Fault Refusal :=
  .next (sendCommand Command.readString.code params s)

/-- READ_GRID (R66, R67). -/
def execReadGrid (params : List Payload) (s : State) : Host.Outcome State Fault Refusal :=
  .next (sendCommand Command.readGrid.code params s)

/-- READ_MAP (R120). -/
def execReadMap (params : List Payload) (s : State) : Host.Outcome State Fault Refusal :=
  .next (sendCommand Command.readMap.code params s)

/-- READ_ACTION (R129). -/
def execReadAction (params : List Payload) (s : State) : Host.Outcome State Fault Refusal :=
  .next (sendCommand Command.readAction.code params s)

/-- READ_PROFILE (R180). -/
def execReadProfile (params : List Payload) (s : State) : Host.Outcome State Fault Refusal :=
  .next (sendCommand Command.readProfile.code params s)

/-- READ_COUNTERS (R143). -/
def execReadCounters (params : List Payload) (s : State) : Host.Outcome State Fault Refusal :=
  .next (sendCommand Command.readCounters.code params s)

/-- READ_STATUS_COUNTERS (R181). -/
def execReadStatusCounters (params : List Payload) (s : State) : Host.Outcome State Fault Refusal :=
  .next (sendCommand Command.readStatusCounters.code params s)

end Sys2Proof.Machine
end

