-- ==== Sys2Proof/Machine/Settings.lean ====
section
/-!
DEFINITION. The meanings of the settings, clears and resets and UNKNOWN_COMMAND: each command's words reach the command unit whole, which collects, holds or
executes them (R164 to R171). What a command does when it is executed stands in LoadCommands, SettingCommands,
NoteCommands and ReadCommands.
-/

namespace Sys2Proof.Machine

/-- UNKNOWN_COMMAND: a command whose code is not in the code list (R172). -/
def execUnknownCommand (code : BitVec 7) (params : List Payload) (s : State) : Host.Outcome State Fault Refusal :=
  .next (sendCommand code params s)

/-- SET_TICK (R70). -/
def execSetTick (params : List Payload) (s : State) : Host.Outcome State Fault Refusal :=
  .next (sendCommand Command.setTick.code params s)

/-- SET_NUMBERING (R125). -/
def execSetNumbering (params : List Payload) (s : State) : Host.Outcome State Fault Refusal :=
  .next (sendCommand Command.setNumbering.code params s)

/-- SET_STYLE (R113). -/
def execSetStyle (params : List Payload) (s : State) : Host.Outcome State Fault Refusal :=
  .next (sendCommand Command.setStyle.code params s)

/-- SET_FLAG_MASK (R176). -/
def execSetFlagMask (params : List Payload) (s : State) : Host.Outcome State Fault Refusal :=
  .next (sendCommand Command.setFlagMask.code params s)

/-- SET_COUNT_POINT (R142). -/
def execSetCountPoint (params : List Payload) (s : State) : Host.Outcome State Fault Refusal :=
  .next (sendCommand Command.setCountPoint.code params s)

/-- CLEAR_FLAGS (R177). -/
def execClearFlags (params : List Payload) (s : State) : Host.Outcome State Fault Refusal :=
  .next (sendCommand Command.clearFlags.code params s)

/-- CLEAR_COUNTERS (R144). -/
def execClearCounters (params : List Payload) (s : State) : Host.Outcome State Fault Refusal :=
  .next (sendCommand Command.clearCounters.code params s)

/-- RESTORE_DEFAULTS (R182). -/
def execRestoreDefaults (params : List Payload) (s : State) : Host.Outcome State Fault Refusal :=
  .next (sendCommand Command.restoreDefaults.code params s)

/-- RESTART (R183). -/
def execRestart (params : List Payload) (s : State) : Host.Outcome State Fault Refusal :=
  .next (sendCommand Command.restart.code params s)

end Sys2Proof.Machine
end

