-- ==== Sys2Proof/Machine/Stimuli.lean ====
section
/-!
DEFINITION. The meanings of the stimuli: POWER_ON, PICKUP_FRAME_SLOT, DOWNSTREAM_FRAME, UPSTREAM_FRAME and TICK.
-/

namespace Sys2Proof.Machine

/-- POWER_ON: every block takes its power-on state; the waiting commands are not the part's and stay (R7). -/
def execPowerOn (s : State) : Host.Outcome State Fault Refusal := .next { State.reset with pending := s.pending }

/-- PICKUP_FRAME_SLOT: the PLU takes one pickup frame slot (R2 to R5). -/
def execPickupFrameSlot (frame : PickupFrame) (order : List StringNo) (s : State) : Host.Outcome State Fault Refusal :=
  .next (pickupSlot frame order s)

/-- DOWNSTREAM_FRAME: the SLU takes a downstream frame (R8, R11). -/
def execDownstreamFrame (frame : DownstreamFrame) (s : State) : Host.Outcome State Fault Refusal := .next (downstream frame s)

/-- UPSTREAM_FRAME: the SLU sends an upstream frame (R13, R14, R159). -/
def execUpstreamFrame (s : State) : Host.Outcome State Fault Refusal := .next (upstream s)

/-- TICK: the tick divider takes one frame period, and at its underflow delivers a tick (R68). -/
def execTick (s : State) : Host.Outcome State Fault Refusal := .next (dividerPeriod s)

end Sys2Proof.Machine
end

