-- ==== Sys2Proof/Machine/Dispatch.lean ====
section
/-!
DEFINITION. One arm for each command and event of the table, each calling its meaning.
-/

namespace Sys2Proof.Machine

def exec (i : Instr) (s : State) : Host.Outcome State Fault Refusal :=
  match i with
  | .powerOn => Sys2Proof.Machine.execPowerOn s
  | .pickupFrameSlot frame order => Sys2Proof.Machine.execPickupFrameSlot frame order s
  | .pickupTeardown => Sys2Proof.Machine.execPickupTeardown s
  | .measureComplete string frame order => Sys2Proof.Machine.execMeasureComplete string frame order s
  | .downstreamFrame frame => Sys2Proof.Machine.execDownstreamFrame frame s
  | .synthLinkLoss => Sys2Proof.Machine.execSynthLinkLoss s
  | .upstreamFrame => Sys2Proof.Machine.execUpstreamFrame s
  | .resultGrant => Sys2Proof.Machine.execResultGrant s
  | .tick => Sys2Proof.Machine.execTick s
  | .earlyPoint string => Sys2Proof.Machine.execEarlyPoint string s
  | .giveUp string => Sys2Proof.Machine.execGiveUp string s
  | .releaseExpiry string => Sys2Proof.Machine.execReleaseExpiry string s
  | .updateExpiry string => Sys2Proof.Machine.execUpdateExpiry string s
  | .measureTimeout string => Sys2Proof.Machine.execMeasureTimeout string s
  | .unknownCommand code params => Sys2Proof.Machine.execUnknownCommand code params s
  | .loadGrid params => Sys2Proof.Machine.execLoadGrid params s
  | .loadProfile params => Sys2Proof.Machine.execLoadProfile params s
  | .loadAction params => Sys2Proof.Machine.execLoadAction params s
  | .loadMap params => Sys2Proof.Machine.execLoadMap params s
  | .clearMap params => Sys2Proof.Machine.execClearMap params s
  | .loadCrosstalk params => Sys2Proof.Machine.execLoadCrosstalk params s
  | .setTick params => Sys2Proof.Machine.execSetTick params s
  | .setNumbering params => Sys2Proof.Machine.execSetNumbering params s
  | .setStyle params => Sys2Proof.Machine.execSetStyle params s
  | .setFlagMask params => Sys2Proof.Machine.execSetFlagMask params s
  | .setCountPoint params => Sys2Proof.Machine.execSetCountPoint params s
  | .stringOn params => Sys2Proof.Machine.execStringOn params s
  | .stringOff params => Sys2Proof.Machine.execStringOff params s
  | .allNotesEnd params => Sys2Proof.Machine.execAllNotesEnd params s
  | .measure params => Sys2Proof.Machine.execMeasure params s
  | .measureCancel params => Sys2Proof.Machine.execMeasureCancel params s
  | .inject params => Sys2Proof.Machine.execInject params s
  | .readStatus params => Sys2Proof.Machine.execReadStatus params s
  | .readString params => Sys2Proof.Machine.execReadString params s
  | .readGrid params => Sys2Proof.Machine.execReadGrid params s
  | .readMap params => Sys2Proof.Machine.execReadMap params s
  | .readAction params => Sys2Proof.Machine.execReadAction params s
  | .readProfile params => Sys2Proof.Machine.execReadProfile params s
  | .readCounters params => Sys2Proof.Machine.execReadCounters params s
  | .readStatusCounters params => Sys2Proof.Machine.execReadStatusCounters params s
  | .clearFlags params => Sys2Proof.Machine.execClearFlags params s
  | .clearCounters params => Sys2Proof.Machine.execClearCounters params s
  | .restoreDefaults params => Sys2Proof.Machine.execRestoreDefaults params s
  | .restart params => Sys2Proof.Machine.execRestart params s

end Sys2Proof.Machine
end

