-- ==== Sys2Proof/Safety.lean ====
section
/-!
DEFINITION. What a safe run of the part keeps: the laws of the device the manual states, as predicates of a state. Each
is a conjunction of plain facts about the blocks; the statements of Certificates/Slice0 are in their terms.
-/

namespace Sys2Proof.Safety

open Sys2Proof.Machine

/-! ## The queues -/

/-- A string holds a reservation: its open note is FULL or GATE and announced (R146). -/
def reservationHeld (b : StringBlock) : Bool :=
  match b.tracker.context with
  | none => false
  | some c => c.announced && c.latched.style.reserves

/-- The number of strings that hold a reservation. -/
def reservations (s : State) : Nat := (allStrings.filter fun i => reservationHeld (s.string i)).length

/-- The number of queued PITCH messages of a string. -/
def queuedPitches (s : State) (i : StringNo) : Nat := (s.eq.entries.filter (·.isPitchOf i)).length

/-- The three laws the event queue owns (R145, R146, R149): occupancy plus R never exceeds 64; R is the number of strings
whose open note is FULL or GATE and announced; at most one PITCH of each string is queued. -/
structure EventQueueLaws (s : State) : Prop where
  capacity : s.eq.entries.length + s.eq.reserved ≤ 64
  reserved : s.eq.reserved = reservations s
  onePitch : ∀ i, queuedPitches s i ≤ 1

/-- The monitor queue holds at most 16 messages and the reply queue at most 8 (R156). -/
structure QueueBounds (s : State) : Prop where
  monitor : s.mq.length ≤ 16
  reply : s.rq.length ≤ 8

/-- The reply queue is full while a record is WAITING or a command is held (R157, R167). -/
structure WaitersFindNoSlot (s : State) : Prop where
  bound : s.rq.length ≤ 8
  waiting : ∀ i, (s.string i).record.state = .waiting → s.rq.length = 8
  held : ∀ b, s.cu = .held b → s.rq.length = 8

/-! ## The strings -/

/-- The conditions every loaded grid meets (R52): 2 to 40 entries, a top note of at most 127, every entry a valid period,
and the entries strictly decreasing. -/
structure LoadedGrid (g : Grid) : Prop where
  size : 2 ≤ g.entries.length ∧ g.entries.length ≤ 40
  top : g.base + g.entries.length - 1 ≤ 127
  range : ∀ p ∈ g.entries, 4096 ≤ p ∧ p ≤ 524287
  decreasing : g.entries.Pairwise (· > ·)

/-- Every loaded grid meets the four conditions of R52, and a string whose tracker is not MUTED has a grid (R53). -/
def GridLaw (s : State) : Prop :=
  ∀ i, (∀ g, (s.string i).grid = some g → LoadedGrid g) ∧
    ((s.string i).tracker.state ≠ .muted → (s.string i).grid.isSome = true)

/-- The tracker state has a note context open: SOUNDING and RELEASING (R82). -/
def contextState : TrackerState → Bool
  | .muted => false
  | .silent => false
  | .attack => false
  | .sounding => true
  | .releasing => true

/-- The note context is present exactly in SOUNDING and RELEASING, and the trough with it (R27, R82). -/
def ContextLaw (s : State) : Prop :=
  ∀ i, (s.string i).tracker.context.isSome = contextState (s.string i).tracker.state ∧
    (s.string i).stage.trough.isSome = (s.string i).tracker.context.isSome

/-- The context is of an announced FULL note, the one kind of note that runs the update scheduler (R77). -/
def runsScheduler (t : Tracker) : Bool :=
  match t.context with
  | none => false
  | some c => c.announced && decide (c.latched.style = .full)

/-- Which timers run in which tracker state: the attack clock in ATTACK alone, the release counter in RELEASING alone, the
update scheduler exactly while an announced FULL note is open (R71 to R79). -/
def TimerLaw (s : State) : Prop :=
  ∀ i, (s.string i).timers.attack.running = decide ((s.string i).tracker.state = .attack) ∧
    (s.string i).timers.release.running = decide ((s.string i).tracker.state = .releasing) ∧
    (s.string i).timers.update.running = runsScheduler (s.string i).tracker

/-- An announced note's latched route lets its messages reach ADMIT, and a monitored note's places copies (R86, R135). -/
def NoteLaw (s : State) : Prop :=
  ∀ i c, (s.string i).tracker.context = some c →
    (c.announced = true → c.latched.route.offers = true) ∧ (c.monitored = true → c.latched.route.copies = true)

/-- A period lies in the valid period range. -/
def validPeriod (p : Nat) : Bool := decide (Config.minPeriod ≤ p ∧ p ≤ Config.maxPeriod)

/-- Every field of a profile lies in its range (R33). -/
def profileInRange (p : Profile) : Bool :=
  decide (p.lowPass ≤ 4 ∧ 4 ≤ p.decay ∧ p.decay ≤ 12 ∧ 1 ≤ p.halfBand ∧ p.halfBand ≤ 8191 ∧ 1 ≤ p.thOn ∧ p.thOn ≤ 32768 ∧
    p.thOff < p.thOn ∧ p.restrikeRise ≤ 32767 ∧ 3 ≤ p.agreement ∧ p.agreement ≤ 8 ∧ p.glide ≤ 3 ∧ 2 ≤ p.lossN ∧
    p.lossN ≤ 15) &&
  decide (p.earlyCommit ≤ 1023 ∧ 1 ≤ p.giveUp ∧ p.giveUp ≤ 1023 ∧ p.releaseTime ≤ 1023 ∧ p.delayCode ≤ 3 ∧ p.rateMantissa ≤ 7 ∧
    p.rateExponent ≤ 3 ∧ p.deadband ≤ 63)

/-- Every field of an action entry lies in its range (R110). -/
def actionInRange (a : Action) : Bool :=
  decide (a.noteSel.fixed ≤ 127 ∧ a.velocitySel.fixed ≤ 127 ∧ a.laneSel.fixed ≤ 15 ∧ 1 ≤ a.bendSpan ∧ a.bendSpan ≤ 24 ∧
    a.mapBase ≤ 255 ∧ a.altMapBase ≤ 255 ∧ a.countBase ≤ 127 ∧ a.altCountBase ≤ 127 ∧ a.pickedOffset ≤ 7 ∧
    a.legatoOffset ≤ 7 ∧ a.injectedOffset ≤ 7)

/-- Settings a command writes stay in their ranges: profiles, action entries, crosstalk coefficients, TB (R21, R33, R70,
R110). -/
def SettingsLaw (s : State) : Prop :=
  s.divider.tickBase ≤ 255 ∧
    ∀ i, profileInRange (s.string i).profile = true ∧ actionInRange (s.string i).action = true ∧
      -128 ≤ (s.string i).crosstalk.kHi ∧ (s.string i).crosstalk.kHi ≤ 127 ∧
      -128 ≤ (s.string i).crosstalk.kLo ∧ (s.string i).crosstalk.kLo ≤ 127

/-- The validator's own law: C is present only while A is, m is 0 while A is absent and below LOSS_N otherwise, the ring
holds at most eight records, and every period held is valid (R37 to R44). -/
def validatorLawful (p : Profile) (v : Validator) : Bool :=
  decide (v.ring.length ≤ 8 ∧ v.misses < p.lossN) && v.ring.all (fun r => validPeriod r.period) &&
    v.accepted.all validPeriod && v.candidate.all validPeriod &&
    (v.accepted.isSome || (v.candidate.isNone && decide (v.misses = 0)))

/-- Every string's validator keeps its law. -/
def ValidatorLaw (s : State) : Prop := ∀ i, validatorLawful (s.string i).profile (s.string i).validator = true

/-- A filter value is a sample and an envelope is at most 32,768 (R23, R24). -/
def StageLaw (s : State) : Prop :=
  ∀ i, -32768 ≤ (s.string i).stage.y ∧ (s.string i).stage.y ≤ 32767 ∧ (s.string i).stage.e ≤ 32768

/-- A record's own law: RUNNING it has fewer periods than N and fewer ticks than T, and it has a pending outcome exactly
while WAITING (R184 to R189). -/
def recordLawful (r : Measurement) : Bool :=
  decide (4 ≤ r.target ∧ r.target ≤ 64 ∧ 1 ≤ r.timeout ∧ r.timeout ≤ 32767 ∧ r.count ≤ r.target ∧ r.elapsed ≤ r.timeout) &&
    decide (r.state = .running → r.count < r.target ∧ r.elapsed < r.timeout) &&
    (r.pending.isSome == decide (r.state = .waiting))

/-- Every string's measurement record keeps its law. -/
def RecordLaw (s : State) : Prop := ∀ i, recordLawful (s.string i).record = true

/-! ## The messages -/

/-- The fields of a message lie in the ranges the law of R122 gives: note or position 0..127, velocity 1..127, lane 0..15,
bend within ±64 times the largest span, Pv 0..8,128. -/
def messageInRange (m : Message) : Bool :=
  decide (m.lane ≤ 15) &&
    (match m.body with
     | .noteStart _ note velocity _ bend => decide (note ≤ 127 ∧ 1 ≤ velocity ∧ velocity ≤ 127 ∧ -1536 ≤ bend ∧ bend ≤ 1536)
     | .pitch _ note bend => decide (note ≤ 127 ∧ -1536 ≤ bend ∧ bend ≤ 1536)
     | .restrike velocity => decide (1 ≤ velocity ∧ velocity ≤ 127)
     | .noteEnd _ => true
     | .tune pv => decide (pv ≤ 8128))

/-- Every queued message's fields lie in range (R122). -/
def MessageLaw (s : State) : Prop :=
  (∀ m ∈ s.eq.entries, messageInRange m = true) ∧ (∀ m ∈ s.mq, messageInRange m = true)

/-- The values a note context gives its messages lie in their ranges (R61, R64, R82, R110). -/
def contextInRange (c : NoteContext) : Bool :=
  decide (c.note ≤ 127 ∧ c.pvComputed ≤ 8128 ∧ c.grade ≤ 59 ∧ c.latched.bendSpan ≤ 24 ∧ c.latched.noteSel.fixed ≤ 127 ∧
    c.latched.velocitySel.fixed ≤ 127 ∧ c.latched.lane.getD 0 ≤ 15)

/-- Every open note's values lie in their ranges, and no attack peak exceeds 32,768. -/
def NoteRangeLaw (s : State) : Prop :=
  ∀ i, (s.string i).tracker.attackPeak ≤ 32768 ∧ (s.string i).tracker.context.all contextInRange = true

/-! ## The command unit and the links -/

/-- A buffer keeps the first 128 of its words and is marked when it has received more (R163, R165). -/
def bufferLawful (b : CommandBuffer) : Bool :=
  decide (b.declared ≤ 255 ∧ b.stored.length = min b.received 128) && b.overflow == decide (128 < b.received)

/-- The command unit's law: fewer words received than declared while COLLECTING, all of them while HELD (R163 to R167). -/
def CommandUnitLaw (s : State) : Prop :=
  (∀ b, s.cu = .collecting b → bufferLawful b = true ∧ b.received < b.declared) ∧
    (∀ b, s.cu = .held b → bufferLawful b = true ∧ b.received = b.declared)

/-- The link counts: each run count stays below the count that moves its link in the state that uses it, and a pickup link
that is UP or HOLDING has a last good frame (R3 to R5, R8). -/
def LinkLaw (s : State) : Prop :=
  (s.plu.link = .searching → s.plu.goodRun < 16 ∧ s.plu.badRun = 0) ∧ (s.plu.link = .up → s.plu.badRun = 0) ∧
    (s.plu.link = .holding → 1 ≤ s.plu.badRun ∧ s.plu.badRun < 8) ∧
    (s.plu.link = .searching ↔ s.plu.lastGood = none) ∧
    (s.slu.link = .searching → s.slu.syncRun < 4 ∧ s.slu.missing = 0) ∧ (s.slu.link = .up → s.slu.missing < 2)

/-! ## What the statements speak of -/

/-- The row of the table for a command of the code list. -/
def row : Command → List Payload → Instr
  | .loadGrid => .loadGrid
  | .loadProfile => .loadProfile
  | .loadAction => .loadAction
  | .loadMap => .loadMap
  | .clearMap => .clearMap
  | .loadCrosstalk => .loadCrosstalk
  | .setTick => .setTick
  | .setNumbering => .setNumbering
  | .setStyle => .setStyle
  | .setFlagMask => .setFlagMask
  | .setCountPoint => .setCountPoint
  | .stringOn => .stringOn
  | .stringOff => .stringOff
  | .allNotesEnd => .allNotesEnd
  | .measure => .measure
  | .measureCancel => .measureCancel
  | .inject => .inject
  | .readStatus => .readStatus
  | .readString => .readString
  | .readGrid => .readGrid
  | .readMap => .readMap
  | .readAction => .readAction
  | .readProfile => .readProfile
  | .readCounters => .readCounters
  | .readStatusCounters => .readStatusCounters
  | .clearFlags => .clearFlags
  | .clearCounters => .clearCounters
  | .restoreDefaults => .restoreDefaults
  | .restart => .restart

/-- A command sent now is executed at once: the synth link is UP, the command unit READY, and a reply slot free (R163,
R167). -/
def executesAtOnce (s : State) : Prop := s.slu.link = .up ∧ s.cu = .ready ∧ s.rq.length < 8

/-- The part with one reply more in its reply queue. -/
def replied (c : Command) (body : ReplyBody) (s : State) : State := { s with rq := s.rq ++ [⟨c.code, body⟩] }

/-- ADJUSTED when a value was clamped, ACCEPT otherwise (R175). -/
def acceptUnless (clamped : Prop) [Decidable clamped] : ReplyBody := if clamped then .adjusted else .accept

/-- The flags after a cause of one flag is taken: set under the mask, and left otherwise (R17). -/
def flagsAfter (bit : Nat) (su : StatusUnit) : BitVec 12 :=
  if su.mask.getLsbD bit then su.flags ||| BitVec.ofNat 12 (2 ^ bit) else su.flags

/-- The status counters after `times` causes of one counter: it grows by as many and saturates (R19). -/
def countersAfter (index times : Nat) (su : StatusUnit) : Vector (BitVec 16) 24 :=
  su.counters.setIfInBounds index (BitVec.ofNat 16 (min 65535 ((su.counters[index]?.getD 0).toNat + times)))

/-- What the status unit keeps: its mask, every flag outside one list of bits, and every counter outside one list of
indices. -/
structure StatusKept (flags counters : List Nat) (before after : StatusUnit) : Prop where
  mask : after.mask = before.mask
  flag : ∀ k, k ∉ flags → after.flags.getLsbD k = before.flags.getLsbD k
  counter : ∀ k, k ∉ counters → after.counters[k]? = before.counters[k]?

/-- What the messages built in t left behind them is what they left in x: the two message queues and R, the counter sets, the
flags and the status counters. -/
structure SentAs (x t : State) : Prop where
  eq : t.eq = x.eq
  mq : t.mq = x.mq
  rc : t.rc = x.rc
  su : t.su = x.su

/-- The settings of a string, which only commands of the engine write. -/
structure SettingsKept (before after : StringBlock) : Prop where
  profile : after.profile = before.profile
  crosstalk : after.crosstalk = before.crosstalk
  grid : after.grid = before.grid
  action : after.action = before.action

/-- What the input stage's run at frame number n leaves behind it when the arrival is over, the trough apart, which the
tracker may change within the same arrival (R20, steps 1 to 7), and the sample its tap then hands over (R12). -/
structure StageRan (samples : PerString Word) (n : BitVec 24) (i : StringNo) (s t : State) : Prop where
  y : (t.string i).stage.y = (runStage samples n i (s.string i)).stage.y
  e : (t.string i).stage.e = (runStage samples n i (s.string i)).stage.e
  gate : (t.string i).stage.gate = (runStage samples n i (s.string i)).stage.gate
  detector : (t.string i).stage.detector = (runStage samples n i (s.string i)).stage.detector
  tentative : (t.string i).stage.tentative = (runStage samples n i (s.string i)).stage.tentative
  committed : (t.string i).stage.committed = (runStage samples n i (s.string i)).stage.committed
  handed : t.slu.handed.get i = match (s.string i).profile.tap with
    | .raw => samples.get i
    | .corrected => BitVec.ofInt 16 (correctedSample samples (s.string i).crosstalk i)
    | .filtered => BitVec.ofInt 16 (runStage samples n i (s.string i)).stage.y
    | .zero => 0

/-- What the reports of a string's run at frame number n have done to its own validator, record and attack peak when the
arrival is over, whatever order the strings were served in (R45, R47, R90, R91, R186). A record that the period brings to
N is the business of MEASURE_COMPLETE. -/
structure StringReported (samples : PerString Word) (n : BitVec 24) (i : StringNo) (s t : State) : Prop where
  validator : (t.string i).validator =
    (let r := runStage samples n i (s.string i)
     let found : Validator := if r.edge = some .onset then ⟨none, none, 0, []⟩ else (s.string i).validator
     match r.period with
     | none => found
     | some p => (found.take (s.string i).profile p).validator)
  recordKept : (runStage samples n i (s.string i)).period = none ∨ (s.string i).record.state ≠ .running →
    (t.string i).record = (s.string i).record
  recordGrown : ∀ p, (runStage samples n i (s.string i)).period = some p → (s.string i).record.state = .running →
    (s.string i).record.count + 1 < (s.string i).record.target →
    (t.string i).record = { (s.string i).record with
      count := (s.string i).record.count + 1, sum := (s.string i).record.sum + p
      minimum := some (((s.string i).record.minimum.map (min · p)).getD p)
      maximum := some (((s.string i).record.maximum.map (max · p)).getD p) }
  peak : (s.string i).tracker.state = .attack → (t.string i).tracker.state = .attack →
    (t.string i).tracker.attackPeak =
      max (s.string i).tracker.attackPeak (runStage samples n i (s.string i)).stage.e
  onset : (runStage samples n i (s.string i)).edge = some .onset →
    (t.string i).tracker.state = .attack ∧
      (t.string i).tracker.attackPeak = (runStage samples n i (s.string i)).stage.e

/-- One string's turn in a frame arrival (R20, steps 1 to 8): its stage runs, the attack peak follows in ATTACK (R91), the
tracker takes the edge (R81), the validator takes the raw period, the tracker its outcome with A after it (R45), and the
measurement record the period (R186). -/
def stringTurn (samples : PerString Word) (s : State) (i : StringNo) : State :=
  let b := s.string i
  let r := runStage samples s.plu.frameNo i b
  let peak := if b.tracker.state = .attack then max b.tracker.attackPeak r.stage.e else b.tracker.attackPeak
  let ran := { s with
    strings := s.strings.set i { b with stage := r.stage, tracker := { b.tracker with attackPeak := peak } }
    slu := { s.slu with handed := s.slu.handed.set i r.handed } }
  let edged := match r.edge with
    | some edge => takeEdge i edge ran
    | none => ran
  match r.period with
  | none => edged
  | some p =>
    let v := (edged.string i).validator.take (edged.string i).profile p
    recordPeriod i p (takeOutcome i v.outcome v.validator.accepted
      { edged with strings := edged.strings.set i { edged.string i with validator := v.validator } })

/-- The strings take their turns one after another, each once: those the sender names first, as named, and the rest in
string order (R20; the order is the model's operand, log entry 2). -/
def TakenInTurn (samples : PerString Word) (order : List StringNo) (s t : State) : Prop :=
  ∃ served : List StringNo, served.Perm allStrings ∧
    (order.Nodup → served = order ++ allStrings.filter (fun i => i ∉ order)) ∧
    t = served.foldl (stringTurn samples) s

/-- What a frame arrival does and does not touch: every string's stage runs once at n + 1 and its reports are taken, in
whatever order, and no setting, divider, lane or collected command is touched. The slot is a part of its frame period
(R1). -/
structure Arrived (samples : PerString Word) (s t : State) : Prop where
  ran : ∀ i, StageRan samples (s.plu.frameNo + 1) i s t
  reported : ∀ i, StringReported samples (s.plu.frameNo + 1) i s t
  frameNo : t.plu.frameNo = s.plu.frameNo + 1
  settings : ∀ i, SettingsKept (s.string i) (t.string i)
  slu : { t.slu with handed := (s.slu.doPart .slot).handed } = s.slu.doPart .slot
  divider : t.divider = s.divider
  tables : t.tables = s.tables
  numbering : t.numbering = s.numbering
  countPoint : t.rc.countPoint = s.rc.countPoint
  lane : t.lane = s.lane
  cu : t.cu = s.cu
  mask : t.su.mask = s.su.mask
  pending : t.pending = s.pending

/-- The part with the blocks of the strings a mask names changed, bit 0 naming string 1. -/
def onNamed (mask : Payload) (f : StringBlock → StringBlock) (s : State) : State :=
  let at_ := fun k b => if mask.getLsbD k then f b else b
  { s with strings := ⟨at_ 0 s.strings.s1, at_ 1 s.strings.s2, at_ 2 s.strings.s3, at_ 3 s.strings.s4, at_ 4 s.strings.s5,
    at_ 5 s.strings.s6⟩ }

/-- The part after a command. -/
def taken (c : Instr) (s : State) : State :=
  match exec c s with
  | .next t => t
  | .fault _ => s
  | .refused _ => s

/-- The rows of the points a string's receivers can reach at a tick, in the order TICK serves them (log entry 3). -/
def expiryRows (i : StringNo) : List Instr := [.giveUp i, .earlyPoint i, .releaseExpiry i, .updateExpiry i, .measureTimeout i]

/-- No receiver of the string that has yet to take the coming tick reaches a point at it (R72, R73, R75, R78, R187). -/
def QuietAtTick (b : StringBlock) : Prop :=
  (b.timers.attack.running = true → b.ticked.attack = false →
    b.timers.attack.value + 1 < b.timers.attack.giveUp ∧
      (b.timers.attack.value + 1 ≠ b.timers.attack.earlyCommit ∨ b.timers.attack.giveUp ≤ b.timers.attack.earlyCommit)) ∧
  (b.timers.release.running = true → b.ticked.release = false → 1 < b.timers.release.value) ∧
  (b.timers.update.running = true → b.ticked.update = false → 1 < b.timers.update.value) ∧
  (b.record.state = .running → b.ticked.record = false → b.record.elapsed + 1 < b.record.timeout)

/-- The word that names a string in a command. -/
def stringWord (i : StringNo) : Payload := BitVec.ofNat 15 i.number

/-- The part with the blocks of one string replaced. -/
def withBlock (i : StringNo) (b : StringBlock) (s : State) : State := { s with strings := s.strings.set i b }

/-- The parameter counts the code list allows (R173). -/
def listedCount (n : Nat) : Command → Prop
  | .loadGrid => n % 2 = 0 ∧ 2 ≤ n ∧ n ≤ 128
  | .loadMap => 2 ≤ n ∧ n ≤ 128
  | .loadProfile | .loadAction => n = 19
  | .inject => n = 9
  | .loadCrosstalk | .measure | .readGrid | .readMap | .readCounters => n = 3
  | .clearMap | .setStyle | .readStatusCounters | .clearCounters => n = 2
  | .setTick | .setNumbering | .setFlagMask | .setCountPoint | .stringOn | .stringOff | .measureCancel | .readString
  | .readAction | .readProfile | .clearFlags => n = 1
  | .allNotesEnd | .readStatus | .restoreDefaults | .restart => n = 0

/-- The codes R172 names as not in the code list. -/
def unlistedCode (code : Nat) : Prop :=
  code = 0x00 ∨ code = 0x07 ∨ (0x0D ≤ code ∧ code ≤ 0x0F) ∨ code = 0x13 ∨ (0x17 ≤ code ∧ code ≤ 0x1F) ∨
    (0x28 ≤ code ∧ code ≤ 0x2F) ∨ (0x34 ≤ code ∧ code ≤ 0x7F)

/-- What the end of a string's note or attack by a command leaves of its blocks, the tracker going to `final` (R105,
R106). -/
def endedBlock (final : TrackerState) (b : StringBlock) : StringBlock :=
  match b.tracker.state with
  | .muted => b
  | .silent => { b with tracker := { b.tracker with state := final } }
  | .attack => { b with
      timers := { b.timers with attack := { b.timers.attack with running := false } }
      tracker := ⟨final, b.tracker.context, 0⟩ }
  | .sounding | .releasing => { b with
      stage := { b.stage with trough := none }
      timers := { b.timers with
        release := { b.timers.release with running := false }, update := { b.timers.update with running := false } }
      tracker := ⟨final, none, b.tracker.attackPeak⟩ }

end Sys2Proof.Safety
end

