-- ==== Sys2Proof/Certificates/Slice0/Obligations.lean ====
section
/-!
DEFINITION. The statements about the model, for the provers. Each docstring names the rules a statement formalises, and
the log entry where a clause is the model's own choice.
-/

open Sys2Proof Sys2Proof.Machine Sys2Proof.Safety

/-! ## The machine -/

/-- One step takes the command at the front of the queue and leaves the rest waiting. With no command waiting the part idles:
the spec has no clock of its own for the block, and this is the model's choice (log entry 4). -/
def Obligations.StepTakesTheFrontCommand : Prop :=
  (∀ (c : Instr) (rest : List Instr) (s : State),
    step { s with pending := c :: rest } = exec c { s with pending := rest }) ∧
  ∀ s : State, step { s with pending := [] } = .next { s with pending := [] }

/-- Every command and event has a next state in every state, and none touches the queue of waiting commands. Three parts of
this are the model's choice: that a term the link cannot spell has one too (log entry 11), that a row naming an event inside a
stimulus answers when its event is not at hand (log entry 1), and that POWER_ON leaves the waiting commands (log entry 16). -/
def Obligations.EveryCommandCompletes : Prop := ∀ (c : Instr) (s : State), ∃ t, exec c s = .next t ∧ t.pending = s.pending

/-- POWER_ON leaves the power-on values of every chapter (R7, R8, R17, R19, R21, R31, R33, R47, R53, R70, R107, R110, R116,
R124, R139, R142, R145, R154, R156, R159, R160, R163, R184), whatever went before. R7 gives the bank, knob and switches of the
side word; that its unused bits are 0 (log entry 6), and that the waiting commands stay (log entry 16), is the model's
choice. -/
def Obligations.PowerOnLeavesThePowerOnState : Prop :=
  ∀ s : State, ∃ t, exec .powerOn s = .next t ∧ t.pending = s.pending ∧
    t.plu = ⟨.searching, 0, 0, none, 0, 0⟩ ∧
    t.slu.link = .searching ∧ t.slu.syncRun = 0 ∧ t.slu.missing = 0 ∧ t.slu.hold = false ∧ t.slu.lossPending = false ∧
    t.divider = ⟨11, 11⟩ ∧ t.numbering = .note ∧ t.rc.countPoint = .route ∧
    (∀ k, k < 128 → t.rc.sets[k]? = some ⟨0, 0⟩) ∧
    t.eq = ⟨[], 0⟩ ∧ t.mq = [] ∧ t.rq = [] ∧ t.lane = ⟨none, .mq⟩ ∧ t.cu = .ready ∧ t.su.flags = 0 ∧
    (∀ k, k < 12 → t.su.mask.getLsbD k = decide (k ≠ 8 ∧ k ≠ 9)) ∧ (∀ k, k < 24 → t.su.counters[k]? = some 0) ∧
    (∀ n : Fin 4, t.tables[n].keyMode = .note ∧ ∀ k, k < 256 → t.tables[n].entries[k]? = some none) ∧
    (∀ i, (t.string i).stage = ⟨0, 0, .opened, none, .disarmed, none, none⟩ ∧ (t.string i).crosstalk = ⟨0, 0⟩ ∧
      (t.string i).profile = ⟨2, 8, 64, 1024, 384, 0, 5, 1, 4, 0, 240, 40, 0, 0, 1, 4, .corrected, false⟩ ∧
      (t.string i).validator = ⟨none, none, 0, []⟩ ∧ (t.string i).grid = none ∧
      (t.string i).tracker = ⟨.muted, none, 0⟩ ∧
      (t.string i).timers.attack.running = false ∧ (t.string i).timers.attack.value = 0 ∧
      (t.string i).timers.release = ⟨false, 0⟩ ∧
      (t.string i).timers.update.running = false ∧ (t.string i).timers.update.value = 0 ∧
      (t.string i).action = ⟨.full, ⟨.source, 0, 0, 0⟩, ⟨.source, 0, 0, 0⟩, ⟨.source, 0, 0, 0⟩, 2, .pass, .glide, .none,
        0, 0, 0, 0, 0, 0, 0⟩ ∧
      (t.string i).record.state = .idle ∧ (t.string i).record.count = 0 ∧ (t.string i).record.sum = 0 ∧
      (t.string i).record.elapsed = 0 ∧ (t.string i).record.minimum = none ∧ (t.string i).record.maximum = none ∧
      (t.string i).record.pending = none)

/-- The state after power-on meets every law that the steps keep. -/
def Obligations.ResetMeetsTheLaws : Prop :=
  EventQueueLaws State.reset ∧ ContextLaw State.reset ∧ NoteLaw State.reset ∧ TimerLaw State.reset ∧
    WaitersFindNoSlot State.reset ∧ QueueBounds State.reset ∧ GridLaw State.reset ∧ SettingsLaw State.reset ∧
    ValidatorLaw State.reset ∧ StageLaw State.reset ∧ RecordLaw State.reset ∧ NoteRangeLaw State.reset ∧
    MessageLaw State.reset ∧ CommandUnitLaw State.reset ∧ LinkLaw State.reset

/-! ## What every step keeps -/

/-- The three laws of the event queue (R145, R146, R149) are kept by every step, with the laws of the open notes they rest
on. -/
def Obligations.StepKeepsTheEventQueueLaws : Prop :=
  ∀ s t : State, step s = .next t → EventQueueLaws s → ContextLaw s → NoteLaw s →
    EventQueueLaws t ∧ ContextLaw t ∧ NoteLaw t

/-- Each timer runs exactly in the tracker states that own it (R71 to R79), in every step. -/
def Obligations.StepKeepsTheTimerLaw : Prop :=
  ∀ s t : State, step s = .next t → ContextLaw s → TimerLaw s → TimerLaw t

/-- No step leaves a reply slot free while a record is WAITING or a command held, or a queue above its size (R154, R156,
R157). -/
def Obligations.StepLeavesNoSlotFreeWhileAProducerWaits : Prop :=
  ∀ s t : State, step s = .next t → WaitersFindNoSlot s → QueueBounds s → WaitersFindNoSlot t ∧ QueueBounds t

/-- Every loaded grid stays well-formed and a string that is not MUTED has one (R52, R53); every setting stays in its range
(R21, R33, R70, R110); the filter value stays a sample and the envelope at most 32,768 (R23, R24). -/
def Obligations.StepKeepsTheGridSettingsAndStageLaws : Prop :=
  ∀ s t : State, step s = .next t →
    (GridLaw s → GridLaw t) ∧ (SettingsLaw s → SettingsLaw t) ∧ (StageLaw s → StageLaw t)

/-- The lock state and the history ring keep their law (R37 to R44), and a measurement record never runs past N periods or T
ticks (R184 to R189). -/
def Obligations.StepKeepsTheValidatorAndRecordLaws : Prop :=
  ∀ s t : State, step s = .next t →
    (SettingsLaw s → ValidatorLaw s → ValidatorLaw t) ∧ (RecordLaw s → RecordLaw t)

/-- Every queued message carries fields in their ranges (R59, R122). -/
def Obligations.StepKeepsTheMessageLaw : Prop :=
  ∀ s t : State, step s = .next t → GridLaw s → SettingsLaw s → StageLaw s → NoteRangeLaw s → MessageLaw s →
    NoteRangeLaw t ∧ MessageLaw t

/-- The links' run counts and the command buffer keep their laws (R3 to R5, R8, R163 to R167). -/
def Obligations.StepKeepsTheLinkAndBufferLaws : Prop :=
  ∀ s t : State, step s = .next t → LinkLaw s → CommandUnitLaw s → LinkLaw t ∧ CommandUnitLaw t

/-! ## The input stage -/

/-- Crosstalk correction, string by string (R21); then the low-pass (R23) and the envelope (R24) at one run of the stage, and
the filter value and envelope a clear leaves. The coefficients are 0 at power-on, and the run touches no flag or counter. Lean's `/` on integers by a positive number is the floor. -/
def Obligations.CorrectionLowPassAndEnvelope : Prop :=
  (∀ (samples : PerString Word) (x : Crosstalk),
    let r := fun i => (samples.get i).toInt
    let saturated := fun v : Int => max (-32768) (min 32767 v)
    correctedSample samples x .s1 = saturated (r .s1 - x.kLo * r .s2 / 256) ∧
    correctedSample samples x .s2 = saturated (r .s2 - (x.kLo * r .s3 + x.kHi * r .s1) / 256) ∧
    correctedSample samples x .s3 = saturated (r .s3 - (x.kLo * r .s4 + x.kHi * r .s2) / 256) ∧
    correctedSample samples x .s4 = saturated (r .s4 - (x.kLo * r .s5 + x.kHi * r .s3) / 256) ∧
    correctedSample samples x .s5 = saturated (r .s5 - (x.kLo * r .s6 + x.kHi * r .s4) / 256) ∧
    correctedSample samples x .s6 = saturated (r .s6 - x.kHi * r .s5 / 256)) ∧
  (∀ (samples : PerString Word) (i : StringNo), correctedSample samples ⟨0, 0⟩ i = (samples.get i).toInt) ∧
  (∀ i, (State.reset.string i).crosstalk = ⟨0, 0⟩) ∧ (∀ i r s, (leaveStage i r s).su = s.su) ∧
  (∀ b : StringBlock, b.clearStage.stage.y = 0 ∧ b.clearStage.stage.e = 0) ∧
  ∀ (samples : PerString Word) (n : BitVec 24) (i : StringNo) (b : StringBlock),
    let c := correctedSample samples b.crosstalk i
    let r := runStage samples n i b
    r.stage.y = b.stage.y + (c - b.stage.y) / 2 ^ b.profile.lowPass ∧
    min c b.stage.y ≤ r.stage.y ∧ r.stage.y ≤ max c b.stage.y ∧
    (b.profile.lowPass = 0 → r.stage.y = c) ∧
    (r.stage.e : Int) = max |r.stage.y| (b.stage.e - b.stage.e / 2 ^ b.profile.decay) ∧
    (b.stage.e < 2 ^ b.profile.decay → (r.stage.e : Int) = max |r.stage.y| b.stage.e)

/-- The edge an arrival chooses, the onset gate and the trough, by tracker state (R25 to R27). -/
def Obligations.EdgeGateAndTrough : Prop :=
  ∀ (samples : PerString Word) (n : BitVec 24) (i : StringNo) (b : StringBlock),
    let r := runStage samples n i b
    let p := b.profile
    let e := r.stage.e
    let restrike := ∃ low, b.stage.trough = some low ∧ 0 < p.restrikeRise ∧ low + p.restrikeRise ≤ e
    let open_ := b.tracker.state = .sounding ∨ b.tracker.state = .releasing
    (p.thOn ≤ e → r.stage.gate = .shut) ∧ (e < p.thOff → e < p.thOn → r.stage.gate = .opened) ∧
    (p.thOff ≤ e → e < p.thOn → r.stage.gate = b.stage.gate) ∧
    (r.edge = some .onset ↔ b.tracker.state = .silent ∧ b.stage.gate = .opened ∧ p.thOn ≤ e) ∧
    (r.edge = some .restrike ↔ open_ ∧ restrike) ∧
    (r.edge = some .fall ↔
      (b.tracker.state = .attack ∧ e < p.thOff) ∨ (b.tracker.state = .sounding ∧ e < p.thOff ∧ ¬restrike)) ∧
    (r.edge = some .rise ↔ b.tracker.state = .releasing ∧ p.thOn ≤ e ∧ ¬restrike) ∧
    (open_ → restrike → r.stage.trough = some e) ∧ (open_ → ¬restrike → r.stage.trough = b.stage.trough.map (min · e)) ∧
    (¬open_ → r.stage.trough = b.stage.trough)

/-- The crossing detector and raw period delivery at one run of the stage (R28 to R30). `seen` is the tentative time after
the look for a crossing; H is at least 1, as R33 has it. -/
def Obligations.CrossingAndRawPeriod : Prop :=
  ∀ (samples : PerString Word) (n : BitVec 24) (i : StringNo) (b : StringBlock), 1 ≤ b.profile.halfBand →
    let r := runStage samples n i b
    let old := b.stage
    let half : Int := b.profile.halfBand
    let time := BitVec.ofInt 32 (256 * ((n.toNat : Int) - 1) + 256 * (-old.y) / (r.stage.y - old.y))
    let seen := if old.detector = .armed ∧ old.y < 0 ∧ 0 ≤ r.stage.y then some time else old.tentative
    let commits := old.detector = .armed ∧ half ≤ r.stage.y
    let aged := ∃ prev, old.committed = some prev ∧ 524287 < (256 * n.setWidth 32 - prev).toNat
    (commits → r.stage.detector = .disarmed ∧ r.stage.tentative = none) ∧
    (¬commits → r.stage.y ≤ -half → r.stage.detector = .armed ∧
      r.stage.tentative = if old.detector = .armed then seen else none) ∧
    (¬commits → -half < r.stage.y → r.stage.detector = old.detector ∧ r.stage.tentative = seen) ∧
    (∀ now, commits → seen = some now → old.committed = none → r.stage.committed = some now ∧ r.period = none) ∧
    (∀ now prev, commits → seen = some now → old.committed = some prev →
      ((now - prev).toNat < 4096 → r.stage.committed = some prev ∧ r.period = none) ∧
      (4096 ≤ (now - prev).toNat → (now - prev).toNat ≤ 524287 →
        r.stage.committed = some now ∧ r.period = some (now - prev).toNat) ∧
      (524287 < (now - prev).toNat → r.stage.committed = some now ∧ r.period = none)) ∧
    (¬commits → r.period = none ∧ (aged → r.stage.committed = none) ∧ (¬aged → r.stage.committed = old.committed))

/-! ## The period validator -/

/-- The agreement test (R36), with its asymmetry and the figures of its rule. -/
def Obligations.AgreementTest : Prop :=
  (∀ shift p q : Nat, agree shift p q = true ↔ |(p : Int) - q| * 2 ^ shift ≤ q) ∧
  (∃ shift p q, 3 ≤ shift ∧ shift ≤ 8 ∧ 4096 ≤ p ∧ p ≤ 524287 ∧ 4096 ≤ q ∧ q ≤ 524287 ∧
    agree shift p q = true ∧ agree shift q p = false) ∧
  (∀ shift p q : Nat, shift ≤ 8 → p ≤ 524287 → q ≤ 524287 → |(p : Int) - q| * 2 ^ shift ≤ 134217472) ∧
  Profile.powerOn.agreement = 5 ∧
  agree 5 148992 149500 = true ∧ agree 5 99600 111785 = false

/-- A raw period taken by the validator (R37 to R44). While A is absent: LOCK with a partner that was UNLOCKED and agrees,
UNLOCKED in every other case. While A is present: GLIDE, MERGE, JUMP and MISS or LOST, the first that applies, with A, C, m and
the ring after each. -/
def Obligations.ValidatorTakesARawPeriod : Prop :=
  (∀ (f : Profile) (p : Nat) (v : Validator), v.accepted = none →
    let partner := fun q : Nat => |(p : Int) - q| * 2 ^ f.agreement ≤ q
    (∀ q older, v.ring = ⟨q, .unlocked⟩ :: older → partner q →
      v.take f p = ⟨{ v with accepted := some ((p + q) / 2), ring := (⟨p, .lock⟩ :: v.ring).take 8 }, .lock, p⟩) ∧
    ((∀ q older, v.ring = ⟨q, .unlocked⟩ :: older → ¬partner q) →
      v.take f p = ⟨{ v with ring := (⟨p, .unlocked⟩ :: v.ring).take 8 }, .unlocked, p⟩)) ∧
  ∀ (f : Profile) (p a : Nat) (v : Validator), v.accepted = some a →
    let agrees := fun x reference : Nat => |(x : Int) - reference| * 2 ^ f.agreement ≤ reference
    let moved := fun x : Nat => if x ≤ a then a - (a - x) / 2 ^ f.glide else a + (x - a) / 2 ^ f.glide
    let placed := fun o => (⟨p, o⟩ :: v.ring : List RawRecord).take 8
    let merges := fun q older => v.ring = ⟨q, .miss⟩ :: older ∧ p + q ≤ 524287 ∧ agrees (p + q) a
    let jumps := ∃ c, v.candidate = some c ∧ agrees p c
    (agrees p a → v.take f p = ⟨⟨some (moved p), none, 0, placed .glide⟩, .glide, p⟩) ∧
    (∀ q older, ¬agrees p a → merges q older →
      v.take f p = ⟨⟨some (moved (p + q)), none, 0, ⟨p + q, .merge⟩ :: older⟩, .merge, p + q⟩) ∧
    (∀ c, ¬agrees p a → (∀ q older, ¬merges q older) → v.candidate = some c → agrees p c →
      v.take f p = ⟨⟨some ((p + c) / 2), none, 0, placed .jump⟩, .jump, p⟩) ∧
    (¬agrees p a → (∀ q older, ¬merges q older) → ¬jumps → v.misses + 1 < f.lossN →
      v.take f p = ⟨⟨some a, some p, v.misses + 1, placed .miss⟩, .miss, p⟩) ∧
    (¬agrees p a → (∀ q older, ¬merges q older) → ¬jumps → f.lossN ≤ v.misses + 1 →
      v.take f p = ⟨⟨none, none, 0, placed .lost⟩, .lost, p⟩)

/-! ## Grids, notes and velocity -/

/-- A lookup in a loaded grid, by the three cases of R58, and the one position k at which a period is IN. -/
def Obligations.GridLookup : Prop :=
  ∀ (g : Grid) (p : Nat), LoadedGrid g →
    let n := g.entries.length
    let entry := fun k => g.entries.getD k 0
    (entry 0 < p → gridLookup (some g) p = some (.under, 64 * g.base)) ∧
    (p ≤ entry (n - 1) → gridLookup (some g) p = some (.over, 64 * (g.base + n - 1))) ∧
    (∀ k, k + 1 < n → p ≤ entry k → entry (k + 1) < p →
      gridLookup (some g) p = some (.within, 64 * (g.base + k) + (entry k - p) * 64 / (entry k - entry (k + 1)))) ∧
    (p ≤ entry 0 → entry (n - 1) < p → ∃! k, k + 1 < n ∧ p ≤ entry k ∧ entry (k + 1) < p) ∧
    gridLookup none p = none

/-- The boundary periods of a grid, and the laws of a pitch value: it never decreases as the period falls, and it lies
between the grid's base and its top (R59). -/
def Obligations.GridBoundaries : Prop :=
  ∀ g : Grid, LoadedGrid g →
    let n := g.entries.length
    let entry := fun k => g.entries.getD k 0
    g.lookup (entry 0) = (.within, 64 * g.base) ∧
    (∀ k, 0 < k → k + 1 < n → g.lookup (entry k) = (.within, 64 * (g.base + k))) ∧
    g.lookup (entry (n - 1)) = (.over, 64 * (g.base + n - 1)) ∧
    (∀ p, entry 0 < p → (g.lookup p).2 = (g.lookup (entry 0)).2) ∧
    (∀ p q, p ≤ q → (g.lookup q).2 ≤ (g.lookup p).2) ∧
    ∀ p, 64 * g.base ≤ (g.lookup p).2 ∧ (g.lookup p).2 ≤ 64 * (g.base + n - 1) ∧ (g.lookup p).2 ≤ 8128

/-- The note nearest a pitch value, the bend from it, and their ranges (R61); the velocity grade, from the highest 1 bit and the
two bits below it, which never falls (R64); and the source velocity of a grade (R65). -/
def Obligations.NoteBendAndVelocity : Prop :=
  (∀ pv : Nat, noteOf pv = (pv + 32) / 64 ∧ bendOf pv (noteOf pv) = (pv : Int) - 64 * noteOf pv ∧
    -32 ≤ bendOf pv (noteOf pv) ∧ bendOf pv (noteOf pv) ≤ 31) ∧
  (noteOf 2592 = 41 ∧ bendOf 2592 41 = -32 ∧ noteOf 2591 = 40 ∧ bendOf 2591 40 = 31) ∧
  (∀ (g : Grid) (p : Nat), LoadedGrid g →
    g.base ≤ noteOf (g.lookup p).2 ∧ noteOf (g.lookup p).2 ≤ g.base + g.entries.length - 1 ∧ noteOf (g.lookup p).2 ≤ 127) ∧
  (∀ e, e < 4 → gradeOf e = e) ∧
  (∀ m t rest : Nat, 2 ≤ m → m ≤ 15 → t ≤ 3 → rest < 2 ^ (m - 2) →
    gradeOf (2 ^ m + t * 2 ^ (m - 2) + rest) = 4 * (m - 1) + t) ∧
  (∀ d e, d ≤ e → gradeOf d ≤ gradeOf e) ∧ (∀ e, e ≤ 32768 → gradeOf e ≤ 56) ∧
  (gradeOf 32767 = 55 ∧ gradeOf 32768 = 56) ∧
  ∀ grade, sourceVelocity grade = 2 * grade + 8 ∧ (grade ≤ 59 → 8 ≤ sourceVelocity grade ∧ sourceVelocity grade ≤ 126)

/-! ## Verdicts, counting and admission -/

/-- The verdicts in their order, that a crossing never lowers one, and what each means at ROUTE (R131, R133, R134): the monitor
queue takes the monitor copy of a message whose verdict is then COPY or DIVERT, whatever becomes of the event copy at ADMIT, and
stays as it was under PASS or DROP; PASS and COPY are offered at ADMIT unless the message is withheld (R135). An offered copy
meets the admission rules of AdmissionRules after the monitor copy is placed (R136): the result, the event queue, the flags and
the status counters are theirs; a message not offered leaves those of the placed copy. A message injected at ADMIT meets no route
and places no copy (R138). A crossing touches the two queues, the counter sets, flags and counters. -/
def Obligations.VerdictsNeverFall : Prop :=
  (let rank := Verdict.rank; rank .pass < rank .copy ∧ rank .copy < rank .divert ∧ rank .divert < rank .drop) ∧
  (∀ v w : Verdict, (v.higher w = v ∨ v.higher w = w) ∧ v.rank ≤ (v.higher w).rank ∧ w.rank ≤ (v.higher w).rank) ∧
  (∀ v : Verdict, (v.copies = true ↔ v = .copy ∨ v = .divert) ∧ (v.offers = true ↔ v = .pass ∨ v = .copy)) ∧
  ∀ (v route : Verdict) (withheld reserves : Bool) (index : Option Nat) (m : Message) (s : State),
    let x := crossRoute v route withheld reserves index m s
    (x.copied = true ↔ v.higher route = .copy ∨ v.higher route = .divert) ∧
    (x.offered = true ↔ (v.higher route = .pass ∨ v.higher route = .copy) ∧ withheld = false) ∧
    let copied := if v.higher route = .copy ∨ v.higher route = .divert then s.placeMonitor { m with monitor := true } else s
    let a := admitMessage reserves m copied
    x.state.mq = copied.mq ∧
    (x.offered = false → x.admitted = false ∧ x.state.eq = s.eq ∧ x.state.su = copied.su) ∧
    (x.offered = true → x.admitted = a.admitted ∧ x.state.eq = a.state.eq ∧ x.state.su = a.state.su) ∧
    { x.state with eq := s.eq, mq := s.mq, rc := s.rc, su := s.su } = s ∧
    let y := crossAdmit v index m s
    y.copied = false ∧ y.state.mq = s.mq ∧ (y.offered = true ↔ v = .pass ∨ v = .copy) ∧
    (y.offered = false → y.admitted = false ∧ y.state = s) ∧
    let d := admitMessage false m s
    (y.offered = true → y.admitted = d.admitted ∧ y.state.eq = d.state.eq ∧ y.state.su = d.state.su)

/-- Counting: each message is counted once at most, at the set of its index and at set 0, by the count point (R139 to
R141). `grown` is a set that has counted the message. -/
def Obligations.CountingAtTheCountPoint : Prop :=
  ∀ (v route : Verdict) (withheld reserves : Bool) (m : Message) (s : State),
    let grown := fun c : CounterSet => (⟨if m.isStart then c.notes + 1 else c.notes, c.messages + 1⟩ : CounterSet)
    let held := v.higher route
    (∀ k, 1 ≤ k → k ≤ 127 →
      let x := crossRoute v route withheld reserves (some k) m s
      let counted := (s.rc.countPoint = .route ∧ (held = .pass ∨ held = .copy)) ∨
        (s.rc.countPoint = .atAdmit ∧ x.admitted = true)
      ∀ n, n < 128 → x.state.rc.sets[n]? =
        if counted ∧ (n = 0 ∨ n = k) then s.rc.sets[n]?.map grown else s.rc.sets[n]?) ∧
    (crossRoute v route withheld reserves none m s).state.rc = s.rc ∧
    ∀ (k : Nat), 1 ≤ k → k ≤ 127 →
      let y := crossAdmit v (some k) m s
      let counted := s.rc.countPoint = .atAdmit ∧ y.admitted = true
      ∀ n, n < 128 → y.state.rc.sets[n]? =
        if counted ∧ (n = 0 ∨ n = k) then s.rc.sets[n]?.map grown else s.rc.sets[n]?

/-- The event queue's admission rules (R146 to R149). A start that must reserve its end needs two free units and takes both, and
its refusal is a lost start; a start that reserves nothing, a RESTRIKE and an injected end need one, and their refusal changes
nothing; an announced NOTE END is always admitted, removes the queued PITCH of its string and uses its reservation; a PITCH
replaces the queued PITCH of its string in place, or takes a free unit, or is refused as a lost update. -/
def Obligations.AdmissionRules : Prop :=
  ∀ (m : Message) (s : State),
    let free := 64 - (s.eq.entries.length + s.eq.reserved)
    (∀ c note velocity early bend, m.body = .noteStart c note velocity early bend →
      (2 ≤ free → admitMessage true m s = ⟨{ s with eq := ⟨s.eq.entries ++ [m], s.eq.reserved + 1⟩ }, true⟩) ∧
      (free < 2 → admitMessage true m s =
        ⟨{ s with su := { s.su with flags := flagsAfter 5 s.su, counters := countersAfter 3 1 s.su } }, false⟩) ∧
      (1 ≤ free → admitMessage false m s = ⟨{ s with eq := ⟨s.eq.entries ++ [m], s.eq.reserved⟩ }, true⟩) ∧
      (free < 1 → admitMessage false m s = ⟨s, false⟩)) ∧
    (∀ reserves, ((∃ velocity, m.body = .restrike velocity) ∨ (m.injected = true ∧ ∃ c, m.body = .noteEnd c)) →
      (1 ≤ free → admitMessage reserves m s = ⟨{ s with eq := ⟨s.eq.entries ++ [m], s.eq.reserved⟩ }, true⟩) ∧
      (free < 1 → admitMessage reserves m s = ⟨s, false⟩)) ∧
    (∀ reserves,
      (∀ cause, m.body = .noteEnd cause → m.injected = false →
        admitMessage reserves m s =
          ⟨{ s with eq := ⟨s.eq.entries.filter (fun q => !q.isPitchOf m.string) ++ [m], s.eq.reserved - 1⟩ }, true⟩) ∧
      (∀ cause note bend, m.body = .pitch cause note bend →
        ((∀ q ∈ s.eq.entries, q.isPitchOf m.string = false) →
          (1 ≤ free → admitMessage reserves m s = ⟨{ s with eq := ⟨s.eq.entries ++ [m], s.eq.reserved⟩ }, true⟩) ∧
          (free < 1 → admitMessage reserves m s =
            ⟨{ s with su := { s.su with flags := flagsAfter 6 s.su, counters := countersAfter 4 1 s.su } }, false⟩)) ∧
        (∀ before q old oldNote oldBend after, s.eq.entries = before ++ q :: after → q.string = m.string →
          q.body = .pitch old oldNote oldBend → (∀ r ∈ before ++ after, r.isPitchOf m.string = false) →
          admitMessage reserves m s =
            ⟨{ s with eq := ⟨before ++
                { q with lane := m.lane, injected := m.injected,
                         body := .pitch (if old.rank ≤ cause.rank then cause else old) note bend } :: after,
                s.eq.reserved⟩ }, true⟩)))

/-- The monitor queue takes every message handed to it and keeps the sixteen newest (R154). -/
def Obligations.MonitorQueueKeepsTheNewest : Prop :=
  ∀ (m : Message) (s : State),
    (s.mq.length < 16 → s.placeMonitor m = { s with mq := s.mq ++ [m] }) ∧
    (16 ≤ s.mq.length → s.placeMonitor m =
      { s with mq := s.mq.tail ++ [m],
               su := { s.su with flags := flagsAfter 7 s.su, counters := countersAfter 5 1 s.su } })

/-! ## The upstream frame and the lane -/

/-- One lane word slot: the message in flight goes on; at a boundary the first eligible source after the one last served
begins, HOLD keeping the event queue from it; with none the slot is empty (R152, R159, R160). A reply begun frees a slot (R157,
R169): it goes to the WAITING record of the lowest-numbered string, before any held command; with no record WAITING it goes to
the held command, which is executed as its row executes it with the command unit READY, and leaves it READY with one reply
placed; with neither it stays free. -/
def Obligations.LaneWordSlot : Prop :=
  ∀ s : State,
    let starts := fun (words : List Word) (source : Source) =>
      (⟨if words.length ≤ 1 then none else some ⟨words, source, 1⟩, source⟩ : Lane)
    let eqReady := s.eq.entries ≠ [] ∧ s.slu.hold = false
    (∀ t, s.lane.transmit = some t → laneWord s = ⟨true, t.words.getD t.sent 0⟩ ∧
      afterLaneSlot s = { s with lane := { s.lane with
        transmit := if t.sent + 1 < t.words.length then some { t with sent := t.sent + 1 } else none } }) ∧
    (s.lane.transmit = none → s.rq = [] → ¬eqReady → s.mq = [] → laneWord s = ⟨false, 0⟩ ∧ afterLaneSlot s = s) ∧
    (∀ m rest, s.lane.transmit = none → s.eq.entries = m :: rest → s.slu.hold = false →
      (s.lane.lastServed = .rq ∨ (s.lane.lastServed = .mq ∧ s.rq = []) ∨
        (s.lane.lastServed = .eq ∧ s.mq = [] ∧ s.rq = [])) →
      laneWord s = ⟨true, m.words.headD 0⟩ ∧
      afterLaneSlot s = { s with eq := ⟨rest, s.eq.reserved⟩, lane := starts m.words .eq }) ∧
    (∀ m rest, s.lane.transmit = none → s.mq = m :: rest →
      (s.lane.lastServed = .eq ∨ (s.lane.lastServed = .rq ∧ ¬eqReady) ∨
        (s.lane.lastServed = .mq ∧ s.rq = [] ∧ ¬eqReady)) →
      laneWord s = ⟨true, m.words.headD 0⟩ ∧ afterLaneSlot s = { s with mq := rest, lane := starts m.words .mq }) ∧
    (∀ r rest, s.lane.transmit = none → s.rq = r :: rest →
      (s.lane.lastServed = .mq ∨ (s.lane.lastServed = .eq ∧ s.mq = []) ∨
        (s.lane.lastServed = .rq ∧ ¬eqReady ∧ s.mq = [])) →
      let begun := { s with rq := rest, lane := starts r.words .rq }
      laneWord s = ⟨true, r.words.headD 0⟩ ∧
      (∀ i, (s.string i).record.state = .waiting → (∀ j, j.number < i.number → (s.string j).record.state ≠ .waiting) →
        rest.length < 8 → afterLaneSlot s = { begun with
          strings := s.strings.set i { s.string i with record := { (s.string i).record with state := .idle, pending := none } }
          rq := rest ++ [⟨0x14, .result (resultWords i (s.string i).record)⟩]
          su := { s.su with flags := flagsAfter 10 s.su } }) ∧
      ((∀ i, (s.string i).record.state ≠ .waiting) →
        ((∀ b, s.cu ≠ .held b) → afterLaneSlot s = begun) ∧
        (∀ b, s.cu = .held b → (afterLaneSlot s).cu = .ready ∧
          ∃ body, (⟨b.code, body⟩ : Reply) ∈ (afterLaneSlot s).rq) ∧
        ∀ (c : Command) (params : List Payload), s.cu = .held ⟨c.code, params.length, params.length, params, false⟩ →
          params.length ≤ 128 → s.slu.link = .up → rest.length < 8 →
          exec (row c params) { begun with cu := .ready } = .next (afterLaneSlot s)))

/-- An upstream frame carries the samples of the frame period before, the status word in its two halves, and two lane word
slots in order (R12 to R14, R159); while the synth link is SEARCHING none is sent (R1). The slot, the upstream frame and the
words of a period may be done in any order (R1): the samples of the period before are sent whether the upstream frame is the
first, second or third part of its period. The model's choices: a part already done begins the next period (log entry 4), the
status word is placed before the two slots (log entry 7), no event comes between the slots (log entry 17). -/
def Obligations.UpstreamFrameContent : Prop :=
  (∀ (p : PeriodPart) (u : Slu),
    let marked := fun d : PartsDone => match p with
      | .slot => { d with slot := true } | .upstream => { d with upstream := true } | .words => { d with words := true }
    let already := match p with | .slot => u.done.slot | .upstream => u.done.upstream | .words => u.done.words
    (already = false → u.doPart p = { u with done := marked u.done }) ∧
    (already = true → u.doPart p =
      { u with handedBefore := u.handed, handed := .const 0, done := marked ⟨false, false, false⟩ })) ∧
  (∀ (s : State) (f : DownstreamFrame) (g : PickupFrame) (order : List StringNo), s.slu.link = .up →
    s.slu.done = ⟨true, true, true⟩ → f.sync = true → f.control.getLsbD 14 = false → goodFrame g = true → s.plu.link = .up →
    let sent := fun t : State => t.slu.sent.map (·.samples)
    let up := taken .upstreamFrame
    let down := taken (.downstreamFrame f)
    let slot := taken (.pickupFrameSlot g order)
    sent (up s) = some s.slu.handed ∧ sent (up (down s)) = some s.slu.handed ∧ sent (up (slot s)) = some s.slu.handed ∧
    sent (up (down (slot s))) = some s.slu.handed ∧ sent (up (slot (down s))) = some s.slu.handed ∧
    (slot (down (up s))).slu.handedBefore = s.slu.handed ∧ (down (slot (up s))).slu.handedBefore = s.slu.handed ∧
    (down (slot (up s))).slu.handed = (slot (up s)).slu.handed ∧ (up (slot (down s))).slu.handed = (slot s).slu.handed) ∧
  ∀ before : State,
    let s := { before with slu := before.slu.doPart .upstream }
    let mid := afterLaneSlot s
    let done := afterLaneSlot mid
    let linkCode := match s.plu.link with | .searching => 0 | .up => 1 | .holding => 2
    let ready := match s.cu with | .ready => 1 | .collecting _ => 1 | .held _ => 0
    let anyFlag := if s.su.flags = 0 then 0 else 1
    let hold := if s.slu.hold then 1 else 0
    (before.slu.link = .up → s.eq.entries.length ≤ 64 → s.eq.reserved ≤ 6 →
      exec .upstreamFrame before = .next { done with slu := { done.slu with sent := some (
        { samples := s.slu.handedBefore
          stateHalf := BitVec.ofNat 16 (2 ^ 14 * linkCode + 2 ^ 13 * ready + 2 ^ 12 * anyFlag + 2 ^ 11 * hold +
            2 ^ 7 * (s.eq.entries.length / 8) + 2 ^ 4 * s.eq.reserved)
          sideHalf := BitVec.ofNat 16 (s.plu.side.toNat / 64 * 64)
          slot1 := laneWord s
          slot2 := laneWord mid } : UpstreamFrame) } }) ∧
    (before.slu.link = .searching → exec .upstreamFrame before = .next before)

/-- The words of messages and replies, bit by bit (R15, R16), and of a RESULT: string, outcome and count; then average and
spread, in the two-word form, when the count is above 0 (R188). -/
def Obligations.WordsOfMessagesAndReplies : Prop :=
  (∀ (i : StringNo) (lane note velocity pv : Nat) (bend : Int) (monitor injected early : Bool) (start : StartCause)
    (cause : PitchCause) (end_ : EndCause) (reply : Reply),
    lane ≤ 15 → note ≤ 127 → velocity ≤ 127 → pv ≤ 8128 → -1536 ≤ bend → bend ≤ 1536 →
    (∀ ws, reply.body = .data ws ∨ reply.body = .result ws → ws.length ≤ 255) →
    let bit := fun b : Bool => if b then 1 else 0
    let head := fun (kind lane cause : Nat) =>
      BitVec.ofNat 16 (2 ^ 15 + 2 ^ 12 * kind + 2 ^ 9 * i.number + 2 ^ 5 * lane + 16 * bit monitor + 8 * bit injected + cause)
    let bendWord := BitVec.ofInt 16 (bend % 2 ^ 15)
    let startCode := match start with | .picked => 0 | .legato => 1 | .recovery => 2 | .injected => 3
    let pitchCode := match cause with | .glide => 0 | .slur => 1 | .retarget => 2
    let endCode := match end_ with | .release => 0 | .split => 1 | .off => 2 | .link => 3 | .panic => 4 | .injected => 5
    let words := fun body => (⟨i, lane, monitor, injected, body⟩ : Message).words
    let code := 2 ^ 8 * reply.code.toNat
    let replyHead := fun kind => BitVec.ofNat 16 (2 ^ 15 + 2 ^ 12 * 5 + kind)
    words (.noteStart start note velocity early bend) =
      [head 0 lane startCode, BitVec.ofNat 16 (2 ^ 8 * note + 2 * velocity + bit early), bendWord] ∧
    words (.pitch cause note bend) = [head 1 lane pitchCode, BitVec.ofNat 16 (2 ^ 8 * note), bendWord] ∧
    words (.restrike velocity) = [head 2 lane 0, BitVec.ofNat 16 (2 * velocity)] ∧
    words (.noteEnd end_) = [head 3 lane endCode] ∧
    words (.tune pv) = [head 4 lane 0, BitVec.ofNat 16 pv] ∧
    (reply.body = .accept → reply.words = [replyHead 0, BitVec.ofNat 16 code]) ∧
    (reply.body = .adjusted → reply.words = [replyHead 1, BitVec.ofNat 16 code]) ∧
    (∀ reason, reply.body = .refused reason →
      let number := match reason with
        | .unknown => 1 | .length => 2 | .range => 3 | .grid => 4 | .busy => 5 | .noGrid => 6 | .idle => 7 | .full => 8
      reply.words = [replyHead 2, BitVec.ofNat 16 (code + number)]) ∧
    (∀ ws, reply.body = .data ws →
      reply.words = replyHead 3 :: BitVec.ofNat 16 (code + ws.length) :: ws.map (·.setWidth 16)) ∧
    (∀ ws, reply.body = .result ws →
      reply.words = replyHead 4 :: BitVec.ofNat 16 (code + ws.length) :: ws.map (·.setWidth 16))) ∧
  ∀ (i : StringNo) (r : Measurement) (o : MeasureOutcome), r.pending = some o → r.count ≤ 64 →
    let outcome := match o with | .complete => 0 | .timeout => 1 | .aborted => 2
    let head := BitVec.ofNat 15 (2 ^ 12 * i.number + 2 ^ 10 * outcome + r.count)
    let words := fun p : Nat => [BitVec.ofNat 15 (p / 2 ^ 15), BitVec.ofNat 15 (p % 2 ^ 15)]
    (r.count = 0 → resultWords i r = [head]) ∧
    (∀ low high, 0 < r.count → r.minimum = some low → r.maximum = some high → high ≤ 524287 →
      r.sum ≤ r.count * 524287 → resultWords i r = head :: (words (r.sum / r.count) ++ words (high - low)))

/-! ## Mapping and the latched action -/

/-- A lookup in a mapping table (R117) and the value each selector mode resolves (R121). -/
def Obligations.SelectorsAndTables : Prop :=
  (∀ (t : MapTable) (base : Nat) (keys : MapKeys),
    let key := match t.keyMode with | .note => keys.note | .grade => keys.grade | .position => keys.position
    (key = none → t.lookup base keys = none) ∧
    ∀ k, key = some k → (256 ≤ base + k → t.lookup base keys = none) ∧
      ∀ h : base + k < 256, t.lookup base keys = (t.entries[base + k]).map (·.toNat)) ∧
  ∀ (sel : Selector) (tables : Vector MapTable 4) (base : Nat) (keys : MapKeys) (source : Nat),
    let first := tables[sel.t1].lookup base keys
    let second := tables[sel.t2].lookup base keys
    (sel.mode = .source → sel.resolve tables base keys source = source) ∧
    (sel.mode = .fixed → sel.resolve tables base keys source = sel.fixed) ∧
    (∀ v, sel.mode = .mapFirst → first = some v → sel.resolve tables base keys source = v) ∧
    (sel.mode = .mapFirst → first = none → sel.resolve tables base keys source = source) ∧
    (∀ v, sel.mode = .mapChain → first = some v → sel.resolve tables base keys source = v) ∧
    (∀ v, sel.mode = .mapChain → first = none → second = some v → sel.resolve tables base keys source = v) ∧
    (sel.mode = .mapChain → first = none → second = none → sel.resolve tables base keys source = sel.fixed)

/-- What MAP puts into each kind of tracker message: the note, velocity and lane by the selectors, the bend measured from the
tracked note and clamped to the latched span (R117, R121 to R124, R126). -/
def Obligations.MapFillsTheFields : Prop :=
  ∀ (tables : Vector MapTable 4) (i : StringNo) (b : StringBlock) (c : NoteContext) (g : Grid), b.grid = some g →
    ∀ (pv grade : Nat) (early : Bool) (cause : PitchCause) (end_ : EndCause),
      let position := c.note - g.base
      let keys := fun x => (⟨some c.note, some x, some ((i.number - 1) * 40 + position)⟩ : MapKeys)
      let resolve := fun (sel : Selector) x source => sel.resolve tables c.latched.mapBase (keys x) source
      let note := fun x => resolve c.latched.noteSel x (match c.form with | .note => c.note | .position => position)
      let velocity := fun x => max 1 (resolve c.latched.velocitySel x (2 * x + 8))
      let span : Int := 64 * c.latched.bendSpan
      let bend := max (-span) (min span ((pv : Int) - 64 * c.note))
      let fresh := resolve b.action.laneSel grade i.number % 16
      let kept := c.latched.lane.getD 0
      let mapped := mapTracker tables i b c
      mapped (.start .picked pv grade early) =
        ⟨i, fresh, false, false, .noteStart .picked (note grade) (velocity grade) early bend⟩ ∧
      mapped (.start .legato pv grade early) =
        ⟨i, fresh, false, false, .noteStart .legato (note grade) (velocity grade) early bend⟩ ∧
      mapped (.start .recovery pv grade early) =
        ⟨i, kept, false, false, .noteStart .recovery (note grade) (velocity grade) early bend⟩ ∧
      mapped (.pitch cause pv) = ⟨i, kept, false, false, .pitch cause (note c.grade) bend⟩ ∧
      mapped (.restrike grade) = ⟨i, kept, false, false, .restrike (velocity grade)⟩ ∧
      mapped (.noteEnd end_) = ⟨i, kept, false, false, .noteEnd end_⟩

/-! ## The note tracker -/

/-- A note starts (R83, R114, R115): what the context holds, what the start does to the string's trough, clock and scheduler,
when it is announced or monitored, the monitor copy a COPY or DIVERT start places (R134), that its message crosses in full under
the latched route and counter index (R130, R139 to R141), as VerdictsNeverFall and CountingAtTheCountPoint give a crossing, and
that it touches nothing else (R77, R146, R147). That the attack peak is 0 outside ATTACK is the model's choice (log entry 14). -/
def Obligations.StartOfANote : Prop :=
  ∀ (i : StringNo) (pv : Nat) (cause : StartCause) (grade peak : Nat) (early : Bool) (s : State),
    cause = .picked ∨ cause = .legato →
    let b := s.string i
    let a := b.action
    let bankB := s.plu.side.getLsbD 15
    let alternate := (a.bankSelect = .altOnB ∧ bankB = true) ∨ (a.bankSelect = .altOnA ∧ bankB = false)
    let countBase := if alternate then a.altCountBase else a.countBase
    let index := countBase + if cause = .legato then a.legatoOffset else a.pickedOffset
    let t := startNote i pv cause grade peak early s
    let offered := a.route = .pass ∨ a.route = .copy
    let room := s.eq.entries.length + s.eq.reserved + (if a.style = .trigger then 1 else 2) ≤ 64
    ∃ c, (t.string i).tracker = ⟨.sounding, some c, 0⟩ ∧
      c.note = (pv + 32) / 64 ∧ c.pvComputed = pv ∧ c.pvQueued = none ∧ c.grade = grade ∧ c.cause = cause ∧
      c.early = early ∧ c.peak = peak ∧ c.bankB = bankB ∧ c.form = s.numbering ∧
      c.latched.style = a.style ∧ c.latched.route = a.route ∧ c.latched.bendSpan = a.bendSpan ∧
      c.latched.legato = a.legato ∧ c.latched.noteSel = a.noteSel ∧ c.latched.velocitySel = a.velocitySel ∧
      c.latched.mapBase = (if alternate then a.altMapBase else a.mapBase) ∧ c.latched.countBase = countBase ∧
      c.latched.counterIndex = (if countBase = 0 ∨ 128 ≤ index then none else some index) ∧
      (c.announced = true ↔ offered ∧ room) ∧ (c.monitored = true ↔ a.route = .copy ∨ a.route = .divert) ∧
      (let m := mapTracker s.tables i b c (.start cause pv grade early)
       c.latched.lane = some m.lane ∧
       t.mq = (if a.route = .copy ∨ a.route = .divert then (s.placeMonitor { m with monitor := true }).mq else s.mq) ∧
       SentAs (crossRoute .pass a.route false (decide (a.style ≠ .trigger)) c.latched.counterIndex m s).state t ∧
       (c.announced = true → t.eq = ⟨s.eq.entries ++ [m], s.eq.reserved + if a.style = .trigger then 0 else 1⟩)) ∧
      (c.announced = false → t.eq = s.eq) ∧
      (t.string i).stage = { b.stage with trough := some b.stage.e } ∧
      (t.string i).timers.attack = { b.timers.attack with running := false } ∧
      (t.string i).timers.release = b.timers.release ∧
      (c.announced = true → a.style = .full → (t.string i).timers.update =
        ⟨true, (b.profile.delayCode + 1) * 16, (8 + b.profile.rateMantissa) * 2 ^ b.profile.rateExponent,
          b.profile.deadband⟩) ∧
      ((c.announced = false ∨ a.style ≠ .full) → (t.string i).timers.update = b.timers.update) ∧
      { t.string i with stage := b.stage, timers := b.timers, tracker := b.tracker } = b ∧
      (∀ j, j ≠ i → t.string j = s.string j) ∧
      { t with strings := s.strings, eq := s.eq, mq := s.mq, rc := s.rc, su := s.su } = s ∧
      StatusKept [5, 7] [3, 5] s.su t.su

/-- Edges outside a restrike: ONSET opens an attack (R71, R90), FALL ends one, begins a release, or with RT 0 ends the note (R75,
R91, R102), RISE returns to SOUNDING (R76, R103). The note ends as EndOfANote states. That the attack peak is 0 outside ATTACK
is the model's choice (log entry 14). -/
def Obligations.EnvelopeEdges : Prop :=
  ∀ (i : StringNo) (s : State),
    let b := s.string i
    (b.tracker.state = .silent → takeEdge i .onset s =
      { s with
        strings := s.strings.set i { b with
          validator := ⟨none, none, 0, []⟩
          timers := { b.timers with attack := ⟨true, 0, b.profile.earlyCommit, b.profile.giveUp⟩ }
          tracker := ⟨.attack, b.tracker.context, b.stage.e⟩ }
        su := { s.su with counters := countersAfter (5 + i.number) 1 s.su } }) ∧
    (b.tracker.state = .attack → takeEdge i .fall s =
      { s with strings := s.strings.set i { b with
          timers := { b.timers with attack := { b.timers.attack with running := false } }
          tracker := ⟨.silent, b.tracker.context, 0⟩ } }) ∧
    (b.tracker.state = .sounding → 0 < b.profile.releaseTime → takeEdge i .fall s =
      { s with strings := s.strings.set i { b with
          timers := { b.timers with release := ⟨true, b.profile.releaseTime⟩ }
          tracker := { b.tracker with state := .releasing } } }) ∧
    (b.tracker.state = .sounding → b.profile.releaseTime = 0 →
      let ended := endNote i .release s
      takeEdge i .fall s = { ended with strings := ended.strings.set i { ended.string i with
        tracker := { (ended.string i).tracker with state := .silent } } }) ∧
    (b.tracker.state = .releasing → takeEdge i .rise s =
      { s with strings := s.strings.set i { b with
          timers := { b.timers with release := { b.timers.release with running := false } }
          tracker := { b.tracker with state := .sounding } } })

/-- The end of an open note (R82, R84 to R86, R148): the context and the trough go, the release counter and the scheduler
stop, and an announced FULL or GATE note whose route is PASS or COPY puts its NOTE END into the event queue, removing the queued
PITCH of its string and releasing its reservation. The end of an announced or monitored note leaves a monitor copy under COPY and
DIVERT and none under PASS and DROP (R134); it crosses under the latched route and counter index, withheld when the note is
unannounced (R130, R135, R139 to R141). A TRIGGER note, or an unannounced note that is not monitored, sends nothing. -/
def Obligations.EndOfANote : Prop :=
  ∀ (i : StringNo) (cause : EndCause) (s : State) (c : NoteContext), (s.string i).tracker.context = some c →
    let b := s.string i
    let t := endNote i cause s
    let m : Message := ⟨i, c.latched.lane.getD 0, false, false, .noteEnd cause⟩
    t.string i = { b with
      stage := { b.stage with trough := none }
      timers := { b.timers with
        release := { b.timers.release with running := false }, update := { b.timers.update with running := false } }
      tracker := { b.tracker with context := none } } ∧
    (∀ j, j ≠ i → t.string j = s.string j) ∧
    { t with strings := s.strings, eq := s.eq, mq := s.mq, rc := s.rc, su := s.su } = s ∧ StatusKept [7] [5] s.su t.su ∧
    (c.announced = true → c.latched.style ≠ .trigger → c.latched.route = .pass ∨ c.latched.route = .copy →
      t.eq = ⟨s.eq.entries.filter (fun q => !q.isPitchOf i) ++ [m], s.eq.reserved - 1⟩) ∧
    (c.latched.style = .trigger ∨ (c.announced = false ∧ c.monitored = false) →
      t.eq = s.eq ∧ t.mq = s.mq ∧ t.rc = s.rc ∧ t.su = s.su) ∧
    (c.announced = false → t.eq = s.eq) ∧
    (c.announced = true ∨ c.monitored = true → c.latched.style ≠ .trigger →
      SentAs (crossRoute .pass c.latched.route (!c.announced) true c.latched.counterIndex m s).state t ∧
      t.mq = if c.latched.route = .copy ∨ c.latched.route = .divert then (s.placeMonitor { m with monitor := true }).mq
        else s.mq)

/-- Validator outcomes taken while a note is open (R95 to R99, R103): the pitch moves, the note is retargeted, slurred or split,
or the lock is lost. The messages are those of buildPitch, endNote and startNote; with the monitor pitch stream on, a LOCK, GLIDE
or JUMP places its TUNE in the monitor queue after them, and a MERGE places none (R87, R155). -/
def Obligations.OutcomesOfAnOpenNote : Prop :=
  ∀ (i : StringNo) (s : State) (c : NoteContext) (a : Nat) (found : GridOutcome) (pv : Nat),
    let b := s.string i
    b.tracker.context = some c → b.tracker.state = .sounding ∨ b.tracker.state = .releasing →
    gridLookup b.grid a = some (found, pv) →
    let note := (pv + 32) / 64
    let tuned := fun (o : LockOutcome) (u : State) =>
      if b.profile.monitorStream = true ∧ o ≠ .merge then u.placeMonitor ⟨i, 0, false, false, .tune pv⟩ else u
    let noted := { s with su := { s.su with flags := if found = .within then s.su.flags else flagsAfter 8 s.su } }
    let holding := fun (k : NoteContext) (state : TrackerState) (counting : Bool) (u : State) =>
      { u with strings := u.strings.set i { b with
        timers := { b.timers with release := { b.timers.release with running := counting } }
        tracker := { b.tracker with state := state, context := some k } } }
    let stays := fun k => holding k b.tracker.state b.timers.release.running noted
    let returns := fun k => holding k .sounding (b.timers.release.running && decide (b.tracker.state = .sounding)) noted
    let sounds := fun k => holding k .sounding false noted
    let moved := { c with pvComputed := pv }
    let settled := { c with pvComputed := pv, early := false }
    (c.early = false → takeOutcome i .glide (some a) s = tuned .glide (stays moved)) ∧
    (c.early = false → takeOutcome i .merge (some a) s = stays moved) ∧
    (c.early = false → note = c.note → takeOutcome i .lock (some a) s = tuned .lock (stays moved)) ∧
    (c.early = false → note = c.note → takeOutcome i .jump (some a) s = tuned .jump (returns moved)) ∧
    (∀ o, o = .jump ∨ o = .lock → c.early = false → note ≠ c.note → c.latched.legato = .glide →
      takeOutcome i o (some a) s = tuned o (buildPitch i .slur (sounds { moved with note := note }))) ∧
    (∀ o, o = .jump ∨ o = .lock → c.early = false → note ≠ c.note → c.latched.legato = .split →
      takeOutcome i o (some a) s = tuned o
        (startNote i pv .legato (gradeOf b.stage.e) b.stage.e false (endNote i .split (sounds moved)))) ∧
    (∀ o, o = .glide ∨ o = .merge ∨ o = .lock → c.early = true →
      (note = c.note → takeOutcome i o (some a) s = tuned o (stays settled)) ∧
      (note ≠ c.note →
        takeOutcome i o (some a) s = tuned o (buildPitch i .retarget (stays { settled with note := note })))) ∧
    (c.early = true →
      (note = c.note → takeOutcome i .jump (some a) s = tuned .jump (returns settled)) ∧
      (note ≠ c.note →
        takeOutcome i .jump (some a) s = tuned .jump (buildPitch i .retarget (returns { settled with note := note })))) ∧
    (∀ left, takeOutcome i .lost left s =
      { s with su := { s.su with flags := flagsAfter 9 s.su, counters := countersAfter (17 + i.number) 1 s.su } }) ∧
    (∀ left, takeOutcome i .miss left s = s ∧ takeOutcome i .unlocked left s = s)

/-- Outcomes taken outside a note: a firm start from ATTACK when the lookup answers IN, RANGE when it does not (R92); nothing
in MUTED or SILENT but the TUNE of the monitor pitch stream (R87, R88, R90), and no TUNE where the lookup answers NONE, as for a
MUTED string with no grid (R87). MISS, UNLOCKED and LOST do nothing: a LOST is then no lock loss and sets no flag (R91). -/
def Obligations.OutcomesOutsideANote : Prop :=
  (∀ (i : StringNo) (s : State) (left : Option Nat), (s.string i).tracker.context = none →
    takeOutcome i .miss left s = s ∧ takeOutcome i .unlocked left s = s ∧ takeOutcome i .lost left s = s) ∧
  (∀ (i : StringNo) (s : State) (o : LockOutcome) (a : Nat), (s.string i).tracker.context = none →
    (s.string i).grid = none → takeOutcome i o (some a) s = s) ∧
  ∀ (i : StringNo) (s : State) (o : LockOutcome) (a : Nat) (found : GridOutcome) (pv : Nat),
    let b := s.string i
    b.tracker.context = none → o = .lock ∨ o = .glide ∨ o = .merge ∨ o = .jump →
    gridLookup b.grid a = some (found, pv) →
    let peak := b.tracker.attackPeak
    let flagged := { s with su := { s.su with flags := if found = .within then s.su.flags else flagsAfter 8 s.su } }
    let tune : Message := ⟨i, 0, false, false, .tune pv⟩
    let quiet := b.profile.monitorStream = false ∨ o = .merge
    let then_ := fun u : State => if quiet then u else u.placeMonitor tune
    (b.tracker.state = .attack → found = .within →
      takeOutcome i o (some a) s = then_ (startNote i pv .picked (gradeOf peak) peak false s)) ∧
    (b.tracker.state = .attack → found ≠ .within → takeOutcome i o (some a) s = then_ flagged) ∧
    (b.tracker.state = .silent ∨ b.tracker.state = .muted → quiet → takeOutcome i o (some a) s = s) ∧
    (b.tracker.state = .silent ∨ b.tracker.state = .muted → ¬quiet → takeOutcome i o (some a) s = then_ flagged)

/-- A restrike of an open note (R101, R103), under every latched route (R133, R134): RESTRIKE for an announced FULL or GATE note,
a recovery start offered in full for an unannounced one, nothing for a TRIGGER note; in every case the tracker is then SOUNDING
with its release counter stopped. PASS and COPY offer the message at ADMIT, COPY and DIVERT place a monitor copy, and under DIVERT
or DROP a recovery start is not offered and the note stays unannounced. Either message crosses in full under the latched route and
counter index (R130, R139 to R141). -/
def Obligations.RestrikeOfAnOpenNote : Prop :=
  ∀ (i : StringNo) (s : State) (c : NoteContext),
    let b := s.string i
    b.tracker.context = some c → b.tracker.state = .sounding ∨ b.tracker.state = .releasing →
    let grade := gradeOf b.stage.e
    let release := { b.timers.release with running := b.timers.release.running && decide (b.tracker.state = .sounding) }
    let sounding := { b with
      timers := { b.timers with release := release }, tracker := { b.tracker with state := .sounding } }
    let u := { s with strings := s.strings.set i sounding }
    let offers := c.latched.route = .pass ∨ c.latched.route = .copy
    let copies := c.latched.route = .copy ∨ c.latched.route = .divert
    let free := 64 - (s.eq.entries.length + s.eq.reserved)
    let t := takeEdge i .restrike s
    (c.latched.style = .trigger → t = u) ∧
    (c.latched.style ≠ .trigger → c.announced = true →
      let m := mapTracker s.tables i b c (.restrike grade)
      t.strings = u.strings ∧ SentAs (crossRoute .pass c.latched.route false true c.latched.counterIndex m s).state t ∧
      t.eq = (if offers ∧ 1 ≤ free then ⟨s.eq.entries ++ [m], s.eq.reserved⟩ else s.eq) ∧
      t.mq = if copies then (s.placeMonitor { m with monitor := true }).mq else s.mq) ∧
    (c.latched.style ≠ .trigger → c.announced = false →
      let again := { c with cause := .recovery, grade := grade }
      let m := mapTracker s.tables i b again (.start .recovery c.pvComputed grade c.early)
      let admitted := offers ∧ 2 ≤ free
      let update := if admitted ∧ c.latched.style = .full then
          ⟨true, (b.profile.delayCode + 1) * 16, (8 + b.profile.rateMantissa) * 2 ^ b.profile.rateExponent,
            b.profile.deadband⟩ else b.timers.update
      t.string i = { b with
        timers := { b.timers with release := release, update := update }
        tracker := ⟨.sounding, some { again with announced := decide admitted, monitored := c.monitored || decide copies },
          b.tracker.attackPeak⟩ } ∧
      SentAs (crossRoute .pass c.latched.route false true c.latched.counterIndex m s).state t ∧
      t.eq = (if admitted then ⟨s.eq.entries ++ [m], s.eq.reserved + 1⟩ else s.eq) ∧
      t.mq = if copies then (s.placeMonitor { m with monitor := true }).mq else s.mq) ∧
    (∀ j, j ≠ i → t.string j = s.string j) ∧
    { t with strings := s.strings, eq := s.eq, mq := s.mq, rc := s.rc, su := s.su } = s ∧ StatusKept [5, 7] [3, 5] s.su t.su

/-- A PITCH of an open note (R84 to R86): built for a FULL note alone; offered in full when the note is announced, and then
Pv last queued takes its Pv if it is admitted; withheld when it is unannounced and monitored; otherwise not built. One that is
built leaves a monitor copy under COPY and DIVERT, admitted or not, and none under PASS and DROP (R134); it crosses under the
latched route and counter index (R130, R135, R139 to R141). -/
def Obligations.PitchOfAnOpenNote : Prop :=
  ∀ (i : StringNo) (cause : PitchCause) (s : State) (c : NoteContext), (s.string i).tracker.context = some c →
    let b := s.string i
    let m := mapTracker s.tables i b c (.pitch cause c.pvComputed)
    let t := buildPitch i cause s
    let offered := c.latched.route = .pass ∨ c.latched.route = .copy
    let admitted := (∃ q ∈ s.eq.entries, q.isPitchOf i = true) ∨ s.eq.entries.length + s.eq.reserved + 1 ≤ 64
    (c.latched.style ≠ .full ∨ (c.announced = false ∧ c.monitored = false) → t = s) ∧
    (c.latched.style = .full → c.announced = true → offered → admitted →
      t.strings = s.strings.set i { b with
        tracker := { b.tracker with context := some { c with pvQueued := some c.pvComputed } } } ∧
      t.eq = (admitMessage true m s).state.eq) ∧
    (c.announced = false ∨ ¬offered ∨ ¬admitted → t.strings = s.strings ∧ t.eq = s.eq) ∧
    (c.latched.style = .full → c.announced = true ∨ c.monitored = true →
      SentAs (crossRoute .pass c.latched.route (!c.announced) true c.latched.counterIndex m s).state t ∧
      t.mq = if c.latched.route = .copy ∨ c.latched.route = .divert then (s.placeMonitor { m with monitor := true }).mq
        else s.mq) ∧
    { t with strings := s.strings, eq := s.eq, mq := s.mq, rc := s.rc, su := s.su } = s ∧
    StatusKept [6, 7] [4, 5] s.su t.su

/-! ## The pickup link -/

/-- What makes a pickup frame good (R2), and the slots of a link that is SEARCHING (R1, R3): good frames count up to sixteen,
a bad one returns the count to 0 and is neither counted nor flagged, and the sixteenth takes the link to UP and is delivered to
the strings, one after another (R20). The model's choices: the order of the strings is an operand (log entry 2), a slot already
taken in its period begins the next (log entry 4), the good-run count stays at 16 (log entry 13), and the strings run with the new
side word (log entry 18). -/
def Obligations.PickupSlotsWhileSearching : Prop :=
  (∀ f : PickupFrame,
    let even := fun w : LinkWord => ((List.range 16).countP (w.word.getLsbD ·) + if w.parity then 1 else 0) % 2 = 0
    (goodFrame f = true ↔ f.sync = true ∧ (∀ i, even (f.samples.get i)) ∧ even f.side)) ∧
  ∀ (f : PickupFrame) (order : List StringNo) (s : State), s.plu.link = .searching →
    let samples := f.samples.map (·.word)
    let after := exec (.pickupFrameSlot f order) s
    (s.slu.link = .up → goodFrame f = true → s.plu.goodRun < 15 →
      after = .next { s with plu := { s.plu with goodRun := s.plu.goodRun + 1 }, slu := s.slu.doPart .slot }) ∧
    (s.slu.link = .up → goodFrame f = false →
      after = .next { s with plu := { s.plu with goodRun := 0 }, slu := s.slu.doPart .slot }) ∧
    (s.slu.link = .up → goodFrame f = true → s.plu.goodRun = 15 → ∃ t, after = .next t ∧ Arrived samples s t ∧
      t.plu = ⟨.up, 16, 0, some ⟨samples, f.side.word⟩, f.side.word, s.plu.frameNo + 1⟩ ∧
      TakenInTurn samples order { s with plu := t.plu, slu := s.slu.doPart .slot } t) ∧
    (s.slu.link = .searching → after = .next s)

/-- The slots of a link that is UP or HOLDING (R2, R4, R5, R12, R20): a good frame is delivered; up to seven bad frames in a
row are counted, flagged and bridged by the last good frame. Every order of the strings gives each stage the same run and hands
over the sample its tap chooses (R12), and gives the same report to its own validator, record and attack peak (R45, R91, R186);
the strings take their turns at the shared queues one after another, each giving its tracker the edge before the outcome (R20,
R81). The model's choices: the order of the strings is an operand (log entry 2), a slot already taken in its period begins the
next (log entry 4), and the strings run with the new side word (log entry 18). -/
def Obligations.PickupSlotsWhilePlaying : Prop :=
  ∀ (f : PickupFrame) (order : List StringNo) (s : State), s.slu.link = .up →
    s.plu.link = .up ∨ s.plu.link = .holding →
    let samples := f.samples.map (·.word)
    let run := if s.plu.link = .up then 1 else s.plu.badRun + 1
    (goodFrame f = true → ∃ t, exec (.pickupFrameSlot f order) s = .next t ∧ Arrived samples s t ∧
      t.plu = { s.plu with link := .up, badRun := 0, lastGood := some ⟨samples, f.side.word⟩, side := f.side.word,
                           frameNo := s.plu.frameNo + 1 } ∧
      TakenInTurn samples order { s with plu := t.plu, slu := s.slu.doPart .slot } t) ∧
    (∀ g, goodFrame f = false → run < 8 → s.plu.lastGood = some g →
      ∃ t, exec (.pickupFrameSlot f order) s = .next t ∧ Arrived g.samples s t ∧
        t.plu = { s.plu with link := .holding, badRun := run, frameNo := s.plu.frameNo + 1 } ∧
        TakenInTurn g.samples order { s with
          plu := t.plu, slu := s.slu.doPart .slot
          su := { s.su with flags := flagsAfter 0 s.su, counters := countersAfter 0 1 s.su } } t ∧
        t.su.counters[0]? = (countersAfter 0 1 s.su)[0]? ∧
        (s.su.mask.getLsbD 0 = true ∨ s.su.flags.getLsbD 0 = true → t.su.flags.getLsbD 0 = true))

/-- The eighth bad frame in a row (R5, R6, R107, R191): the slot of PICKUP_TEARDOWN is that slot (the model's choice, log
entry 1). The link goes to SEARCHING, every tracker but a MUTED one to SILENT with its context closed and its timers stopped,
every stage, lock state and ring is cleared, an announced FULL or GATE note sends its NOTE END with cause LINK, R becomes 0, and
no setting, divider or lane is touched. The notes end in string order, each as EndOfANote states. Each measurement that was
RUNNING or WAITING places its RESULT of outcome ABORTED in string order, as far as reply slots last, the rest WAITING; a RESULT
placed sets MEASURE_DONE (R158, R188, R189), and the teardown sets PICKUP_LOST, each under the mask. The model's choices besides:
the samples of the period before stay for the upstream frame of this one (log entry 8), a slot already taken in its period begins
the next (log entry 4), and the attack peak is 0 outside ATTACK (log entry 14). -/
def Obligations.PickupTeardown : Prop :=
  ∀ s : State, s.slu.link = .up → s.plu.link = .holding → s.plu.badRun = 7 →
    (∀ f order, goodFrame f = false → exec (.pickupFrameSlot f order) s = exec .pickupTeardown s) ∧
    let noted := { s with
      plu := { s.plu with link := .searching, goodRun := 0, badRun := 0 }, slu := s.slu.doPart .slot
      su := { s.su with flags := flagsAfter 0 s.su, counters := countersAfter 0 1 s.su } }
    let ended := allStrings.foldl (fun u i => endNote i .link u) noted
    let active := allStrings.filter fun i => decide ((s.string i).record.state ≠ .idle)
    let placed := active.take (8 - s.rq.length)
    let result := fun i => (⟨0x14, .result (resultWords i { (s.string i).record with pending := some .aborted })⟩ : Reply)
    let measured := { ended.su with flags := if placed = [] then ended.su.flags else flagsAfter 10 ended.su }
    ∃ t, exec .pickupTeardown s = .next t ∧
      t.plu = { s.plu with link := .searching, goodRun := 0, badRun := 0, lastGood := none } ∧
      t.slu = s.slu.doPart .slot ∧ t.divider = s.divider ∧ t.tables = s.tables ∧ t.numbering = s.numbering ∧ t.lane = s.lane ∧
      t.cu = s.cu ∧ t.rc.countPoint = s.rc.countPoint ∧ t.su.mask = s.su.mask ∧ t.pending = s.pending ∧
      t.eq = ended.eq ∧ t.mq = ended.mq ∧ t.rc = ended.rc ∧ t.su = { measured with flags := flagsAfter 1 measured } ∧
      t.rq = s.rq ++ placed.map result ∧ StatusKept [0, 1, 7, 10] [0, 5] s.su t.su ∧
      (s.su.mask.getLsbD 1 = true → t.su.flags.getLsbD 1 = true) ∧
      (s.su.mask.getLsbD 10 = true → placed ≠ [] → t.su.flags.getLsbD 10 = true) ∧
      (placed = [] → t.su.flags.getLsbD 10 = s.su.flags.getLsbD 10) ∧
      t.su.counters[0]? = (countersAfter 0 1 s.su)[0]? ∧
      (∀ i,
        let b := s.string i
        let r := b.record
        SettingsKept b (t.string i) ∧
        { t.string i with record := r } = { b with
          stage := ⟨0, 0, .opened, none, .disarmed, none, none⟩, validator := ⟨none, none, 0, []⟩
          tracker := ⟨if b.tracker.state = .muted then .muted else .silent, none, 0⟩
          timers := ⟨{ b.timers.attack with running := false }, { b.timers.release with running := false },
            { b.timers.update with running := false }⟩ } ∧
        (r.state = .idle → (t.string i).record = r) ∧
        (i ∈ placed → (t.string i).record = { r with state := .idle, pending := none }) ∧
        (i ∈ active → i ∉ placed → (t.string i).record = { r with state := .waiting, pending := some .aborted })) ∧
      (EventQueueLaws s → NoteLaw s → t.eq.reserved = 0 ∧
        ∀ i, reservationHeld (s.string i) = true → ∃ m ∈ t.eq.entries, m.string = i ∧ m.body = .noteEnd .link)

/-! ## The synth link -/

/-- Downstream frames of a link that is SEARCHING (R8, R10, R11): frames with a sync mark count up to four, one without returns
the count to 0, and the fourth takes the link to UP, sets SYNTH_LOST for a loss pending, and is handled as in UP. A frame
without its sync mark taken in UP runs its period, and its words are discarded. The first period at UP has no samples before it
(R12). The model's choices: words already taken in their period begin the next (log entry 4), and the sync-run count stays at 4 in
UP (log entry 13). -/
def Obligations.DownstreamSyncRuns : Prop :=
  ∀ (f : DownstreamFrame) (s : State),
    let after := exec (.downstreamFrame f) s
    (s.slu.link = .searching → f.sync = true → s.slu.syncRun < 3 →
      after = .next { s with slu := { s.slu with syncRun := s.slu.syncRun + 1 } }) ∧
    (s.slu.link = .searching → f.sync = false → after = .next { s with slu := { s.slu with syncRun := 0 } }) ∧
    (s.slu.link = .searching → f.sync = true → s.slu.syncRun = 3 → f.control.getLsbD 14 = false →
      after = .next { s with
        slu := { s.slu with link := .up, syncRun := 4, lossPending := false, hold := f.control.getLsbD 15,
                            handedBefore := .const 0, handed := .const 0, done := ⟨false, false, true⟩ }
        su := { s.su with flags := if s.slu.lossPending then flagsAfter 2 s.su else s.su.flags } }) ∧
    (s.slu.link = .searching → f.sync = true → s.slu.syncRun = 3 → s.slu.missing = 0 →
      after = exec (.downstreamFrame f) { s with
        slu := { s.slu with link := .up, syncRun := 4, lossPending := false,
                            handedBefore := .const 0, handed := .const 0, done := ⟨false, false, false⟩ }
        su := { s.su with flags := if s.slu.lossPending then flagsAfter 2 s.su else s.su.flags } }) ∧
    (s.slu.link = .up → f.sync = false → s.slu.missing = 0 →
      after = .next { s with slu := { s.slu.doPart .words with missing := 1 } })

/-- A downstream frame taken in UP with its sync mark (R1, R8, R11, R163 to R168): HOLD as seen takes its bit, and a command
word reaches the command unit when WORD_VALID is 1. What the unit does with each word, the execution of a whole command apart:
a stray word, a header, a parameter word, a header that abandons a command, a word that meets a held command. That words already
taken in their period begin the next is the model's choice (log entry 4). -/
def Obligations.DownstreamWords : Prop :=
  ∀ (f : DownstreamFrame) (s : State), s.slu.link = .up → f.sync = true →
    let after := exec (.downstreamFrame f) s
    let w := f.command
    let valid := f.control.getLsbD 14 = true
    let seen := { s with slu := { s.slu.doPart .words with missing := 0, hold := f.control.getLsbD 15 } }
    let header := w.getLsbD 15 = true
    let code : BitVec 7 := BitVec.ofNat 7 (w.toNat / 256)
    let count := w.toNat % 256
    let fresh : CommandBuffer := ⟨code, count, 0, [], false⟩
    let noted := fun flag counter => { s.su with flags := flagsAfter flag s.su, counters := countersAfter counter 1 s.su }
    (¬valid → after = .next seen) ∧ (valid → after = .next (takeWord w seen)) ∧
    (valid → ¬header → s.cu = .ready → after = .next { seen with su := noted 3 1 }) ∧
    (valid → header → s.cu = .ready → 0 < count → after = .next { seen with cu := .collecting fresh }) ∧
    (valid → header → s.cu = .ready → count = 0 → 8 ≤ s.rq.length → after = .next { seen with cu := .held fresh }) ∧
    (∀ b, valid → header → s.cu = .collecting b → 0 < count →
      after = .next { seen with cu := .collecting fresh, su := noted 3 1 }) ∧
    (∀ b, valid → header → s.cu = .collecting b → count = 0 → 8 ≤ s.rq.length →
      after = .next { seen with cu := .held fresh, su := noted 3 1 }) ∧
    (∀ b, valid → ¬header → s.cu = .collecting b → b.received + 1 < b.declared ∨ 8 ≤ s.rq.length →
      let c : CommandBuffer := { b with
        received := b.received + 1
        stored := if b.received < 128 then b.stored ++ [w.setWidth 15] else b.stored
        overflow := if b.received < 128 then b.overflow else true }
      after = .next { seen with cu := if b.received + 1 = b.declared then .held c else .collecting c }) ∧
    (∀ b, valid → s.cu = .held b → after = .next { seen with su := noted 4 2 })

/-- The second missing sync mark in a row (R8 to R10, R162, R192): the frame of SYNTH_LINK_LOSS is that frame. Queues, R,
transmit record and command buffer go; every tracker but a MUTED one is SILENT; stages, lock states and rings are cleared;
timers stop; the divider is reloaded; records drop to IDLE with no RESULT; both links are SEARCHING; the loss is pending. The
settings, flags, status counters and counter sets stay. The model's choices: the row is that frame (log entry 1), no frame period
is at hand after it (log entry 4), and the attack peak is 0 outside ATTACK (log entry 14). -/
def Obligations.SynthLinkLoss : Prop :=
  ∀ s : State, s.slu.link = .up → s.slu.missing = 1 →
    (∀ f, f.sync = false → exec (.downstreamFrame f) s = exec .synthLinkLoss s) ∧
    ∃ t, exec .synthLinkLoss s = .next t ∧
      t.plu = { s.plu with link := .searching, goodRun := 0, badRun := 0, lastGood := none } ∧
      t.slu = { s.slu with link := .searching, syncRun := 0, missing := 0, hold := false, lossPending := true,
                           handed := .const 0, handedBefore := .const 0, done := ⟨false, false, false⟩ } ∧
      t.divider = ⟨s.divider.tickBase, s.divider.tickBase⟩ ∧ t.eq = ⟨[], 0⟩ ∧ t.mq = [] ∧ t.rq = [] ∧
      t.lane = ⟨none, .mq⟩ ∧ t.cu = .ready ∧ t.tables = s.tables ∧ t.numbering = s.numbering ∧ t.rc = s.rc ∧ t.su = s.su ∧
      t.pending = s.pending ∧
      ∀ i, SettingsKept (s.string i) (t.string i) ∧
        (t.string i).stage = ⟨0, 0, .opened, none, .disarmed, none, none⟩ ∧ (t.string i).validator = ⟨none, none, 0, []⟩ ∧
        (t.string i).tracker = ⟨if (s.string i).tracker.state = .muted then .muted else .silent, none, 0⟩ ∧
        (t.string i).timers.attack = { (s.string i).timers.attack with running := false } ∧
        (t.string i).timers.release = { (s.string i).timers.release with running := false } ∧
        (t.string i).timers.update = { (s.string i).timers.update with running := false } ∧
        (t.string i).record.state = .idle ∧ ((s.string i).record.state ≠ .idle → (t.string i).record.pending = none)

/-! ## Ticks -/

/-- TICK (R68, R71 to R78, R187): the divider counts down each frame period, and at 0 delivers a tick and reloads. A TICK
gives the points that fall in it as their own rows give them, string by string and in the order of log entry 3, those that reach
no point first (log entry 5): taking every expiry row ahead of it leaves it the same outcome, and leaves no receiver with a point
to reach. Of a string whose receivers that have yet to take the tick reach no point, all that TICK does is given; where that
holds of every string, no message, reply, count or flag comes of it. While the synth link is SEARCHING nothing counts. That a
receiver may take the tick ahead, and the order, are the model's choices. -/
def Obligations.TickDelivery : Prop :=
  ∀ s : State,
    (s.slu.link = .searching → exec .tick s = .next s) ∧
    (s.slu.link = .up → 0 < s.divider.count →
      exec .tick s = .next { s with divider := { s.divider with count := s.divider.count - 1 } }) ∧
    (s.slu.link = .up → s.divider.count = 0 →
      let due := (allStrings.flatMap expiryRows).foldl (fun u c => taken c u) s
      exec .tick s = exec .tick due ∧ (∀ i, QuietAtTick (due.string i)) ∧ due.slu = s.slu ∧ due.divider = s.divider) ∧
    (s.slu.link = .up → s.divider.count = 0 → ∃ t, exec .tick s = .next t ∧
      t.divider = ⟨s.divider.tickBase, s.divider.tickBase⟩ ∧ t.plu = s.plu ∧ t.slu = s.slu ∧ t.tables = s.tables ∧
      t.numbering = s.numbering ∧ t.lane = s.lane ∧ t.cu = s.cu ∧ t.rc.countPoint = s.rc.countPoint ∧
      t.pending = s.pending ∧ (∀ i, (t.string i).ticked = ⟨false, false, false, false⟩) ∧
      ((∀ i, QuietAtTick (s.string i)) → { t with strings := s.strings, divider := s.divider } = s) ∧
      ∀ i,
        let b := s.string i
        let a := b.timers.attack
        let u := b.timers.update
        QuietAtTick b → t.string i = { b with
          timers :=
            ⟨{ a with value := if a.running ∧ b.ticked.attack = false then min (a.value + 1) 1023 else a.value },
              { b.timers.release with value :=
                  if b.timers.release.running ∧ b.ticked.release = false then b.timers.release.value - 1
                  else b.timers.release.value },
              { u with value := if u.running ∧ b.ticked.update = false then u.value - 1 else u.value }⟩
          record := { b.record with elapsed :=
            if b.record.state = .running ∧ b.ticked.record = false then b.record.elapsed + 1 else b.record.elapsed }
          ticked := ⟨false, false, false, false⟩ })

/-- The points of the attack clock (R72, R73, R92 to R94): GIVE_UP counts an unpitched onset and ends the attack; EARLY_POINT
starts a note from the newest ring record inside the grid, with its early flag set, or goes on toward GU when no record is.
The clock takes its tick by its own row (log entry 3), with the string's timers that reach no point (log entry 5). The scheduler
of an early start does not count that tick (log entry 12), and the attack peak is 0 outside ATTACK (log entry 14): the model's
choices. -/
def Obligations.AttackClockPoints : Prop :=
  ∀ (i : StringNo) (s : State),
    let b := s.string i
    let a := b.timers.attack
    s.slu.link = .up → s.divider.count = 0 → b.ticked.attack = false → a.running = true → b.tracker.state = .attack →
    b.tracker.context = none → b.timers.release.running = false → b.timers.update.running = false →
    a.giveUp ≤ 1023 →
    let ticked := { b.ticked with attack := true, release := true, update := true }
    let clock := fun running => { b with timers := { b.timers with attack := ⟨running, a.value + 1, a.earlyCommit, a.giveUp⟩ }
                                         ticked := ticked }
    let outside := fun p => ∃ pv, gridLookup b.grid p = some (.under, pv) ∨ gridLookup b.grid p = some (.over, pv)
    let flagged := { s.su with flags := flagsAfter 8 s.su }
    (a.value + 1 = a.giveUp → exec (.giveUp i) s = .next { s with
      strings := s.strings.set i { clock false with tracker := ⟨.silent, none, 0⟩ }
      su := { s.su with counters := countersAfter (11 + i.number) 1 s.su } }) ∧
    (a.value + 1 = a.earlyCommit → a.earlyCommit < a.giveUp →
      (b.validator.ring = [] → exec (.earlyPoint i) s = .next { s with strings := s.strings.set i (clock true) }) ∧
      (b.validator.ring ≠ [] → (∀ r ∈ b.validator.ring, outside r.period) →
        exec (.earlyPoint i) s = .next { s with strings := s.strings.set i (clock true), su := flagged }) ∧
      (∀ newer r older pv, b.validator.ring = newer ++ r :: older → (∀ q ∈ newer, outside q.period) →
        gridLookup b.grid r.period = some (.within, pv) →
        exec (.earlyPoint i) s = .next (startNote i pv .picked (gradeOf b.tracker.attackPeak) b.tracker.attackPeak true
          { s with strings := s.strings.set i (clock true), su := if newer = [] then s.su else flagged })))

/-- The release expiry ends the note (R75, R104), and the update expiry offers a PITCH when its test passes and nothing when it
fails (R78, R100). Each takes its tick by its own row (log entry 3), the other first when it reaches no point (log entry 5): the
model's choices. -/
def Obligations.ReleaseAndUpdateExpiries : Prop :=
  ∀ (i : StringNo) (s : State) (c : NoteContext),
    let b := s.string i
    let u := b.timers.update
    let release := b.timers.release
    s.slu.link = .up → s.divider.count = 0 → b.tracker.context = some c → b.timers.attack.running = false →
    (b.ticked.release = false → release = ⟨true, 1⟩ → b.tracker.state = .releasing →
      let ahead := b.ticked.update = false ∧ ¬(u.running = true ∧ u.value ≤ 1)
      let ended := endNote i .release { s with strings := s.strings.set i { b with
        timers := { b.timers with
          release := ⟨false, 0⟩, update := { u with value := if ahead ∧ u.running = true then u.value - 1 else u.value } }
        ticked := { b.ticked with attack := true, release := true, update := b.ticked.update || decide ahead } } }
      exec (.releaseExpiry i) s = .next { ended with strings := ended.strings.set i { ended.string i with
        tracker := { (ended.string i).tracker with state := .silent } } }) ∧
    (b.ticked.update = false → u.running = true → u.value = 1 →
      let ahead := b.ticked.release = false ∧ ¬(release.running = true ∧ release.value ≤ 1)
      let ticked := { s with strings := s.strings.set i { b with
        timers := { b.timers with
          update := { u with value := u.period }
          release := { release with value := if ahead ∧ release.running = true then release.value - 1 else release.value } }
        ticked := { b.ticked with attack := true, release := b.ticked.release || decide ahead, update := true } } }
      let far := c.pvQueued = none ∨ ∃ q, c.pvQueued = some q ∧ (u.deadband : Int) ≤ |(c.pvComputed : Int) - q|
      (b.validator.accepted ≠ none → c.early = false → far →
        exec (.updateExpiry i) s = .next (buildPitch i .glide ticked)) ∧
      (b.validator.accepted = none ∨ c.early = true ∨ ¬far → exec (.updateExpiry i) s = .next ticked))

/-- The ends of a measurement (R157, R186 to R189): MEASURE_TIMEOUT at the tick that brings elapsed to T, MEASURE_COMPLETE at
the slot whose frame arrival delivers the Nth period, and RESULT_GRANT at the lane word slot that begins a reply while a record
is WAITING. A RESULT takes a free slot at once, or its record waits. That these three are rows of their own, each at its moment, is
the model's choice (log entries 1 and 3), and so is that an upstream frame already sent in its period begins the next (log entry
4). -/
def Obligations.MeasurementEnds : Prop :=
  ∀ (i : StringNo) (s : State), s.slu.link = .up →
    let b := s.string i
    let r := b.record
    let free := s.rq.length < 8
    let done := { s.su with flags := flagsAfter 10 s.su }
    (s.divider.count = 0 → b.ticked.record = false → r.state = .running → r.elapsed + 1 = r.timeout →
      let ended := { r with elapsed := r.elapsed + 1, pending := some .timeout }
      let marked := { b with ticked := { b.ticked with record := true } }
      exec (.measureTimeout i) s = .next (if free then
        { s with strings := s.strings.set i { marked with record := { ended with state := .idle, pending := none } }
                 rq := s.rq ++ [⟨0x14, .result (resultWords i ended)⟩], su := done }
        else { s with strings := s.strings.set i { marked with record := { ended with state := .waiting } } })) ∧
    (∀ f order p, goodFrame f = true → s.plu.link = .up ∨ s.plu.link = .holding →
      (runStage (f.samples.map (·.word)) (s.plu.frameNo + 1) i b).period = some p →
      r.state = .running → r.count + 1 = r.target → (∀ j, j ≠ i → (s.string j).record.state ≠ .running) →
      let ended := { r with count := r.count + 1, sum := r.sum + p, pending := some MeasureOutcome.complete,
                            minimum := some ((r.minimum.map (min · p)).getD p),
                            maximum := some ((r.maximum.map (max · p)).getD p) }
      ∃ t, exec (.measureComplete i f order) s = .next t ∧ exec (.pickupFrameSlot f order) s = .next t ∧
        (free → (t.string i).record = { ended with state := .idle, pending := none } ∧
          t.rq = s.rq ++ [⟨0x14, .result (resultWords i ended)⟩] ∧
          (s.su.mask.getLsbD 10 = true → t.su.flags.getLsbD 10 = true)) ∧
        (¬free → (t.string i).record = { ended with state := .waiting } ∧ t.rq = s.rq)) ∧
    (∀ reply rest, s.lane.transmit = none → s.rq = reply :: rest → rest.length < 8 → s.chosenSource = some .rq →
      r.state = .waiting → (∀ j, j.number < i.number → (s.string j).record.state ≠ .waiting) →
      2 ≤ reply.words.length →
      let sent := if 2 < reply.words.length then some (⟨reply.words, .rq, 2⟩ : Transmit) else none
      ∃ t, exec .resultGrant s = .next t ∧ exec .upstreamFrame s = .next t ∧
        { t with slu := { t.slu with sent := s.slu.sent } } =
          { s with strings := s.strings.set i { b with record := { r with state := .idle, pending := none } }
                   rq := rest ++ [⟨0x14, .result (resultWords i r)⟩], lane := ⟨sent, .rq⟩, su := done
                   slu := s.slu.doPart .upstream })

/-- A row that names an event inside a stimulus does nothing while its event is not at hand: the model's choice (log entry 1).
RESULT_GRANT is not at hand while no record is WAITING, or while neither lane word slot of the upstream frame begins a reply;
MEASURE_COMPLETE is not at hand when the string's record is not RUNNING, the slot delivers no frame arrival, the arrival no raw
period to the string, or the period leaves the count below N. -/
def Obligations.InnerEventsNotAtHand : Prop :=
  ∀ (i : StringNo) (s : State),
    let b := s.string i
    let a := b.timers.attack
    let tick := s.slu.link = .up ∧ s.divider.count = 0
    (¬(s.slu.link = .up ∧ s.plu.link = .holding ∧ s.plu.badRun = 7) → exec .pickupTeardown s = .next s) ∧
    (¬(s.slu.link = .up ∧ s.slu.missing = 1) → exec .synthLinkLoss s = .next s) ∧
    ((∀ j, (s.string j).record.state ≠ .waiting) → exec .resultGrant s = .next s) ∧
    (let begins := fun u : State => u.lane.transmit = none ∧ u.chosenSource = some .rq
     s.slu.link = .searching ∨ (¬begins s ∧ ¬begins (afterLaneSlot s)) → exec .resultGrant s = .next s) ∧
    (∀ f order,
      let bad := goodFrame f = false
      let noArrival := s.slu.link = .searching ∨ (s.plu.link = .searching ∧ (bad ∨ s.plu.goodRun + 1 < 16)) ∨
        (s.plu.link = .holding ∧ bad ∧ 8 ≤ s.plu.badRun + 1) ∨ (bad ∧ s.plu.lastGood = none)
      let samples := if bad then (s.plu.lastGood.map (·.samples)).getD (.const 0) else f.samples.map (·.word)
      noArrival ∨ b.record.state ≠ .running ∨ (runStage samples (s.plu.frameNo + 1) i b).period = none ∨
        b.record.count + 1 < b.record.target →
      exec (.measureComplete i f order) s = .next s) ∧
    (¬(tick ∧ b.ticked.attack = false ∧ a.running = true ∧ a.value + 1 = a.earlyCommit ∧ a.earlyCommit < a.giveUp) →
      exec (.earlyPoint i) s = .next s) ∧
    (¬(tick ∧ b.ticked.attack = false ∧ a.running = true ∧ a.giveUp ≤ a.value + 1) → exec (.giveUp i) s = .next s) ∧
    (¬(tick ∧ b.ticked.release = false ∧ b.timers.release.running = true ∧ b.timers.release.value ≤ 1) →
      exec (.releaseExpiry i) s = .next s) ∧
    (¬(tick ∧ b.ticked.update = false ∧ b.timers.update.running = true ∧ b.timers.update.value ≤ 1) →
      exec (.updateExpiry i) s = .next s) ∧
    (¬(tick ∧ b.ticked.record = false ∧ b.record.state = .running ∧ b.record.timeout ≤ b.record.elapsed + 1) →
      exec (.measureTimeout i) s = .next s)

/-! ## Commands -/

/-- The one-word settings, SET STYLE, CLEAR FLAGS and CLEAR COUNTERS (R18, R69, R70, R113, R125, R142, R144, R176, R177): what is
written, its clamp or its RANGE limits, one reply, and nothing else. -/
def Obligations.SettingAndClearCommands : Prop :=
  ∀ (w style mask first number : Payload) (s : State), executesAtOnce s →
    exec (.setTick [w]) s = .next (replied .setTick (acceptUnless (255 < w.toNat))
      { s with divider := { s.divider with tickBase := min 255 w.toNat } }) ∧
    exec (.setNumbering [w]) s = .next (replied .setNumbering (acceptUnless (1 < w.toNat))
      { s with numbering := if w.toNat = 0 then .note else .position }) ∧
    exec (.setCountPoint [w]) s = .next (replied .setCountPoint (acceptUnless (1 < w.toNat))
      { s with rc := { s.rc with countPoint := if w.toNat = 0 then .route else .atAdmit } }) ∧
    exec (.setFlagMask [w]) s = .next (replied .setFlagMask .accept { s with su := { s.su with mask := w.setWidth 12 } }) ∧
    exec (.setStyle [w, style]) s = .next (replied .setStyle (acceptUnless (2 < style.toNat)) (onNamed w (fun b =>
      { b with action := { b.action with
        style := if style.toNat = 0 then .full else if style.toNat = 1 then .gate else .trigger } }) s)) ∧
    exec (.clearFlags [mask]) s = .next (replied .clearFlags .accept
      { s with su := { s.su with flags := s.su.flags &&& ~~~mask.setWidth 12 } }) ∧
    (127 < first.toNat ∨ 128 < number.toNat ∨ 128 < first.toNat + number.toNat →
      exec (.clearCounters [first, number]) s = .next (replied .clearCounters (.refused .range) s)) ∧
    (first.toNat ≤ 127 → number.toNat ≤ 128 → first.toNat + number.toNat ≤ 128 →
      ∃ t, exec (.clearCounters [first, number]) s = .next t ∧ { t with rc := s.rc } = replied .clearCounters .accept s ∧
        t.rc.countPoint = s.rc.countPoint ∧
        ∀ k, k < 128 → t.rc.sets[k]? =
          if first.toNat ≤ k ∧ k < first.toNat + number.toNat then some ⟨0, 0⟩ else s.rc.sets[k]?)

/-- LOAD GRID (R54 to R57): refused with BUSY while the tracker plays, with GRID when a high word or the grid breaks a
condition, and otherwise the grid is replaced whole. -/
def Obligations.LoadGridCommand : Prop :=
  ∀ (i : StringNo) (base : Payload) (pairs : List (Payload × Payload)) (s : State), executesAtOnce s → pairs.length ≤ 63 →
    let b := s.string i
    let g : Grid := ⟨base.toNat, pairs.map fun q => q.1.toNat * 2 ^ 15 + q.2.toNat⟩
    let sent := exec (.loadGrid (stringWord i :: base :: pairs.flatMap fun q => [q.1, q.2])) s
    let plays := b.tracker.state = .attack ∨ b.tracker.state = .sounding ∨ b.tracker.state = .releasing
    let good := (∀ q ∈ pairs, q.1.toNat < 16) ∧ LoadedGrid g
    (plays → sent = .next (replied .loadGrid (.refused .busy) s)) ∧
    (¬plays → ¬good → sent = .next (replied .loadGrid (.refused .grid) s)) ∧
    (¬plays → good → sent = .next (replied .loadGrid .accept (withBlock i { b with grid := some g } s)))

/-- LOAD PROFILE (R31, R33, R34, R158, R191): refused with BUSY while the tracker plays; otherwise every field is clamped and
replaced, the input stage and the validator cleared, and a measurement of the string aborted, its RESULT after the reply. -/
def Obligations.LoadProfileCommand : Prop :=
  ∀ (i : StringNo) (l d h on off re ag gl ln ec gu rt dc ar ex db tap mon : Payload) (s : State), executesAtOnce s →
    let b := s.string i
    let r := b.record
    let sent := exec (.loadProfile
      [stringWord i, l, d, h, on, off, re, ag, gl, ln, ec, gu, rt, dc, ar, ex, db, tap, mon]) s
    let plays := b.tracker.state = .attack ∨ b.tracker.state = .sounding ∨ b.tracker.state = .releasing
    let p : Profile :=
      { lowPass := min 4 l.toNat, decay := max 4 (min 12 d.toNat), halfBand := max 1 (min 8191 h.toNat)
        thOn := on.toNat + 1, thOff := min on.toNat off.toNat, restrikeRise := re.toNat
        agreement := max 3 (min 8 ag.toNat), glide := min 3 gl.toNat, lossN := max 2 (min 15 ln.toNat)
        earlyCommit := min 1023 ec.toNat, giveUp := max 1 (min 1023 gu.toNat), releaseTime := min 1023 rt.toNat
        delayCode := min 3 dc.toNat, rateMantissa := min 7 ar.toNat, rateExponent := min 3 ex.toNat
        deadband := min 63 db.toNat
        tap := if tap.toNat = 0 then .raw else if tap.toNat = 1 then .corrected else if tap.toNat = 2 then .filtered else .zero
        monitorStream := decide (1 ≤ mon.toNat) }
    let clamped := 4 < l.toNat ∨ d.toNat < 4 ∨ 12 < d.toNat ∨ h.toNat < 1 ∨ 8191 < h.toNat ∨ on.toNat < off.toNat ∨
      ag.toNat < 3 ∨ 8 < ag.toNat ∨ 3 < gl.toNat ∨ ln.toNat < 2 ∨ 15 < ln.toNat ∨ 1023 < ec.toNat ∨ gu.toNat < 1 ∨
      1023 < gu.toNat ∨ 1023 < rt.toNat ∨ 3 < dc.toNat ∨ 7 < ar.toNat ∨ 3 < ex.toNat ∨ 63 < db.toNat ∨ 3 < tap.toNat ∨
      1 < mon.toNat
    let loaded := { b with
      profile := p, stage := ⟨0, 0, .opened, b.stage.trough, .disarmed, none, none⟩, validator := ⟨none, none, 0, []⟩ }
    let aborted := { r with pending := some .aborted }
    (plays → sent = .next (replied .loadProfile (.refused .busy) s)) ∧
    (¬plays → r.state = .idle → sent = .next (replied .loadProfile (acceptUnless clamped) (withBlock i loaded s))) ∧
    (¬plays → r.state ≠ .idle → s.rq.length < 7 → sent = .next { s with
      strings := s.strings.set i { loaded with record := { r with state := .idle, pending := none } }
      rq := s.rq ++ [⟨0x02, acceptUnless clamped⟩, ⟨0x14, .result (resultWords i aborted)⟩]
      su := { s.su with flags := flagsAfter 10 s.su } }) ∧
    (¬plays → r.state ≠ .idle → s.rq.length = 7 → sent = .next (replied .loadProfile (acceptUnless clamped)
      (withBlock i { loaded with record := { aborted with state := .waiting } } s)))

/-- LOAD ACTION (R111, R112) and LOAD CROSSTALK (R22): every field is clamped and the entry, or the two coefficients, are
replaced, in every tracker state. -/
def Obligations.LoadActionAndCrosstalkCommands : Prop :=
  ∀ (i : StringNo) (style ns nf vs vf ls lf span route legato bank mb amb cb acb po lo io hi low : Payload) (s : State),
    executesAtOnce s →
    let b := s.string i
    let selector := fun (w fixed : Payload) (top : Nat) =>
      (⟨match w.toNat / 16 % 4 with | 0 => .source | 1 => .fixed | 2 => .mapFirst | _ => .mapChain,
        Fin.ofNat 4 (w.toNat / 4 % 4), Fin.ofNat 4 (w.toNat % 4), min top fixed.toNat⟩ : Selector)
    let a : Action :=
      { style := match style.toNat with | 0 => .full | 1 => .gate | _ => .trigger
        noteSel := selector ns nf 127, velocitySel := selector vs vf 127, laneSel := selector ls lf 15
        bendSpan := max 1 (min 24 span.toNat)
        route := match route.toNat with | 0 => .pass | 1 => .copy | 2 => .divert | _ => .drop
        legato := match legato.toNat with | 0 => .glide | _ => .split
        bankSelect := match bank.toNat with | 0 => .none | 1 => .altOnB | _ => .altOnA
        mapBase := min 255 mb.toNat, altMapBase := min 255 amb.toNat
        countBase := min 127 cb.toNat, altCountBase := min 127 acb.toNat
        pickedOffset := min 7 po.toNat, legatoOffset := min 7 lo.toNat, injectedOffset := min 7 io.toNat }
    let clamped := 2 < style.toNat ∨ 127 < nf.toNat ∨ 127 < vf.toNat ∨ 15 < lf.toNat ∨ span.toNat = 0 ∨ 24 < span.toNat ∨
      3 < route.toNat ∨ 1 < legato.toNat ∨ 2 < bank.toNat ∨ 255 < mb.toNat ∨ 255 < amb.toNat ∨ 127 < cb.toNat ∨
      127 < acb.toNat ∨ 7 < po.toNat ∨ 7 < lo.toNat ∨ 7 < io.toNat
    let coefficient := fun w : Payload => max (-128) (min 127 w.toInt)
    exec (.loadAction [stringWord i, style, ns, nf, vs, vf, ls, lf, span, route, legato, bank, mb, amb, cb, acb, po, lo, io]) s
      = .next (replied .loadAction (acceptUnless clamped) (withBlock i { b with action := a } s)) ∧
    exec (.loadCrosstalk [stringWord i, hi, low]) s = .next (replied .loadCrosstalk
      (acceptUnless (hi.toInt < -128 ∨ 127 < hi.toInt ∨ low.toInt < -128 ∨ 127 < low.toInt))
      (withBlock i { b with crosstalk := ⟨coefficient hi, coefficient low⟩ } s))

/-- LOAD MAP and CLEAR MAP (R118, R119): a run of entries written in one step, its limits refused with RANGE; a table emptied
and keyed. -/
def Obligations.MapCommands : Prop :=
  ∀ (n : Fin 4) (start mode : Payload) (words : List Payload) (s : State), executesAtOnce s → words.length ≤ 126 →
    let table : Payload := BitVec.ofNat 15 n.val
    let entry := fun w : Payload => if w.getLsbD 14 then none else some (BitVec.ofNat 7 (min 127 w.toNat))
    let clamped := ∃ w ∈ words, w.getLsbD 14 = false ∧ 127 < w.toNat
    let runs := start.toNat ≤ 255 ∧ start.toNat + words.length ≤ 256
    let sent := exec (.loadMap (table :: start :: words)) s
    (¬runs → sent = .next (replied .loadMap (.refused .range) s)) ∧
    (runs → ∃ t, sent = .next t ∧
      ((clamped → { t with tables := s.tables } = replied .loadMap .adjusted s) ∧
        (¬clamped → { t with tables := s.tables } = replied .loadMap .accept s)) ∧
      (∀ k : Fin 4, k ≠ n → t.tables[k] = s.tables[k]) ∧ t.tables[n].keyMode = s.tables[n].keyMode ∧
      (∀ k, k < 256 → (k < start.toNat ∨ start.toNat + words.length ≤ k) →
        t.tables[n].entries[k]? = s.tables[n].entries[k]?) ∧
      ∀ k (h : k < words.length), t.tables[n].entries[start.toNat + k]? = some (entry words[k])) ∧
    exec (.clearMap [table, mode]) s = .next (replied .clearMap (acceptUnless (2 < mode.toNat)) { s with
      tables := s.tables.set n
        ⟨match mode.toNat with | 0 => .note | 1 => .grade | _ => .position, Vector.replicate 256 none⟩ })

/-- STRING ON, STRING OFF and ALL NOTES END (R85, R86, R89, R105, R106, R148): where each named tracker goes, what ends with it,
and the NOTE END that each announced FULL or GATE note sends. The queues, R, the counter sets and the status unit are those of
the named strings' notes ended one after another in string order, each as EndOfANote states. That the attack peak is 0 outside ATTACK is the model's choice (log
entry 14). -/
def Obligations.StringCommands : Prop :=
  ∀ (mask : Payload) (s : State), executesAtOnce s →
    let named := fun i : StringNo => mask.getLsbD (i.number - 1) = true
    let effect := fun (c : Command) (t : State) =>
      { t with strings := s.strings, eq := s.eq, mq := s.mq, rc := s.rc, su := s.su } = replied c .accept s ∧
        StatusKept [7] [5] s.su t.su
    let ended := fun (cause : EndCause) (strings : List StringNo) => strings.foldl (fun u i => endNote i cause u) s
    ((∃ i, named i ∧ (s.string i).grid = none) →
      exec (.stringOn [mask]) s = .next (replied .stringOn (.refused .noGrid) s)) ∧
    ((∀ i, named i → (s.string i).grid ≠ none) → exec (.stringOn [mask]) s = .next (replied .stringOn .accept (onNamed mask
      (fun b => if b.tracker.state = .muted then { b with tracker := { b.tracker with state := .silent } } else b) s))) ∧
    (ContextLaw s → NoteLaw s →
      (∃ t, exec (.stringOff [mask]) s = .next t ∧ effect .stringOff t ∧
        (∀ i, named i → t.string i = endedBlock .muted (s.string i) ∧ (t.string i).tracker.state = .muted) ∧
        (∀ i, ¬named i → t.string i = s.string i) ∧
        SentAs (ended .off (allStrings.filter fun i => mask.getLsbD (i.number - 1))) t ∧
        ∀ i, named i → reservationHeld (s.string i) = true → ∃ m ∈ t.eq.entries, m.string = i ∧ m.body = .noteEnd .off) ∧
      ∃ t, exec (.allNotesEnd []) s = .next t ∧ effect .allNotesEnd t ∧
        (∀ i, t.string i = endedBlock .silent (s.string i)) ∧ SentAs (ended .panic allStrings) t ∧
        ∀ i, reservationHeld (s.string i) = true → ∃ m ∈ t.eq.entries, m.string = i ∧ m.body = .noteEnd .panic)

/-- MEASURE and MEASURE CANCEL (R185, R190). -/
def Obligations.MeasureCommands : Prop :=
  ∀ (i : StringNo) (n ticks : Payload) (s : State), executesAtOnce s →
    let b := s.string i
    let r := b.record
    (r.state ≠ .idle → exec (.measure [stringWord i, n, ticks]) s = .next (replied .measure (.refused .busy) s)) ∧
    (r.state = .idle → exec (.measure [stringWord i, n, ticks]) s = .next (replied .measure
      (acceptUnless (n.toNat < 4 ∨ 64 < n.toNat ∨ ticks.toNat = 0))
      (withBlock i { b with
        record := ⟨.running, max 4 (min 64 n.toNat), max 1 ticks.toNat, 0, 0, none, none, 0, none⟩ } s))) ∧
    (r.state = .idle → exec (.measureCancel [stringWord i]) s = .next (replied .measureCancel (.refused .idle) s)) ∧
    (r.state ≠ .idle → exec (.measureCancel [stringWord i]) s = .next (replied .measureCancel .accept
      (withBlock i { b with record := { r with state := .idle, pending := none } } s)))

/-- INJECT (R128, R132, R137, R138): the message built at each point, the crossing it makes, its counter index, and the reply
that follows the crossing. Its monitor copy is placed at MAP and ROUTE under COPY and DIVERT (R134), and where it is offered, the
event queue, the flags and the status counters are those of its admission, which reserves nothing (R136, R147 to R149). -/
def Obligations.InjectCommand : Prop :=
  ∀ (i : StringNo) (point kind verdict note bend grade velocity lane : Payload) (s : State), executesAtOnce s →
    point.toNat ≤ 2 → kind.toNat ≤ 3 →
    let b := s.string i
    let a := b.action
    let bankB := s.plu.side.getLsbD 15
    let alternate := (a.bankSelect = .altOnB ∧ bankB = true) ∨ (a.bankSelect = .altOnA ∧ bankB = false)
    let mapBase := if alternate then a.altMapBase else a.mapBase
    let countBase := if alternate then a.altCountBase else a.countBase
    let index := if countBase = 0 ∨ 128 ≤ countBase + a.injectedOffset then none else some (countBase + a.injectedOffset)
    let noted := kind.toNat ≤ 1
    let stroked := kind.toNat = 0 ∨ kind.toNat = 2
    let v : Verdict := match verdict.toNat with | 0 => .pass | 1 => .copy | 2 => .divert | _ => .drop
    let n := min 127 note.toNat
    let grade' := min 59 grade.toNat
    let velocity' := max 1 (min 127 velocity.toNat)
    let lane' := min 15 lane.toNat
    let span : Int := 64 * a.bendSpan
    let bend' := max (-span) (min span bend.toInt)
    let inGrid := fun g : Grid => g.base ≤ n ∧ n < g.base + g.entries.length
    let position := b.grid.bind fun g => if inGrid g then some ((i.number - 1) * 40 + (n - g.base)) else none
    let keys : MapKeys := ⟨if noted then some n else none, if stroked then some grade' else none, if noted then position else none⟩
    let body := fun (n velocity : Nat) => match kind.toNat with
      | 0 => MessageBody.noteStart .injected n velocity false bend'
      | 1 => .pitch .glide n bend'
      | 2 => .restrike velocity
      | _ => .noteEnd .injected
    let mapped : Message := ⟨i, a.laneSel.resolve s.tables mapBase keys i.number % 16, false, true,
      body (a.noteSel.resolve s.tables mapBase keys n) (max 1 (a.velocitySel.resolve s.tables mapBase keys (2 * grade' + 8)))⟩
    let plain : Message := ⟨i, lane', false, true, body n velocity'⟩
    let x := match point.toNat with
      | 0 => crossRoute v a.route false false index mapped s
      | 1 => crossRoute v a.route false false index plain s
      | _ => crossAdmit v index plain s
    let clamped := 4 ≤ verdict.toNat ∨ (noted ∧ 127 < note.toNat) ∨ (stroked ∧ point.toNat = 0 ∧ 59 < grade.toNat) ∨
      (stroked ∧ point.toNat ≠ 0 ∧ (velocity.toNat = 0 ∨ 127 < velocity.toNat)) ∨ (point.toNat ≠ 0 ∧ 15 < lane.toNat)
    let sent := exec (.inject [point, kind, stringWord i, verdict, note, bend, grade, velocity, lane]) s
    let message := if point.toNat = 0 then mapped else plain
    let held := if point.toNat ≤ 1 then v.higher a.route else v
    let copied := if point.toNat ≤ 1 ∧ (held = .copy ∨ held = .divert) then s.placeMonitor { message with monitor := true } else s
    let admission := admitMessage false message copied
    (x.offered = true ↔ held = .pass ∨ held = .copy) ∧ x.state.mq = copied.mq ∧
    (x.offered = true →
      x.admitted = admission.admitted ∧ x.state.eq = admission.state.eq ∧ x.state.su = admission.state.su) ∧
    (x.offered = false → x.admitted = false ∧ x.state.eq = s.eq ∧ x.state.su = copied.su) ∧
    (x.offered = true → x.admitted = false → sent = .next (replied .inject (.refused .full)
      { x.state with su := { x.state.su with flags := flagsAfter 11 x.state.su } })) ∧
    (x.offered = false ∨ x.admitted = true → sent = .next (replied .inject (acceptUnless clamped) x.state)) ∧
    { x.state with eq := s.eq, mq := s.mq, rc := s.rc, su := s.su } = s ∧ x.state.eq.reserved = s.eq.reserved ∧
    StatusKept [6, 7] [4, 5] s.su x.state.su

/-- READ STATUS (R178, R179) and READ STRING (R50, R108, R178), word by word. -/
def Obligations.ReadStatusAndStringCommands : Prop :=
  (∀ s : State, executesAtOnce s → s.divider.tickBase ≤ 255 → s.divider.count ≤ 255 → s.eq.entries.length ≤ 64 →
    s.eq.reserved ≤ 6 → s.mq.length ≤ 16 →
    let word := fun n : Nat => (BitVec.ofNat 15 n : Payload)
    let bit := fun b : Bool => if b then 1 else 0
    let link := match s.plu.link with | .searching => 0 | .up => 1 | .holding => 2
    let source := match s.lane.lastServed with | .rq => 0 | .eq => 1 | .mq => 2
    let tracker := fun i => match (s.string i).tracker.state with
      | .muted => 0 | .silent => 1 | .attack => 2 | .sounding => 3 | .releasing => 4
    let loaded := fun i => bit (s.string i).grid.isSome
    let record := fun i => match (s.string i).record.state with | .idle => 0 | .running => 1 | .waiting => 2
    exec (.readStatus []) s = .next (replied .readStatus (.data
      [ s.su.flags.setWidth 15, s.su.mask.setWidth 15
      , word (2 ^ 13 * link + 2 ^ 12 * (if s.rc.countPoint = .atAdmit then 1 else 0) +
          2 ^ 11 * (if s.numbering = .position then 1 else 0) + 2 ^ 10 * bit s.slu.hold + s.divider.tickBase)
      , word s.divider.count
      , word (2 ^ 8 * s.eq.entries.length + 2 ^ 4 * s.eq.reserved)
      , word (2 ^ 10 * s.mq.length + 2 ^ 6 * s.rq.length + source)
      , word (2 ^ 12 * tracker .s1 + 2 ^ 9 * tracker .s2 + 2 ^ 6 * tracker .s3 + 2 ^ 3 * tracker .s4 + tracker .s5)
      , word (2 ^ 12 * tracker .s6 + 2 ^ 5 * loaded .s6 + 2 ^ 4 * loaded .s5 + 2 ^ 3 * loaded .s4 + 2 ^ 2 * loaded .s3 +
          2 * loaded .s2 + loaded .s1)
      , word (2 ^ 10 * record .s6 + 2 ^ 8 * record .s5 + 2 ^ 6 * record .s4 + 2 ^ 4 * record .s3 + 2 ^ 2 * record .s2 +
          record .s1)
      , word (s.plu.frameNo.toNat / 2 ^ 15), word (s.plu.frameNo.toNat % 2 ^ 15) ]) s)) ∧
  ∀ (i : StringNo) (s : State), executesAtOnce s →
    let b := s.string i
    let t := b.tracker
    let v := b.validator
    let word := fun n : Nat => (BitVec.ofNat 15 n : Payload)
    let bit := fun p : Bool => if p then 1 else 0
    let state := match t.state with | .muted => 0 | .silent => 1 | .attack => 2 | .sounding => 3 | .releasing => 4
    let style := fun x : Style => match x with | .full => 0 | .gate => 1 | .trigger => 2
    let cause := fun x : StartCause => match x with | .picked => 0 | .legato => 1 | .recovery => 2 | .injected => 3
    let route := fun x : Verdict => match x with | .pass => 0 | .copy => 1 | .divert => 2 | .drop => 3
    let trough := b.stage.trough.getD 0
    let timer := fun (running : Bool) (value : Nat) => word (2 ^ 14 * bit running + value)
    let timerWords := [timer b.timers.attack.running (b.timers.attack.value % 2 ^ 10),
      timer b.timers.release.running (b.timers.release.value % 2 ^ 10),
      timer b.timers.update.running (b.timers.update.value % 2 ^ 7)]
    let outcome := fun o => match o with
      | LockOutcome.unlocked => 0 | .lock => 1 | .glide => 2 | .merge => 3 | .jump => 4 | .miss => 5 | .lost => 6
    let period := fun p : Nat => [word (p / 2 ^ 15 % 2 ^ 4), word (p % 2 ^ 15)]
    let ring := fun k => match v.ring[k]? with
      | none => [word (2 ^ 12 * 7), word 0]
      | some r => [word (2 ^ 12 * outcome r.outcome + r.period / 2 ^ 15 % 2 ^ 4), word (r.period % 2 ^ 15)]
    let validatorSection :=
      word (2 ^ 14 * bit v.accepted.isSome + 2 ^ 13 * bit v.candidate.isSome + 2 ^ 9 * (v.misses % 16) + v.ring.length % 16) ::
        (period (v.accepted.getD 0) ++ period (v.candidate.getD 0) ++ ring 0 ++ ring 1 ++ ring 2 ++ ring 3 ++ ring 4 ++
          ring 5 ++ ring 6 ++ ring 7)
    let answers := fun words : List Payload => exec (.readString [stringWord i]) s =
      .next (replied .readString (.data (words ++ timerWords ++ validatorSection)) s)
    (t.context = none →
      let peak := if t.state = .attack then t.attackPeak else 0
      answers [word (2 ^ 12 * state), 0, 0, word (2 ^ 14 * (trough / 2 ^ 15 % 2) + 2 ^ 13 * (peak / 2 ^ 15 % 2)), 0, 0,
        word (trough % 2 ^ 15), word (peak % 2 ^ 15)]) ∧
    ∀ c, t.context = some c → answers
      [ word (2 ^ 12 * state + 2 ^ 11 + 2 ^ 9 * style c.latched.style + 2 ^ 8 * bit c.early + 2 ^ 7 * bit c.announced +
          2 ^ 6 * bit c.monitored + 2 ^ 4 * cause c.cause + 2 ^ 3 * bit c.bankB +
          2 ^ 2 * (match c.latched.legato with | .glide => 0 | .split => 1) +
          2 * (match c.form with | .note => 0 | .position => 1) + bit c.pvQueued.isSome)
      , word (2 ^ 7 * (c.note % 2 ^ 7) + c.grade % 2 ^ 6)
      , word (2 ^ 13 * route c.latched.route + c.pvComputed % 2 ^ 13)
      , word (2 ^ 14 * (trough / 2 ^ 15 % 2) + 2 ^ 13 * (c.peak / 2 ^ 15 % 2) + c.pvQueued.getD 0 % 2 ^ 13)
      , word (2 ^ 10 * (c.latched.bendSpan % 2 ^ 5) + 2 ^ 6 * (c.latched.lane.getD 0 % 2 ^ 4) +
          2 ^ 5 * bit c.latched.counterIndex.isSome)
      , word (2 ^ 8 * (c.latched.counterIndex.getD 0 % 2 ^ 7) + c.latched.mapBase % 2 ^ 8)
      , word (trough % 2 ^ 15), word (c.peak % 2 ^ 15) ]

/-- READ GRID and READ MAP (R66, R67, R120, R178): the RANGE limits, the summary word, and the words of a run. -/
def Obligations.ReadGridAndMapCommands : Prop :=
  ∀ (start count : Payload) (s : State), executesAtOnce s →
    let word := fun n : Nat => (BitVec.ofNat 15 n : Payload)
    (∀ i : StringNo,
      let sent := exec (.readGrid [stringWord i, start, count]) s
      let grid := (s.string i).grid
      let data := fun ws => sent = .next (replied .readGrid (.data ws) s)
      let refused := sent = .next (replied .readGrid (.refused .range) s)
      (39 < start.toNat ∨ 16 < count.toNat → refused) ∧
      (start.toNat ≤ 39 → count.toNat = 0 → grid = none → data [0]) ∧
      (∀ g, start.toNat ≤ 39 → count.toNat = 0 → grid = some g → LoadedGrid g →
        data [word (2 ^ 14 + 2 ^ 7 * g.base + g.entries.length)]) ∧
      (0 < count.toNat → grid = none → refused) ∧
      (∀ g, 0 < count.toNat → grid = some g → g.entries.length < start.toNat + count.toNat → refused) ∧
      ∀ g, start.toNat ≤ 39 → 0 < count.toNat → count.toNat ≤ 16 → grid = some g →
        start.toNat + count.toNat ≤ g.entries.length → LoadedGrid g →
        data ((List.range' start.toNat count.toNat).flatMap fun k =>
          [word (2 ^ 8 * k + g.entries.getD k 0 / 2 ^ 15), word (g.entries.getD k 0 % 2 ^ 15)])) ∧
    ∀ n : Fin 4,
      let sent := exec (.readMap [word n.val, start, count]) s
      let m := s.tables[n]
      let data := fun ws => sent = .next (replied .readMap (.data ws) s)
      let refused := sent = .next (replied .readMap (.refused .range) s)
      let mode := match m.keyMode with | .note => 0 | .grade => 1 | .position => 2
      (255 < start.toNat ∨ 32 < count.toNat ∨ (1 ≤ count.toNat ∧ 256 < start.toNat + count.toNat) → refused) ∧
      (start.toNat ≤ 255 → count.toNat = 0 →
        data [word (2 ^ 6 * (m.entries.toList.filter (·.isSome)).length + mode)]) ∧
      (1 ≤ count.toNat → count.toNat ≤ 32 → start.toNat + count.toNat ≤ 256 →
        data ((List.range' start.toNat count.toNat).map fun k =>
          match m.entries[k]?.getD none with | none => word (2 ^ 14) | some value => value.setWidth 15))

/-- READ ACTION, READ PROFILE, READ COUNTERS and READ STATUS COUNTERS (R129, R143, R178, R180, R181), word by word, with their
RANGE limits. -/
def Obligations.ReadSettingsAndCountersCommands : Prop :=
  ∀ (i : StringNo) (first number form : Payload) (s : State), executesAtOnce s →
    let b := s.string i
    let a := b.action
    let p := b.profile
    let word := fun n : Nat => (BitVec.ofNat 15 n : Payload)
    let selector := fun x : Selector => ([word (16 * (match x.mode with | .source => 0 | .fixed => 1 | .mapFirst => 2 | .mapChain => 3) + 4 * x.t1.val + x.t2.val),
        word x.fixed] : List Payload)
    let counters := exec (.readCounters [first, number, form]) s
    let counts := fun k : Nat => (s.rc.sets[k]?.getD ⟨0, 0⟩ : CounterSet)
    let fits := first.toNat ≤ 127 ∧ 1 ≤ number.toNat ∧ number.toNat ≤ 8 ∧ first.toNat + number.toNat ≤ 128 ∧ form.toNat ≤ 1
    let status := exec (.readStatusCounters [first, number]) s
    let fitsStatus := first.toNat ≤ 23 ∧ 1 ≤ number.toNat ∧ number.toNat ≤ 16 ∧ first.toNat + number.toNat ≤ 24
    exec (.readAction [stringWord i]) s = .next (replied .readAction (.data
      ([word (match a.style with | .full => 0 | .gate => 1 | .trigger => 2)] ++ selector a.noteSel ++ selector a.velocitySel ++
        selector a.laneSel ++
        [word a.bendSpan, word (match a.route with | .pass => 0 | .copy => 1 | .divert => 2 | .drop => 3)
        , word (match a.legato with | .glide => 0 | .split => 1)
        , word (match a.bankSelect with | .none => 0 | .altOnB => 1 | .altOnA => 2)
        , word a.mapBase, word a.altMapBase, word a.countBase, word a.altCountBase
        , word a.pickedOffset, word a.legatoOffset, word a.injectedOffset])) s) ∧
    exec (.readProfile [stringWord i]) s = .next (replied .readProfile (.data
      [ word p.lowPass, word p.decay, word p.halfBand, word (p.thOn - 1), word p.thOff, word p.restrikeRise, word p.agreement
      , word p.glide, word p.lossN, word p.earlyCommit, word p.giveUp, word p.releaseTime, word p.delayCode
      , word p.rateMantissa, word p.rateExponent, word p.deadband
      , word (match p.tap with | .raw => 0 | .corrected => 1 | .filtered => 2 | .zero => 3)
      , word (if p.monitorStream then 1 else 0), BitVec.ofInt 15 b.crosstalk.kHi, BitVec.ofInt 15 b.crosstalk.kLo ]) s) ∧
    (¬fits → counters = .next (replied .readCounters (.refused .range) s)) ∧
    (fits → form.toNat = 0 → counters = .next (replied .readCounters (.data
      ((List.range' first.toNat number.toNat).flatMap fun k =>
        [ word ((counts k).notes.toNat / 2 ^ 15 % 2 ^ 15), word ((counts k).notes.toNat % 2 ^ 15)
        , word ((counts k).messages.toNat / 2 ^ 15 % 2 ^ 15), word ((counts k).messages.toNat % 2 ^ 15) ])) s)) ∧
    (fits → form.toNat = 1 → counters = .next (replied .readCounters (.data
      ((List.range' first.toNat number.toNat).map fun k =>
        word (4 * ((counts k).notes.toNat / 2 ^ 30) + (counts k).messages.toNat / 2 ^ 30))) s)) ∧
    (¬fitsStatus → status = .next (replied .readStatusCounters (.refused .range) s)) ∧
    (fitsStatus → status = .next (replied .readStatusCounters (.data
      ((List.range' first.toNat number.toNat).flatMap fun k =>
        let c := (s.su.counters[k]?.getD 0).toNat
        [word (c / 2 ^ 15), word (c % 2 ^ 15)])) s))

/-- RESTORE DEFAULTS (R35, R158, R182, R188, R191): BUSY while a note is open; otherwise the settings return to their power-on
values, and after the ACCEPT each measurement that was RUNNING or WAITING places its RESULT of outcome ABORTED in string order,
as far as reply slots last, the rest WAITING; a RESULT placed sets MEASURE_DONE. RESTART (R9, R162, R170, R183); that the attack
peak is then 0 is the model's choice (log entry 14), and so is that the MEASURE_DONE of the RESULTs placed within RESTORE DEFAULTS
meets the restored flag mask (log entry 19). -/
def Obligations.RestoreDefaultsAndRestart : Prop :=
  ∀ s : State, executesAtOnce s →
    let cleared : InputStage := ⟨0, 0, .opened, none, .disarmed, none, none⟩
    ((∃ i, (s.string i).tracker.context ≠ none) →
      exec (.restoreDefaults []) s = .next (replied .restoreDefaults (.refused .busy) s)) ∧
    ((∀ i, (s.string i).tracker.context = none) →
      let active := allStrings.filter fun i => decide ((s.string i).record.state ≠ .idle)
      let placed := active.take (7 - s.rq.length)
      let result := fun i => (⟨0x14, .result (resultWords i { (s.string i).record with pending := some .aborted })⟩ : Reply)
      ∃ t, exec (.restoreDefaults []) s = .next t ∧ t.rq = s.rq ++ ⟨0x32, .accept⟩ :: placed.map result ∧
        { t with strings := s.strings, rq := s.rq } = { s with
          divider := { s.divider with tickBase := 11 }, numbering := .note, rc := { s.rc with countPoint := .route }
          su := { s.su with
            mask := State.reset.su.mask, flags := if placed = [] then s.su.flags else s.su.flags ||| BitVec.ofNat 12 (2 ^ 10) } } ∧
        ∀ i,
          let b := s.string i
          { t.string i with record := b.record } = { b with
            profile := (State.reset.string i).profile, crosstalk := (State.reset.string i).crosstalk
            action := (State.reset.string i).action, stage := { cleared with trough := b.stage.trough }
            validator := ⟨none, none, 0, []⟩ } ∧
          (b.record.state = .idle → (t.string i).record = b.record) ∧
          (i ∈ placed → (t.string i).record = { b.record with state := .idle, pending := none }) ∧
          (i ∈ active → i ∉ placed → (t.string i).record = { b.record with state := .waiting, pending := some .aborted })) ∧
    ∃ t, exec (.restart []) s = .next t ∧
      { t with strings := s.strings } = { s with
        divider := { s.divider with count := s.divider.tickBase }, eq := ⟨[], 0⟩, mq := [], rq := [⟨0x33, .accept⟩]
        lane := ⟨none, .mq⟩, cu := .ready } ∧
      ∀ i,
        let b := s.string i
        { t.string i with ticked := b.ticked } = { b with
          stage := cleared, validator := ⟨none, none, 0, []⟩
          timers := ⟨{ b.timers.attack with running := false }, { b.timers.release with running := false },
            { b.timers.update with running := false }⟩
          tracker := ⟨if b.tracker.state = .muted then .muted else .silent, none, 0⟩
          record := if b.record.state = .idle then b.record else { b.record with state := .idle, pending := none } }

/-- The refusals that no chapter but the Commands' owns (R171 to R175): UNKNOWN for every code outside the list, LENGTH exactly
for the counts the list does not allow, and RANGE for a string outside 1..6, a table above 3, or a point or kind INJECT does
not have. A refused command changes nothing but the reply queue. -/
def Obligations.RefusedCommands : Prop :=
  ∀ (params : List Payload) (s : State), executesAtOnce s → params.length ≤ 255 →
    (∀ code : BitVec 7, unlistedCode code.toNat →
      exec (.unknownCommand code params) s = .next { s with rq := s.rq ++ [⟨code, .refused .unknown⟩] }) ∧
    (∀ c : Command, ¬listedCount params.length c → exec (row c params) s = .next (replied c (.refused .length) s)) ∧
    (∀ c : Command, listedCount params.length c →
      ∃ t, exec (row c params) s = .next t ∧ (⟨c.code, .refused .length⟩ : Reply) ∉ t.rq.drop s.rq.length) ∧
    (∀ (c : Command) (w : Payload) (rest : List Payload), params = w :: rest → listedCount params.length c →
      w.toNat = 0 ∨ 6 < w.toNat →
      c ∈ [.loadGrid, .loadProfile, .loadAction, .loadCrosstalk, .measure, .measureCancel, .readString, .readGrid, .readAction,
        .readProfile] → exec (row c params) s = .next (replied c (.refused .range) s)) ∧
    (∀ (c : Command) (w : Payload) (rest : List Payload), params = w :: rest → listedCount params.length c → 3 < w.toNat →
      c ∈ [.loadMap, .clearMap, .readMap] → exec (row c params) s = .next (replied c (.refused .range) s)) ∧
    ∀ (point kind string : Payload) (rest : List Payload), params = point :: kind :: string :: rest → params.length = 9 →
      2 < point.toNat ∨ 3 < kind.toNat ∨ string.toNat = 0 ∨ 6 < string.toNat →
      exec (.inject params) s = .next (replied .inject (.refused .range) s)

/-- A command's row is its words, header first (R163, R164; that no other event comes between them is the model's choice, log
entry 1), and what becomes of them when the command is not executed at once (R165 to R168): held for want of a reply slot, all
overrun while a command is held, abandoning a command in collection, and none of it while the synth link is SEARCHING. -/
def Obligations.CommandsNotExecutedAtOnce : Prop :=
  ∀ (c : Command) (params : List Payload) (s : State), params.length ≤ 255 →
    let header : Word := BitVec.ofNat 16 (2 ^ 15 + 2 ^ 8 * c.code.toNat + params.length)
    let noted := fun flag counter times =>
      { s.su with flags := flagsAfter flag s.su, counters := countersAfter counter times s.su }
    (s.slu.link = .up → exec (row c params) s =
      .next ((header :: params.map (·.setWidth 16)).foldl (fun t w => takeWord w t) s)) ∧
    (s.slu.link = .up → s.cu = .ready → 8 ≤ s.rq.length → exec (row c params) s = .next { s with
      cu := .held ⟨c.code, params.length, params.length, params.take 128, decide (128 < params.length)⟩ }) ∧
    (∀ b, s.slu.link = .up → s.cu = .held b → exec (row c params) s = .next { s with su := noted 4 2 (params.length + 1) }) ∧
    (∀ b, s.slu.link = .up → s.cu = .collecting b →
      exec (row c params) s = exec (row c params) { s with cu := .ready, su := noted 3 1 1 }) ∧
    (s.slu.link = .searching → exec (row c params) s = .next s)
end

