-- ==== Sys2Proof/Laws/State.lean ====
section
/-!
SUPPORT. What each update of the state leaves in each field: the small lemmas every later proof simplifies with, so that no
proof unfolds a record update.
-/

namespace Sys2Proof

/-! ## One value per string -/

@[simp] theorem PerString.get_set_self {α : Type} (p : PerString α) (i : StringNo) (a : α) : (p.set i a).get i = a := by
  cases i <;> rfl

@[simp] theorem PerString.get_set_other {α : Type} (p : PerString α) {i j : StringNo} (a : α) (h : j ≠ i) :
    (p.set i a).get j = p.get j := by
  cases i <;> cases j <;> first | rfl | exact absurd rfl h

@[simp] theorem PerString.get_map {α β : Type} (f : α → β) (p : PerString α) (i : StringNo) : (p.map f).get i = f (p.get i) := by
  cases i <;> rfl

@[simp] theorem PerString.get_const {α : Type} (a : α) (i : StringNo) : (PerString.const a).get i = a := by
  cases i <;> rfl

@[simp] theorem PerString.set_get_self {α : Type} (p : PerString α) (i : StringNo) : p.set i (p.get i) = p := by
  cases i <;> rfl

/-- Two records that agree on every string are equal. -/
theorem PerString.eq_of_get {α : Type} {p q : PerString α} (h : ∀ i, p.get i = q.get i) : p = q := by
  cases p; cases q
  have h1 := h .s1; have h2 := h .s2; have h3 := h .s3; have h4 := h .s4; have h5 := h .s5; have h6 := h .s6
  simp only [PerString.get] at h1 h2 h3 h4 h5 h6
  subst h1 h2 h3 h4 h5 h6
  rfl

/-- Every string stands in the list of the six. -/
@[simp] theorem mem_allStrings (i : StringNo) : i ∈ allStrings := by
  cases i <;> simp [allStrings]

end Sys2Proof

namespace Sys2Proof.Machine

/-! ## State.modifyString -/

@[simp] theorem State.modifyString_plu (i : StringNo) (f : StringBlock → StringBlock) (s : State) : (s.modifyString i f).plu = s.plu := rfl
@[simp] theorem State.modifyString_slu (i : StringNo) (f : StringBlock → StringBlock) (s : State) : (s.modifyString i f).slu = s.slu := rfl
@[simp] theorem State.modifyString_divider (i : StringNo) (f : StringBlock → StringBlock) (s : State) : (s.modifyString i f).divider = s.divider := rfl
@[simp] theorem State.modifyString_tables (i : StringNo) (f : StringBlock → StringBlock) (s : State) : (s.modifyString i f).tables = s.tables := rfl
@[simp] theorem State.modifyString_numbering (i : StringNo) (f : StringBlock → StringBlock) (s : State) : (s.modifyString i f).numbering = s.numbering := rfl
@[simp] theorem State.modifyString_rc (i : StringNo) (f : StringBlock → StringBlock) (s : State) : (s.modifyString i f).rc = s.rc := rfl
@[simp] theorem State.modifyString_eq (i : StringNo) (f : StringBlock → StringBlock) (s : State) : (s.modifyString i f).eq = s.eq := rfl
@[simp] theorem State.modifyString_mq (i : StringNo) (f : StringBlock → StringBlock) (s : State) : (s.modifyString i f).mq = s.mq := rfl
@[simp] theorem State.modifyString_rq (i : StringNo) (f : StringBlock → StringBlock) (s : State) : (s.modifyString i f).rq = s.rq := rfl
@[simp] theorem State.modifyString_lane (i : StringNo) (f : StringBlock → StringBlock) (s : State) : (s.modifyString i f).lane = s.lane := rfl
@[simp] theorem State.modifyString_cu (i : StringNo) (f : StringBlock → StringBlock) (s : State) : (s.modifyString i f).cu = s.cu := rfl
@[simp] theorem State.modifyString_su (i : StringNo) (f : StringBlock → StringBlock) (s : State) : (s.modifyString i f).su = s.su := rfl
@[simp] theorem State.modifyString_pending (i : StringNo) (f : StringBlock → StringBlock) (s : State) : (s.modifyString i f).pending = s.pending := rfl

@[simp] theorem State.modifyString_string (i : StringNo) (f : StringBlock → StringBlock) (s : State) :
    (s.modifyString i f).string i = f (s.string i) := by
  simp [State.string, State.modifyString]

@[simp] theorem State.modifyString_string_other {i j : StringNo} (f : StringBlock → StringBlock) (s : State) (h : j ≠ i) :
    (s.modifyString i f).string j = s.string j := by
  simp [State.string, State.modifyString, h]

/-- What a change of one string does to any string. -/
theorem State.string_modifyString (i j : StringNo) (f : StringBlock → StringBlock) (s : State) :
    (s.modifyString i f).string j = if j = i then f (s.string i) else s.string j := by
  by_cases h : j = i
  · subst h; simp
  · simp [h]

/-! ## State.modifyAll -/

@[simp] theorem State.modifyAll_plu (f : StringBlock → StringBlock) (s : State) : (s.modifyAll f).plu = s.plu := rfl
@[simp] theorem State.modifyAll_slu (f : StringBlock → StringBlock) (s : State) : (s.modifyAll f).slu = s.slu := rfl
@[simp] theorem State.modifyAll_divider (f : StringBlock → StringBlock) (s : State) : (s.modifyAll f).divider = s.divider := rfl
@[simp] theorem State.modifyAll_tables (f : StringBlock → StringBlock) (s : State) : (s.modifyAll f).tables = s.tables := rfl
@[simp] theorem State.modifyAll_numbering (f : StringBlock → StringBlock) (s : State) : (s.modifyAll f).numbering = s.numbering := rfl
@[simp] theorem State.modifyAll_rc (f : StringBlock → StringBlock) (s : State) : (s.modifyAll f).rc = s.rc := rfl
@[simp] theorem State.modifyAll_eq (f : StringBlock → StringBlock) (s : State) : (s.modifyAll f).eq = s.eq := rfl
@[simp] theorem State.modifyAll_mq (f : StringBlock → StringBlock) (s : State) : (s.modifyAll f).mq = s.mq := rfl
@[simp] theorem State.modifyAll_rq (f : StringBlock → StringBlock) (s : State) : (s.modifyAll f).rq = s.rq := rfl
@[simp] theorem State.modifyAll_lane (f : StringBlock → StringBlock) (s : State) : (s.modifyAll f).lane = s.lane := rfl
@[simp] theorem State.modifyAll_cu (f : StringBlock → StringBlock) (s : State) : (s.modifyAll f).cu = s.cu := rfl
@[simp] theorem State.modifyAll_su (f : StringBlock → StringBlock) (s : State) : (s.modifyAll f).su = s.su := rfl
@[simp] theorem State.modifyAll_pending (f : StringBlock → StringBlock) (s : State) : (s.modifyAll f).pending = s.pending := rfl

@[simp] theorem State.modifyAll_string (f : StringBlock → StringBlock) (s : State) (i : StringNo) :
    (s.modifyAll f).string i = f (s.string i) := by
  simp [State.string, State.modifyAll]

/-! ## State.setTracker -/

@[simp] theorem State.setTracker_plu (i : StringNo) (k : TrackerState) (s : State) : (s.setTracker i k).plu = s.plu := rfl
@[simp] theorem State.setTracker_slu (i : StringNo) (k : TrackerState) (s : State) : (s.setTracker i k).slu = s.slu := rfl
@[simp] theorem State.setTracker_divider (i : StringNo) (k : TrackerState) (s : State) : (s.setTracker i k).divider = s.divider := rfl
@[simp] theorem State.setTracker_tables (i : StringNo) (k : TrackerState) (s : State) : (s.setTracker i k).tables = s.tables := rfl
@[simp] theorem State.setTracker_numbering (i : StringNo) (k : TrackerState) (s : State) : (s.setTracker i k).numbering = s.numbering := rfl
@[simp] theorem State.setTracker_rc (i : StringNo) (k : TrackerState) (s : State) : (s.setTracker i k).rc = s.rc := rfl
@[simp] theorem State.setTracker_eq (i : StringNo) (k : TrackerState) (s : State) : (s.setTracker i k).eq = s.eq := rfl
@[simp] theorem State.setTracker_mq (i : StringNo) (k : TrackerState) (s : State) : (s.setTracker i k).mq = s.mq := rfl
@[simp] theorem State.setTracker_rq (i : StringNo) (k : TrackerState) (s : State) : (s.setTracker i k).rq = s.rq := rfl
@[simp] theorem State.setTracker_lane (i : StringNo) (k : TrackerState) (s : State) : (s.setTracker i k).lane = s.lane := rfl
@[simp] theorem State.setTracker_cu (i : StringNo) (k : TrackerState) (s : State) : (s.setTracker i k).cu = s.cu := rfl
@[simp] theorem State.setTracker_su (i : StringNo) (k : TrackerState) (s : State) : (s.setTracker i k).su = s.su := rfl
@[simp] theorem State.setTracker_pending (i : StringNo) (k : TrackerState) (s : State) : (s.setTracker i k).pending = s.pending := rfl

/-! ## State.modifyContext -/

@[simp] theorem State.modifyContext_plu (i : StringNo) (f : NoteContext → NoteContext) (s : State) : (s.modifyContext i f).plu = s.plu := rfl
@[simp] theorem State.modifyContext_slu (i : StringNo) (f : NoteContext → NoteContext) (s : State) : (s.modifyContext i f).slu = s.slu := rfl
@[simp] theorem State.modifyContext_divider (i : StringNo) (f : NoteContext → NoteContext) (s : State) : (s.modifyContext i f).divider = s.divider := rfl
@[simp] theorem State.modifyContext_tables (i : StringNo) (f : NoteContext → NoteContext) (s : State) : (s.modifyContext i f).tables = s.tables := rfl
@[simp] theorem State.modifyContext_numbering (i : StringNo) (f : NoteContext → NoteContext) (s : State) : (s.modifyContext i f).numbering = s.numbering := rfl
@[simp] theorem State.modifyContext_rc (i : StringNo) (f : NoteContext → NoteContext) (s : State) : (s.modifyContext i f).rc = s.rc := rfl
@[simp] theorem State.modifyContext_eq (i : StringNo) (f : NoteContext → NoteContext) (s : State) : (s.modifyContext i f).eq = s.eq := rfl
@[simp] theorem State.modifyContext_mq (i : StringNo) (f : NoteContext → NoteContext) (s : State) : (s.modifyContext i f).mq = s.mq := rfl
@[simp] theorem State.modifyContext_rq (i : StringNo) (f : NoteContext → NoteContext) (s : State) : (s.modifyContext i f).rq = s.rq := rfl
@[simp] theorem State.modifyContext_lane (i : StringNo) (f : NoteContext → NoteContext) (s : State) : (s.modifyContext i f).lane = s.lane := rfl
@[simp] theorem State.modifyContext_cu (i : StringNo) (f : NoteContext → NoteContext) (s : State) : (s.modifyContext i f).cu = s.cu := rfl
@[simp] theorem State.modifyContext_su (i : StringNo) (f : NoteContext → NoteContext) (s : State) : (s.modifyContext i f).su = s.su := rfl
@[simp] theorem State.modifyContext_pending (i : StringNo) (f : NoteContext → NoteContext) (s : State) : (s.modifyContext i f).pending = s.pending := rfl

/-! ## State.modifyTimers -/

@[simp] theorem State.modifyTimers_plu (i : StringNo) (f : Timers → Timers) (s : State) : (s.modifyTimers i f).plu = s.plu := rfl
@[simp] theorem State.modifyTimers_slu (i : StringNo) (f : Timers → Timers) (s : State) : (s.modifyTimers i f).slu = s.slu := rfl
@[simp] theorem State.modifyTimers_divider (i : StringNo) (f : Timers → Timers) (s : State) : (s.modifyTimers i f).divider = s.divider := rfl
@[simp] theorem State.modifyTimers_tables (i : StringNo) (f : Timers → Timers) (s : State) : (s.modifyTimers i f).tables = s.tables := rfl
@[simp] theorem State.modifyTimers_numbering (i : StringNo) (f : Timers → Timers) (s : State) : (s.modifyTimers i f).numbering = s.numbering := rfl
@[simp] theorem State.modifyTimers_rc (i : StringNo) (f : Timers → Timers) (s : State) : (s.modifyTimers i f).rc = s.rc := rfl
@[simp] theorem State.modifyTimers_eq (i : StringNo) (f : Timers → Timers) (s : State) : (s.modifyTimers i f).eq = s.eq := rfl
@[simp] theorem State.modifyTimers_mq (i : StringNo) (f : Timers → Timers) (s : State) : (s.modifyTimers i f).mq = s.mq := rfl
@[simp] theorem State.modifyTimers_rq (i : StringNo) (f : Timers → Timers) (s : State) : (s.modifyTimers i f).rq = s.rq := rfl
@[simp] theorem State.modifyTimers_lane (i : StringNo) (f : Timers → Timers) (s : State) : (s.modifyTimers i f).lane = s.lane := rfl
@[simp] theorem State.modifyTimers_cu (i : StringNo) (f : Timers → Timers) (s : State) : (s.modifyTimers i f).cu = s.cu := rfl
@[simp] theorem State.modifyTimers_su (i : StringNo) (f : Timers → Timers) (s : State) : (s.modifyTimers i f).su = s.su := rfl
@[simp] theorem State.modifyTimers_pending (i : StringNo) (f : Timers → Timers) (s : State) : (s.modifyTimers i f).pending = s.pending := rfl

/-! ## State.modifyRecord -/

@[simp] theorem State.modifyRecord_plu (i : StringNo) (f : Measurement → Measurement) (s : State) : (s.modifyRecord i f).plu = s.plu := rfl
@[simp] theorem State.modifyRecord_slu (i : StringNo) (f : Measurement → Measurement) (s : State) : (s.modifyRecord i f).slu = s.slu := rfl
@[simp] theorem State.modifyRecord_divider (i : StringNo) (f : Measurement → Measurement) (s : State) : (s.modifyRecord i f).divider = s.divider := rfl
@[simp] theorem State.modifyRecord_tables (i : StringNo) (f : Measurement → Measurement) (s : State) : (s.modifyRecord i f).tables = s.tables := rfl
@[simp] theorem State.modifyRecord_numbering (i : StringNo) (f : Measurement → Measurement) (s : State) : (s.modifyRecord i f).numbering = s.numbering := rfl
@[simp] theorem State.modifyRecord_rc (i : StringNo) (f : Measurement → Measurement) (s : State) : (s.modifyRecord i f).rc = s.rc := rfl
@[simp] theorem State.modifyRecord_eq (i : StringNo) (f : Measurement → Measurement) (s : State) : (s.modifyRecord i f).eq = s.eq := rfl
@[simp] theorem State.modifyRecord_mq (i : StringNo) (f : Measurement → Measurement) (s : State) : (s.modifyRecord i f).mq = s.mq := rfl
@[simp] theorem State.modifyRecord_rq (i : StringNo) (f : Measurement → Measurement) (s : State) : (s.modifyRecord i f).rq = s.rq := rfl
@[simp] theorem State.modifyRecord_lane (i : StringNo) (f : Measurement → Measurement) (s : State) : (s.modifyRecord i f).lane = s.lane := rfl
@[simp] theorem State.modifyRecord_cu (i : StringNo) (f : Measurement → Measurement) (s : State) : (s.modifyRecord i f).cu = s.cu := rfl
@[simp] theorem State.modifyRecord_su (i : StringNo) (f : Measurement → Measurement) (s : State) : (s.modifyRecord i f).su = s.su := rfl
@[simp] theorem State.modifyRecord_pending (i : StringNo) (f : Measurement → Measurement) (s : State) : (s.modifyRecord i f).pending = s.pending := rfl

/-! ## State.modifyTicked -/

@[simp] theorem State.modifyTicked_plu (i : StringNo) (f : TickTaken → TickTaken) (s : State) : (s.modifyTicked i f).plu = s.plu := rfl
@[simp] theorem State.modifyTicked_slu (i : StringNo) (f : TickTaken → TickTaken) (s : State) : (s.modifyTicked i f).slu = s.slu := rfl
@[simp] theorem State.modifyTicked_divider (i : StringNo) (f : TickTaken → TickTaken) (s : State) : (s.modifyTicked i f).divider = s.divider := rfl
@[simp] theorem State.modifyTicked_tables (i : StringNo) (f : TickTaken → TickTaken) (s : State) : (s.modifyTicked i f).tables = s.tables := rfl
@[simp] theorem State.modifyTicked_numbering (i : StringNo) (f : TickTaken → TickTaken) (s : State) : (s.modifyTicked i f).numbering = s.numbering := rfl
@[simp] theorem State.modifyTicked_rc (i : StringNo) (f : TickTaken → TickTaken) (s : State) : (s.modifyTicked i f).rc = s.rc := rfl
@[simp] theorem State.modifyTicked_eq (i : StringNo) (f : TickTaken → TickTaken) (s : State) : (s.modifyTicked i f).eq = s.eq := rfl
@[simp] theorem State.modifyTicked_mq (i : StringNo) (f : TickTaken → TickTaken) (s : State) : (s.modifyTicked i f).mq = s.mq := rfl
@[simp] theorem State.modifyTicked_rq (i : StringNo) (f : TickTaken → TickTaken) (s : State) : (s.modifyTicked i f).rq = s.rq := rfl
@[simp] theorem State.modifyTicked_lane (i : StringNo) (f : TickTaken → TickTaken) (s : State) : (s.modifyTicked i f).lane = s.lane := rfl
@[simp] theorem State.modifyTicked_cu (i : StringNo) (f : TickTaken → TickTaken) (s : State) : (s.modifyTicked i f).cu = s.cu := rfl
@[simp] theorem State.modifyTicked_su (i : StringNo) (f : TickTaken → TickTaken) (s : State) : (s.modifyTicked i f).su = s.su := rfl
@[simp] theorem State.modifyTicked_pending (i : StringNo) (f : TickTaken → TickTaken) (s : State) : (s.modifyTicked i f).pending = s.pending := rfl

/-! ## The strings after the named changes -/

@[simp] theorem State.setTracker_string (i : StringNo) (k : TrackerState) (s : State) :
    (s.setTracker i k).string i = { s.string i with tracker := { (s.string i).tracker with state := k } } := by
  simp [State.setTracker, StringBlock.modifyTracker]

@[simp] theorem State.modifyContext_string (i : StringNo) (f : NoteContext → NoteContext) (s : State) :
    (s.modifyContext i f).string i =
      { s.string i with tracker := { (s.string i).tracker with context := (s.string i).tracker.context.map f } } := by
  simp [State.modifyContext, StringBlock.modifyTracker]

@[simp] theorem State.modifyTimers_string (i : StringNo) (f : Timers → Timers) (s : State) :
    (s.modifyTimers i f).string i = { s.string i with timers := f (s.string i).timers } := by
  simp [State.modifyTimers]

@[simp] theorem State.modifyRecord_string (i : StringNo) (f : Measurement → Measurement) (s : State) :
    (s.modifyRecord i f).string i = { s.string i with record := f (s.string i).record } := by
  simp [State.modifyRecord]

@[simp] theorem State.modifyTicked_string (i : StringNo) (f : TickTaken → TickTaken) (s : State) :
    (s.modifyTicked i f).string i = { s.string i with ticked := f (s.string i).ticked } := by
  simp [State.modifyTicked]

@[simp] theorem State.setTracker_string_other {i j : StringNo} (k : TrackerState) (s : State) (h : j ≠ i) :
    (s.setTracker i k).string j = s.string j := by
  simp [State.setTracker, h]

@[simp] theorem State.modifyContext_string_other {i j : StringNo} (f : NoteContext → NoteContext) (s : State) (h : j ≠ i) :
    (s.modifyContext i f).string j = s.string j := by
  simp [State.modifyContext, h]

@[simp] theorem State.modifyTimers_string_other {i j : StringNo} (f : Timers → Timers) (s : State) (h : j ≠ i) :
    (s.modifyTimers i f).string j = s.string j := by
  simp [State.modifyTimers, h]

@[simp] theorem State.modifyRecord_string_other {i j : StringNo} (f : Measurement → Measurement) (s : State) (h : j ≠ i) :
    (s.modifyRecord i f).string j = s.string j := by
  simp [State.modifyRecord, h]

@[simp] theorem State.modifyTicked_string_other {i j : StringNo} (f : TickTaken → TickTaken) (s : State) (h : j ≠ i) :
    (s.modifyTicked i f).string j = s.string j := by
  simp [State.modifyTicked, h]

/-! ## State.causeFlag -/

@[simp] theorem State.causeFlag_plu (f : Flag) (s : State) : (s.causeFlag f).plu = s.plu := rfl
@[simp] theorem State.causeFlag_slu (f : Flag) (s : State) : (s.causeFlag f).slu = s.slu := rfl
@[simp] theorem State.causeFlag_strings (f : Flag) (s : State) : (s.causeFlag f).strings = s.strings := rfl
@[simp] theorem State.causeFlag_divider (f : Flag) (s : State) : (s.causeFlag f).divider = s.divider := rfl
@[simp] theorem State.causeFlag_tables (f : Flag) (s : State) : (s.causeFlag f).tables = s.tables := rfl
@[simp] theorem State.causeFlag_numbering (f : Flag) (s : State) : (s.causeFlag f).numbering = s.numbering := rfl
@[simp] theorem State.causeFlag_rc (f : Flag) (s : State) : (s.causeFlag f).rc = s.rc := rfl
@[simp] theorem State.causeFlag_eq (f : Flag) (s : State) : (s.causeFlag f).eq = s.eq := rfl
@[simp] theorem State.causeFlag_mq (f : Flag) (s : State) : (s.causeFlag f).mq = s.mq := rfl
@[simp] theorem State.causeFlag_rq (f : Flag) (s : State) : (s.causeFlag f).rq = s.rq := rfl
@[simp] theorem State.causeFlag_lane (f : Flag) (s : State) : (s.causeFlag f).lane = s.lane := rfl
@[simp] theorem State.causeFlag_cu (f : Flag) (s : State) : (s.causeFlag f).cu = s.cu := rfl
@[simp] theorem State.causeFlag_pending (f : Flag) (s : State) : (s.causeFlag f).pending = s.pending := rfl

/-! ## State.bumpCounter -/

@[simp] theorem State.bumpCounter_plu (c : StatusCounter) (s : State) : (s.bumpCounter c).plu = s.plu := rfl
@[simp] theorem State.bumpCounter_slu (c : StatusCounter) (s : State) : (s.bumpCounter c).slu = s.slu := rfl
@[simp] theorem State.bumpCounter_strings (c : StatusCounter) (s : State) : (s.bumpCounter c).strings = s.strings := rfl
@[simp] theorem State.bumpCounter_divider (c : StatusCounter) (s : State) : (s.bumpCounter c).divider = s.divider := rfl
@[simp] theorem State.bumpCounter_tables (c : StatusCounter) (s : State) : (s.bumpCounter c).tables = s.tables := rfl
@[simp] theorem State.bumpCounter_numbering (c : StatusCounter) (s : State) : (s.bumpCounter c).numbering = s.numbering := rfl
@[simp] theorem State.bumpCounter_rc (c : StatusCounter) (s : State) : (s.bumpCounter c).rc = s.rc := rfl
@[simp] theorem State.bumpCounter_eq (c : StatusCounter) (s : State) : (s.bumpCounter c).eq = s.eq := rfl
@[simp] theorem State.bumpCounter_mq (c : StatusCounter) (s : State) : (s.bumpCounter c).mq = s.mq := rfl
@[simp] theorem State.bumpCounter_rq (c : StatusCounter) (s : State) : (s.bumpCounter c).rq = s.rq := rfl
@[simp] theorem State.bumpCounter_lane (c : StatusCounter) (s : State) : (s.bumpCounter c).lane = s.lane := rfl
@[simp] theorem State.bumpCounter_cu (c : StatusCounter) (s : State) : (s.bumpCounter c).cu = s.cu := rfl
@[simp] theorem State.bumpCounter_pending (c : StatusCounter) (s : State) : (s.bumpCounter c).pending = s.pending := rfl

/-! ## State.placeReply -/

@[simp] theorem State.placeReply_plu (r : Reply) (s : State) : (s.placeReply r).plu = s.plu := rfl
@[simp] theorem State.placeReply_slu (r : Reply) (s : State) : (s.placeReply r).slu = s.slu := rfl
@[simp] theorem State.placeReply_strings (r : Reply) (s : State) : (s.placeReply r).strings = s.strings := rfl
@[simp] theorem State.placeReply_divider (r : Reply) (s : State) : (s.placeReply r).divider = s.divider := rfl
@[simp] theorem State.placeReply_tables (r : Reply) (s : State) : (s.placeReply r).tables = s.tables := rfl
@[simp] theorem State.placeReply_numbering (r : Reply) (s : State) : (s.placeReply r).numbering = s.numbering := rfl
@[simp] theorem State.placeReply_rc (r : Reply) (s : State) : (s.placeReply r).rc = s.rc := rfl
@[simp] theorem State.placeReply_eq (r : Reply) (s : State) : (s.placeReply r).eq = s.eq := rfl
@[simp] theorem State.placeReply_mq (r : Reply) (s : State) : (s.placeReply r).mq = s.mq := rfl
@[simp] theorem State.placeReply_lane (r : Reply) (s : State) : (s.placeReply r).lane = s.lane := rfl
@[simp] theorem State.placeReply_cu (r : Reply) (s : State) : (s.placeReply r).cu = s.cu := rfl
@[simp] theorem State.placeReply_su (r : Reply) (s : State) : (s.placeReply r).su = s.su := rfl
@[simp] theorem State.placeReply_pending (r : Reply) (s : State) : (s.placeReply r).pending = s.pending := rfl

@[simp] theorem State.causeFlag_su (f : Flag) (s : State) : (s.causeFlag f).su = s.su.cause f := rfl
@[simp] theorem State.bumpCounter_su (c : StatusCounter) (s : State) : (s.bumpCounter c).su = s.su.bump c := rfl
@[simp] theorem State.placeReply_rq (r : Reply) (s : State) : (s.placeReply r).rq = s.rq ++ [r] := rfl
@[simp] theorem State.causeFlag_string (f : Flag) (s : State) (i : StringNo) : (s.causeFlag f).string i = s.string i := rfl
@[simp] theorem State.bumpCounter_string (c : StatusCounter) (s : State) (i : StringNo) :
    (s.bumpCounter c).string i = s.string i := rfl
@[simp] theorem State.placeReply_string (r : Reply) (s : State) (i : StringNo) : (s.placeReply r).string i = s.string i := rfl

/-! ## The status unit -/

@[simp] theorem StatusUnit.cause_mask (f : Flag) (su : StatusUnit) : (su.cause f).mask = su.mask := by
  unfold StatusUnit.cause; split <;> rfl

@[simp] theorem StatusUnit.cause_counters (f : Flag) (su : StatusUnit) : (su.cause f).counters = su.counters := by
  unfold StatusUnit.cause; split <;> rfl

@[simp] theorem StatusUnit.bump_flags (c : StatusCounter) (su : StatusUnit) : (su.bump c).flags = su.flags := rfl
@[simp] theorem StatusUnit.bump_mask (c : StatusCounter) (su : StatusUnit) : (su.bump c).mask = su.mask := rfl
@[simp] theorem StatusUnit.clearFlags_mask (n : BitVec 12) (su : StatusUnit) : (su.clearFlags n).mask = su.mask := rfl
@[simp] theorem StatusUnit.clearFlags_counters (n : BitVec 12) (su : StatusUnit) :
    (su.clearFlags n).counters = su.counters := rfl

/-! ## One string's blocks -/

@[simp] theorem StringBlock.modifyTracker_stage (f : Tracker → Tracker) (b : StringBlock) : (b.modifyTracker f).stage = b.stage := rfl
@[simp] theorem StringBlock.modifyTracker_crosstalk (f : Tracker → Tracker) (b : StringBlock) : (b.modifyTracker f).crosstalk = b.crosstalk := rfl
@[simp] theorem StringBlock.modifyTracker_profile (f : Tracker → Tracker) (b : StringBlock) : (b.modifyTracker f).profile = b.profile := rfl
@[simp] theorem StringBlock.modifyTracker_validator (f : Tracker → Tracker) (b : StringBlock) : (b.modifyTracker f).validator = b.validator := rfl
@[simp] theorem StringBlock.modifyTracker_grid (f : Tracker → Tracker) (b : StringBlock) : (b.modifyTracker f).grid = b.grid := rfl
@[simp] theorem StringBlock.modifyTracker_timers (f : Tracker → Tracker) (b : StringBlock) : (b.modifyTracker f).timers = b.timers := rfl
@[simp] theorem StringBlock.modifyTracker_action (f : Tracker → Tracker) (b : StringBlock) : (b.modifyTracker f).action = b.action := rfl
@[simp] theorem StringBlock.modifyTracker_record (f : Tracker → Tracker) (b : StringBlock) : (b.modifyTracker f).record = b.record := rfl
@[simp] theorem StringBlock.modifyTracker_ticked (f : Tracker → Tracker) (b : StringBlock) : (b.modifyTracker f).ticked = b.ticked := rfl
@[simp] theorem StringBlock.modifyTracker_tracker (f : Tracker → Tracker) (b : StringBlock) : (b.modifyTracker f).tracker = f b.tracker := rfl
@[simp] theorem StringBlock.clearStage_crosstalk (b : StringBlock) : (b.clearStage).crosstalk = b.crosstalk := rfl
@[simp] theorem StringBlock.clearStage_profile (b : StringBlock) : (b.clearStage).profile = b.profile := rfl
@[simp] theorem StringBlock.clearStage_grid (b : StringBlock) : (b.clearStage).grid = b.grid := rfl
@[simp] theorem StringBlock.clearStage_timers (b : StringBlock) : (b.clearStage).timers = b.timers := rfl
@[simp] theorem StringBlock.clearStage_tracker (b : StringBlock) : (b.clearStage).tracker = b.tracker := rfl
@[simp] theorem StringBlock.clearStage_action (b : StringBlock) : (b.clearStage).action = b.action := rfl
@[simp] theorem StringBlock.clearStage_record (b : StringBlock) : (b.clearStage).record = b.record := rfl
@[simp] theorem StringBlock.clearStage_ticked (b : StringBlock) : (b.clearStage).ticked = b.ticked := rfl
@[simp] theorem StringBlock.clearStage_validator (b : StringBlock) : b.clearStage.validator = .cleared := rfl
@[simp] theorem StringBlock.clearStage_stage (b : StringBlock) :
    b.clearStage.stage = { InputStage.powerOn with trough := b.stage.trough } := rfl
@[simp] theorem StringBlock.closeContext_crosstalk (b : StringBlock) : (b.closeContext).crosstalk = b.crosstalk := rfl
@[simp] theorem StringBlock.closeContext_profile (b : StringBlock) : (b.closeContext).profile = b.profile := rfl
@[simp] theorem StringBlock.closeContext_validator (b : StringBlock) : (b.closeContext).validator = b.validator := rfl
@[simp] theorem StringBlock.closeContext_grid (b : StringBlock) : (b.closeContext).grid = b.grid := rfl
@[simp] theorem StringBlock.closeContext_action (b : StringBlock) : (b.closeContext).action = b.action := rfl
@[simp] theorem StringBlock.closeContext_record (b : StringBlock) : (b.closeContext).record = b.record := rfl
@[simp] theorem StringBlock.closeContext_ticked (b : StringBlock) : (b.closeContext).ticked = b.ticked := rfl
@[simp] theorem StringBlock.closeContext_stage (b : StringBlock) : b.closeContext.stage = { b.stage with trough := none } := rfl
@[simp] theorem StringBlock.closeContext_tracker (b : StringBlock) :
    b.closeContext.tracker = { b.tracker with context := none } := rfl
@[simp] theorem StringBlock.closeContext_timers (b : StringBlock) :
    b.closeContext.timers = ⟨b.timers.attack, b.timers.release.stop, b.timers.update.stop⟩ := rfl
@[simp] theorem StringBlock.silence_crosstalk (b : StringBlock) : (b.silence).crosstalk = b.crosstalk := rfl
@[simp] theorem StringBlock.silence_profile (b : StringBlock) : (b.silence).profile = b.profile := rfl
@[simp] theorem StringBlock.silence_validator (b : StringBlock) : (b.silence).validator = b.validator := rfl
@[simp] theorem StringBlock.silence_grid (b : StringBlock) : (b.silence).grid = b.grid := rfl
@[simp] theorem StringBlock.silence_action (b : StringBlock) : (b.silence).action = b.action := rfl
@[simp] theorem StringBlock.silence_record (b : StringBlock) : (b.silence).record = b.record := rfl
@[simp] theorem StringBlock.silence_ticked (b : StringBlock) : (b.silence).ticked = b.ticked := rfl
@[simp] theorem StringBlock.silence_stage (b : StringBlock) : b.silence.stage = { b.stage with trough := none } := rfl
@[simp] theorem StringBlock.silence_tracker (b : StringBlock) :
    b.silence.tracker = ⟨if b.tracker.state = .muted then .muted else .silent, none, 0⟩ := rfl
@[simp] theorem StringBlock.silence_timers (b : StringBlock) : b.silence.timers = b.timers.stop := rfl
@[simp] theorem StringBlock.startNote_crosstalk (c : NoteContext) (b : StringBlock) : (b.startNote c).crosstalk = b.crosstalk := rfl
@[simp] theorem StringBlock.startNote_profile (c : NoteContext) (b : StringBlock) : (b.startNote c).profile = b.profile := rfl
@[simp] theorem StringBlock.startNote_validator (c : NoteContext) (b : StringBlock) : (b.startNote c).validator = b.validator := rfl
@[simp] theorem StringBlock.startNote_grid (c : NoteContext) (b : StringBlock) : (b.startNote c).grid = b.grid := rfl
@[simp] theorem StringBlock.startNote_action (c : NoteContext) (b : StringBlock) : (b.startNote c).action = b.action := rfl
@[simp] theorem StringBlock.startNote_record (c : NoteContext) (b : StringBlock) : (b.startNote c).record = b.record := rfl
@[simp] theorem StringBlock.startNote_ticked (c : NoteContext) (b : StringBlock) : (b.startNote c).ticked = b.ticked := rfl
@[simp] theorem StringBlock.linkLoss_crosstalk (b : StringBlock) : (b.linkLoss).crosstalk = b.crosstalk := rfl
@[simp] theorem StringBlock.linkLoss_profile (b : StringBlock) : (b.linkLoss).profile = b.profile := rfl
@[simp] theorem StringBlock.linkLoss_grid (b : StringBlock) : (b.linkLoss).grid = b.grid := rfl
@[simp] theorem StringBlock.linkLoss_action (b : StringBlock) : (b.linkLoss).action = b.action := rfl
@[simp] theorem StringBlock.restoreDefaults_grid (b : StringBlock) : (b.restoreDefaults).grid = b.grid := rfl
@[simp] theorem StringBlock.restoreDefaults_timers (b : StringBlock) : (b.restoreDefaults).timers = b.timers := rfl
@[simp] theorem StringBlock.restoreDefaults_tracker (b : StringBlock) : (b.restoreDefaults).tracker = b.tracker := rfl
@[simp] theorem StringBlock.restoreDefaults_record (b : StringBlock) : (b.restoreDefaults).record = b.record := rfl
@[simp] theorem StringBlock.restoreDefaults_ticked (b : StringBlock) : (b.restoreDefaults).ticked = b.ticked := rfl

/-! ## Timers -/

@[simp] theorem AttackClock.stop_running (c : AttackClock) : c.stop.running = false := rfl
@[simp] theorem AttackClock.stop_value (c : AttackClock) : c.stop.value = c.value := rfl
@[simp] theorem ReleaseCounter.stop_running (c : ReleaseCounter) : c.stop.running = false := rfl
@[simp] theorem ReleaseCounter.stop_value (c : ReleaseCounter) : c.stop.value = c.value := rfl
@[simp] theorem UpdateScheduler.stop_running (u : UpdateScheduler) : u.stop.running = false := rfl
@[simp] theorem UpdateScheduler.stop_value (u : UpdateScheduler) : u.stop.value = u.value := rfl
@[simp] theorem Timers.stop_attack (t : Timers) : t.stop.attack = t.attack.stop := rfl
@[simp] theorem Timers.stop_release (t : Timers) : t.stop.release = t.release.stop := rfl
@[simp] theorem Timers.stop_update (t : Timers) : t.stop.update = t.update.stop := rfl

end Sys2Proof.Machine
end

