-- ==== Sys2Proof/Laws/Order.lean ====
section
/-!
SUPPORT. Events taken string by string: the order a frame arrival serves the strings in holds every string once, and a
property every string's event keeps is kept by all of them together.
-/

namespace Sys2Proof.Machine

/-- What every single event keeps, a run of events keeps. -/
theorem forStrings_keeps {P : State → Prop} (event : StringNo → State → State) (h : ∀ i s, P s → P (event i s))
    (strings : List StringNo) (s : State) (hs : P s) : P (forStrings strings event s) := by
  unfold forStrings
  induction strings generalizing s with
  | nil => exact hs
  | cons i rest ih => exact ih _ (h i s hs)

@[simp] theorem forStrings_nil (event : StringNo → State → State) (s : State) : forStrings [] event s = s := rfl

@[simp] theorem forStrings_cons (i : StringNo) (rest : List StringNo) (event : StringNo → State → State) (s : State) :
    forStrings (i :: rest) event s = forStrings rest event (event i s) := rfl

/-- The served order holds exactly the strings of the list it was made from, each as often (R20). -/
theorem servedOrder_perm (named rest : List StringNo) : (servedOrder named rest).Perm rest := by
  induction named generalizing rest with
  | nil => exact .refl _
  | cons i more ih =>
    unfold servedOrder
    split
    · rename_i h
      exact ((ih (rest.erase i)).cons i).trans (List.perm_cons_erase h).symm
    · exact ih rest

/-- Every string is served (R20). -/
theorem mem_servedOrder (named : List StringNo) (i : StringNo) : i ∈ servedOrder named allStrings :=
  (servedOrder_perm named allStrings).mem_iff.mpr (mem_allStrings i)

/-- No string is served twice (R20). -/
theorem servedOrder_nodup (named : List StringNo) : (servedOrder named allStrings).Nodup :=
  (servedOrder_perm named allStrings).nodup_iff.mpr (by decide)

end Sys2Proof.Machine
end

