-- ==== Sys2Proof/Laws/Measurement.lean ====
section
/-!
SUPPORT. What an event of one measurement record can do: it touches that record, the reply queue and the flags, and nothing
else; and a reply is placed only in a free slot.
-/

namespace Sys2Proof.Machine

/-- Outside one string's record, the reply queue and the flags, everything is as it stood. -/
structure OneRecord (i : StringNo) (s t : State) : Prop where
  plu : t.plu = s.plu
  slu : t.slu = s.slu
  divider : t.divider = s.divider
  tables : t.tables = s.tables
  numbering : t.numbering = s.numbering
  rc : t.rc = s.rc
  eq : t.eq = s.eq
  mq : t.mq = s.mq
  lane : t.lane = s.lane
  cu : t.cu = s.cu
  mask : t.su.mask = s.su.mask
  counters : t.su.counters = s.su.counters
  pending : t.pending = s.pending
  others : ∀ j, j ≠ i → t.string j = s.string j
  block : t.string i = { s.string i with record := (t.string i).record }

theorem OneRecord.refl (i : StringNo) (s : State) : OneRecord i s s :=
  ⟨rfl, rfl, rfl, rfl, rfl, rfl, rfl, rfl, rfl, rfl, rfl, rfl, rfl, fun _ _ => rfl, rfl⟩

theorem OneRecord.trans {i : StringNo} {s t u : State} (h : OneRecord i s t) (k : OneRecord i t u) : OneRecord i s u :=
  ⟨k.plu.trans h.plu, k.slu.trans h.slu, k.divider.trans h.divider, k.tables.trans h.tables, k.numbering.trans h.numbering,
    k.rc.trans h.rc, k.eq.trans h.eq, k.mq.trans h.mq, k.lane.trans h.lane, k.cu.trans h.cu, k.mask.trans h.mask,
    k.counters.trans h.counters, k.pending.trans h.pending, fun j hj => (k.others j hj).trans (h.others j hj),
    by rw [k.block, h.block]⟩

theorem OneRecord.modifyRecord (i : StringNo) (f : Measurement → Measurement) (s : State) :
    OneRecord i s (s.modifyRecord i f) := by
  constructor <;> first | rfl | (intro j hj; simp [hj]) | simp

theorem OneRecord.placeReply (i : StringNo) (r : Reply) (s : State) : OneRecord i s (s.placeReply r) :=
  ⟨rfl, rfl, rfl, rfl, rfl, rfl, rfl, rfl, rfl, rfl, rfl, rfl, rfl, fun _ _ => rfl, rfl⟩

theorem OneRecord.causeFlag (i : StringNo) (f : Flag) (s : State) : OneRecord i s (s.causeFlag f) :=
  ⟨rfl, rfl, rfl, rfl, rfl, rfl, rfl, rfl, rfl, rfl, by simp, by simp, rfl, fun _ _ => rfl, rfl⟩

theorem placeResult_touches (i : StringNo) (s : State) : OneRecord i s (placeResult i s) :=
  ((OneRecord.placeReply i _ s).trans (.modifyRecord i _ _)).trans (.causeFlag i _ _)

theorem seekSlot_touches (i : StringNo) (s : State) : OneRecord i s (seekSlot i s) := by
  unfold seekSlot
  split
  · exact placeResult_touches i s
  · exact .refl i s

theorem endMeasurement_touches (i : StringNo) (o : MeasureOutcome) (s : State) : OneRecord i s (endMeasurement i o s) :=
  (OneRecord.modifyRecord i _ s).trans (seekSlot_touches i _)

theorem recordPeriod_touches (i : StringNo) (p : Nat) (s : State) : OneRecord i s (recordPeriod i p s) := by
  unfold recordPeriod
  simp only
  split
  · split
    · exact (OneRecord.modifyRecord i _ s).trans (endMeasurement_touches i _ _)
    · exact .modifyRecord i _ s
  · exact .refl i s

theorem recordTick_touches (i : StringNo) (s : State) : OneRecord i s (recordTick i s) := by
  unfold recordTick
  simp only
  split
  · split
    · exact (OneRecord.modifyRecord i _ s).trans (endMeasurement_touches i _ _)
    · exact .modifyRecord i _ s
  · exact .refl i s

theorem abortRecord_touches (i : StringNo) (s : State) : OneRecord i s (abortRecord i s) := by
  unfold abortRecord
  split
  · exact .modifyRecord i _ s
  · exact .refl i s

/-- An IDLE record has nothing to abort (R191). -/
theorem abortRecord_idle (i : StringNo) (s : State) (h : (s.string i).record.state = .idle) : abortRecord i s = s := by
  simp [abortRecord, Measurement.active, h]

/-- A RUNNING or WAITING record that is aborted waits, its values fixed and its outcome ABORTED (R191). -/
theorem abortRecord_active (i : StringNo) (s : State) (h : (s.string i).record.state ≠ .idle) :
    abortRecord i s = s.modifyRecord i fun r => { r with state := .waiting, pending := some .aborted } := by
  have active : (s.string i).record.active = true := by
    unfold Measurement.active
    split <;> first | rfl | contradiction
  simp [abortRecord, active, Measurement.finish]

/-- A record that is WAITING has its RESULT placed when a slot is free, and goes to IDLE (R189). -/
theorem seekSlot_places (i : StringNo) (s : State) (h : (s.string i).record.state = .waiting) (hs : s.rq.length < 8) :
    (seekSlot i s).rq = s.rq ++ [resultReply i (s.string i).record] ∧
      ((seekSlot i s).string i).record = { (s.string i).record with state := .idle, pending := none } := by
  simp [seekSlot, placeResult, h, State.replySlotFree, Config.replyQueueSize, hs, Measurement.toIdle]

/-- A record that is not WAITING, or finds no slot, stays as it is (R189). -/
theorem seekSlot_stays (i : StringNo) (s : State) (h : (s.string i).record.state ≠ .waiting ∨ 8 ≤ s.rq.length) :
    seekSlot i s = s := by
  unfold seekSlot
  rw [if_neg]
  rintro ⟨hw, hf⟩
  rcases h with h | h
  · exact h hw
  · have := of_decide_eq_true hf
    unfold Config.replyQueueSize at this
    omega

/-- After it has sought a slot, a record is WAITING only if the reply queue is full (R189). -/
theorem seekSlot_waits (i : StringNo) (s : State) (h : ((seekSlot i s).string i).record.state = .waiting) :
    8 ≤ (seekSlot i s).rq.length := by
  by_cases hs : s.rq.length < 8
  · by_cases hw : (s.string i).record.state = .waiting
    · rw [(seekSlot_places i s hw hs).2] at h
      simp at h
    · rw [seekSlot_stays i s (.inl hw)] at h
      exact absurd h hw
  · rw [seekSlot_stays i s (.inr (by omega))]
    omega

/-- Seeking a slot never takes the reply queue past 8 replies (R156). -/
theorem seekSlot_bound (i : StringNo) (s : State) (h : s.rq.length ≤ 8) : (seekSlot i s).rq.length ≤ 8 := by
  by_cases hs : s.rq.length < 8
  · by_cases hw : (s.string i).record.state = .waiting
    · rw [(seekSlot_places i s hw hs).1]
      simp; omega
    · rw [seekSlot_stays i s (.inl hw)]
      exact h
  · rw [seekSlot_stays i s (.inr (by omega))]
    exact h

end Sys2Proof.Machine
end

