-- ==== Sys2Proof/Laws/Crossing.lean ====
section
/-!
SUPPORT. What a message's crossing of the points can do: it leaves everything but the event queue, the monitor queue, the
counters and the status unit as it stood, and the queues change only as the admission rules give.
-/

namespace Sys2Proof.Machine

/-- Everything but the two message queues, the counter sets and the status unit is as it stood. -/
structure QueuesOnly (s t : State) : Prop where
  plu : t.plu = s.plu
  slu : t.slu = s.slu
  strings : t.strings = s.strings
  divider : t.divider = s.divider
  tables : t.tables = s.tables
  numbering : t.numbering = s.numbering
  countPoint : t.rc.countPoint = s.rc.countPoint
  rq : t.rq = s.rq
  lane : t.lane = s.lane
  cu : t.cu = s.cu
  mask : t.su.mask = s.su.mask
  pending : t.pending = s.pending

theorem QueuesOnly.refl (s : State) : QueuesOnly s s := ⟨rfl, rfl, rfl, rfl, rfl, rfl, rfl, rfl, rfl, rfl, rfl, rfl⟩

theorem QueuesOnly.trans {s t u : State} (h : QueuesOnly s t) (k : QueuesOnly t u) : QueuesOnly s u :=
  ⟨k.plu.trans h.plu, k.slu.trans h.slu, k.strings.trans h.strings, k.divider.trans h.divider, k.tables.trans h.tables,
    k.numbering.trans h.numbering, k.countPoint.trans h.countPoint, k.rq.trans h.rq, k.lane.trans h.lane, k.cu.trans h.cu,
    k.mask.trans h.mask, k.pending.trans h.pending⟩

theorem QueuesOnly.string {s t : State} (h : QueuesOnly s t) (i : StringNo) : t.string i = s.string i := by
  simp [State.string, h.strings]

/-! ## The monitor queue -/

theorem placeMonitor_queuesOnly (m : Message) (s : State) : QueuesOnly s (s.placeMonitor m) := by
  unfold State.placeMonitor
  split <;> constructor <;> simp

@[simp] theorem placeMonitor_eq (m : Message) (s : State) : (s.placeMonitor m).eq = s.eq := by
  unfold State.placeMonitor
  split <;> simp

@[simp] theorem placeMonitor_rc (m : Message) (s : State) : (s.placeMonitor m).rc = s.rc := by
  unfold State.placeMonitor
  split <;> simp

/-- The monitor queue takes the message at its tail, dropping its head first when it holds 16 (R154). -/
theorem placeMonitor_mq (m : Message) (s : State) :
    (s.placeMonitor m).mq = if s.mq.length < 16 then s.mq ++ [m] else s.mq.tail ++ [m] := by
  unfold State.placeMonitor Config.monitorQueueSize
  split <;> simp

/-- The monitor queue never outgrows 16 messages (R154). -/
theorem placeMonitor_bound (m : Message) (s : State) (h : s.mq.length ≤ 16) : (s.placeMonitor m).mq.length ≤ 16 := by
  rw [placeMonitor_mq]
  split <;> simp <;> omega

/-! ## Counting -/

theorem countMessage_queuesOnly (index : Option Nat) (m : Message) (s : State) : QueuesOnly s (s.countMessage index m) := by
  cases index <;> exact ⟨rfl, rfl, rfl, rfl, rfl, rfl, rfl, rfl, rfl, rfl, rfl, rfl⟩

@[simp] theorem countMessage_eq (index : Option Nat) (m : Message) (s : State) : (s.countMessage index m).eq = s.eq := by
  cases index <;> rfl

@[simp] theorem countMessage_mq (index : Option Nat) (m : Message) (s : State) : (s.countMessage index m).mq = s.mq := by
  cases index <;> rfl

@[simp] theorem countMessage_su (index : Option Nat) (m : Message) (s : State) : (s.countMessage index m).su = s.su := by
  cases index <;> rfl

/-! ## Admission -/

theorem admit_queuesOnly (reserves : Bool) (m : Message) (s : State) : QueuesOnly s (admitMessage reserves m s).state := by
  unfold admitMessage
  split <;> (try unfold admitOne) <;> (try unfold admitReserving) <;> (try unfold admitPitch) <;> (try unfold admitEnd) <;>
    (repeat' split) <;> constructor <;> simp

@[simp] theorem admit_mq (reserves : Bool) (m : Message) (s : State) : (admitMessage reserves m s).state.mq = s.mq := by
  unfold admitMessage
  split <;> (try unfold admitOne) <;> (try unfold admitReserving) <;> (try unfold admitPitch) <;> (try unfold admitEnd) <;>
    (repeat' split) <;> simp

@[simp] theorem admit_rc (reserves : Bool) (m : Message) (s : State) : (admitMessage reserves m s).state.rc = s.rc := by
  unfold admitMessage
  split <;> (try unfold admitOne) <;> (try unfold admitReserving) <;> (try unfold admitPitch) <;> (try unfold admitEnd) <;>
    (repeat' split) <;> simp

/-- What an admission does to the event queue, rule by rule; a refused copy leaves it as it was (R136, R146 to R149). -/
def AdmissionEffect (m : Message) (q : EventQueue) (admitted : Bool) (after : EventQueue) : Prop :=
  (admitted = false ∧ after = q) ∨
    (admitted = true ∧ m.isStart = true ∧ q.entries.length + q.reserved + 2 ≤ 64 ∧
      after = ⟨q.entries ++ [m], q.reserved + 1⟩) ∨
    (admitted = true ∧ q.entries.length + q.reserved + 1 ≤ 64 ∧ after = ⟨q.entries ++ [m], q.reserved⟩ ∧
      (m.isPitch = true → q.entries.any (·.isPitchOf m.string) = false)) ∨
    (admitted = true ∧ m.isPitch = true ∧ q.entries.any (·.isPitchOf m.string) = true ∧
      after = ⟨q.entries.map fun k => if k.isPitchOf m.string then replacedPitch k m else k, q.reserved⟩) ∨
    (admitted = true ∧ (∃ cause, m.body = .noteEnd cause) ∧ m.injected = false ∧
      after = ⟨(q.entries.filter fun k => !k.isPitchOf m.string) ++ [m], q.reserved - 1⟩)

/-- R147. -/
theorem admitOne_effect (m : Message) (s : State) (h : m.isPitch = false) :
    AdmissionEffect m s.eq (admitOne m s).admitted (admitOne m s).state.eq := by
  unfold admitOne EventQueue.load Config.eventQueueSize EventQueue.enqueue
  split
  · rename_i hq; exact .inr (.inr (.inl ⟨rfl, hq, rfl, by simp [h]⟩))
  · exact .inl ⟨rfl, rfl⟩

/-- R146. -/
theorem admitReserving_effect (m : Message) (s : State) (h : m.isStart = true) :
    AdmissionEffect m s.eq (admitReserving m s).admitted (admitReserving m s).state.eq := by
  unfold admitReserving EventQueue.load Config.eventQueueSize EventQueue.enqueue
  split
  · rename_i hq; exact .inr (.inl ⟨rfl, h, hq, rfl⟩)
  · exact .inl ⟨rfl, rfl⟩

/-- R149. -/
theorem admitPitch_effect (m : Message) (s : State) (h : m.isPitch = true) :
    AdmissionEffect m s.eq (admitPitch m s).admitted (admitPitch m s).state.eq := by
  unfold admitPitch EventQueue.load Config.eventQueueSize EventQueue.enqueue
  split
  · rename_i hq; exact .inr (.inr (.inr (.inl ⟨rfl, h, hq, rfl⟩)))
  · rename_i hq
    split
    · rename_i hr; exact .inr (.inr (.inl ⟨rfl, hr, rfl, fun _ => by simpa using hq⟩))
    · exact .inl ⟨rfl, rfl⟩

/-- R148. -/
theorem admitEnd_effect (m : Message) (s : State) (cause : EndCause) (h : m.body = .noteEnd cause) (hi : m.injected = false) :
    AdmissionEffect m s.eq (admitEnd m s).admitted (admitEnd m s).state.eq :=
  .inr (.inr (.inr (.inr ⟨rfl, ⟨cause, h⟩, hi, rfl⟩)))

/-- Every admission has the effect one of the rules gives (R146 to R149). -/
theorem admit_effect (reserves : Bool) (m : Message) (s : State) :
    AdmissionEffect m s.eq (admitMessage reserves m s).admitted (admitMessage reserves m s).state.eq := by
  cases hb : m.body with
  | noteStart =>
    cases reserves
    · simpa [admitMessage, hb] using admitOne_effect m s (by simp [Message.isPitch, hb])
    · simpa [admitMessage, hb] using admitReserving_effect m s (by simp [Message.isStart, hb])
  | pitch => simpa [admitMessage, hb] using admitPitch_effect m s (by simp [Message.isPitch, hb])
  | restrike => simpa [admitMessage, hb] using admitOne_effect m s (by simp [Message.isPitch, hb])
  | noteEnd cause =>
    cases hi : m.injected
    · simpa [admitMessage, hb, hi] using admitEnd_effect m s cause hb hi
    · simpa [admitMessage, hb, hi] using admitOne_effect m s (by simp [Message.isPitch, hb])
  | tune => simp [admitMessage, hb, AdmissionEffect]

/-- A refused copy leaves the event queue as it was (R136). -/
theorem admit_refused (reserves : Bool) (m : Message) (s : State) (h : (admitMessage reserves m s).admitted = false) :
    (admitMessage reserves m s).state.eq = s.eq := by
  have := admit_effect reserves m s
  rw [AdmissionEffect, h] at this
  simpa using this

/-! ## ROUTE and ADMIT -/

theorem admitStage_queuesOnly (reserves : Bool) (index : Option Nat) (m : Message) (s : State) :
    QueuesOnly s (admitStage reserves index m s).state := by
  unfold admitStage
  simp only
  split
  · exact (admit_queuesOnly reserves m s).trans (countMessage_queuesOnly _ _ _)
  · exact admit_queuesOnly reserves m s

/-- Counting at ADMIT does not change what the queue answers or holds (R136, R141). -/
theorem admitStage_eq (reserves : Bool) (index : Option Nat) (m : Message) (s : State) :
    (admitStage reserves index m s).admitted = (admitMessage reserves m s).admitted ∧
      (admitStage reserves index m s).state.eq = (admitMessage reserves m s).state.eq ∧
      (admitStage reserves index m s).state.mq = s.mq := by
  unfold admitStage
  simp only
  split
  · rename_i h; simp [h.1]
  · simp

theorem routeStage_queuesOnly (v : Verdict) (index : Option Nat) (m : Message) (s : State) :
    QueuesOnly s (routeStage v index m s) := by
  have h : QueuesOnly s (if v.copies then s.placeMonitor { m with monitor := true } else s) := by
    split
    · exact placeMonitor_queuesOnly _ s
    · exact QueuesOnly.refl s
  unfold routeStage
  generalize (if v.copies then s.placeMonitor { m with monitor := true } else s) = r at h
  by_cases hc : v.offers = true ∧ r.rc.countPoint = .route
  · simpa [hc] using h.trans (countMessage_queuesOnly index m r)
  · simpa only [if_neg hc] using h

@[simp] theorem routeStage_eq (v : Verdict) (index : Option Nat) (m : Message) (s : State) :
    (routeStage v index m s).eq = s.eq := by
  unfold routeStage
  simp only
  split <;> split <;> simp

/-- An admission reads the event queue and the status unit alone: where these agree, so do its result and what it leaves in
them (R146 to R149). -/
theorem admit_congr (reserves : Bool) (m : Message) {s t : State} (eq : s.eq = t.eq) (su : s.su = t.su) :
    (admitMessage reserves m s).admitted = (admitMessage reserves m t).admitted ∧
      (admitMessage reserves m s).state.eq = (admitMessage reserves m t).state.eq ∧
      (admitMessage reserves m s).state.su = (admitMessage reserves m t).state.su := by
  unfold admitMessage admitOne admitReserving admitPitch admitEnd
  simp only [eq]
  split <;> (repeat' split) <;> simp_all [State.causeFlag, State.bumpCounter]

/-- What ROUTE leaves in the status unit: what placing the monitor copy leaves there (R134). -/
@[simp] theorem routeStage_su (v : Verdict) (index : Option Nat) (m : Message) (s : State) :
    (routeStage v index m s).su = if v.copies then (s.placeMonitor { m with monitor := true }).su else s.su := by
  unfold routeStage
  simp only
  split <;> split <;> simp

/-- What ROUTE leaves in the monitor queue (R134). -/
@[simp] theorem routeStage_mq (v : Verdict) (index : Option Nat) (m : Message) (s : State) :
    (routeStage v index m s).mq = if v.copies then (s.placeMonitor { m with monitor := true }).mq else s.mq := by
  unfold routeStage
  simp only
  split <;> split <;> simp

/-- A crossing of ROUTE and ADMIT touches the queues, the counter sets and the status unit alone (R130). -/
theorem crossRoute_queuesOnly (verdict route : Verdict) (withheld reserves : Bool) (index : Option Nat) (m : Message)
    (s : State) : QueuesOnly s (crossRoute verdict route withheld reserves index m s).state := by
  unfold crossRoute
  simp only
  split
  · exact (routeStage_queuesOnly _ _ _ s).trans (admitStage_queuesOnly _ _ _ _)
  · exact routeStage_queuesOnly _ _ _ s

/-- A copy that is not offered is not admitted, and the event queue is as it was (R130, R136). -/
theorem crossRoute_not_admitted (verdict route : Verdict) (withheld reserves : Bool) (index : Option Nat) (m : Message)
    (s : State) (h : (crossRoute verdict route withheld reserves index m s).admitted = false) :
    (crossRoute verdict route withheld reserves index m s).state.eq = s.eq := by
  unfold crossRoute at h ⊢
  simp only at h ⊢
  split at h
  · rename_i ho
    rw [if_pos ho]
    have := admitStage_eq reserves index m (routeStage (verdict.higher route) index m s)
    rw [this.2.1, admit_refused _ _ _ (this.1 ▸ h), routeStage_eq]
  · rename_i ho
    rw [if_neg ho]
    exact routeStage_eq _ _ _ s

/-- An admitted copy left ROUTE at PASS or COPY, was not withheld, and the event queue changed as its admission gives (R133,
R136). -/
theorem crossRoute_admitted (verdict route : Verdict) (withheld reserves : Bool) (index : Option Nat) (m : Message)
    (s : State) (h : (crossRoute verdict route withheld reserves index m s).admitted = true) :
    (verdict.higher route).offers = true ∧ withheld = false ∧
      ∃ r : State, r.eq = s.eq ∧ QueuesOnly s r ∧ (admitMessage reserves m r).admitted = true ∧
        (crossRoute verdict route withheld reserves index m s).state.eq = (admitMessage reserves m r).state.eq := by
  unfold crossRoute at h ⊢
  simp only at h ⊢
  split at h
  · rename_i ho
    rw [if_pos ho]
    have := admitStage_eq reserves index m (routeStage (verdict.higher route) index m s)
    exact ⟨ho.1, by simpa using ho.2, routeStage (verdict.higher route) index m s, routeStage_eq _ _ _ s,
      routeStage_queuesOnly _ _ _ s, this.1 ▸ h, this.2.1⟩
  · simp at h

theorem crossAdmit_queuesOnly (verdict : Verdict) (index : Option Nat) (m : Message) (s : State) :
    QueuesOnly s (crossAdmit verdict index m s).state := by
  unfold crossAdmit
  simp only
  split
  · exact admitStage_queuesOnly _ _ _ s
  · exact QueuesOnly.refl s

theorem crossTracker_queuesOnly (i : StringNo) (c : NoteContext) (withheld : Bool) (m : TrackerMessage) (s : State) :
    QueuesOnly s (crossTracker i c withheld m s).state :=
  crossRoute_queuesOnly _ _ _ _ _ _ s

/-! ## Verdicts (R131) -/

theorem Verdict.rank_le_higher_left (v w : Verdict) : v.rank ≤ (v.higher w).rank := by
  cases v <;> cases w <;> decide

theorem Verdict.rank_le_higher_right (v w : Verdict) : w.rank ≤ (v.higher w).rank := by
  cases v <;> cases w <;> decide

@[simp] theorem Verdict.pass_higher (w : Verdict) : Verdict.pass.higher w = w := by
  cases w <;> rfl

end Sys2Proof.Machine
end

