-- ==== Sys2Proof/Laws/Tracker.lean ====
section
/-!
SUPPORT. What an event of one string's tracker can do: it touches that string's stage, validator, timers and tracker, the two
message queues, the counter sets and the status unit, and nothing else.
-/

namespace Sys2Proof.Machine

/-- An input stage apart from its trough. -/
def InputStage.withoutTrough (st : InputStage) : InputStage := { st with trough := none }

/-- Outside one string's stage, validator, timers and tracker, the two message queues, the counter sets and the status unit,
everything is as it stood. -/
structure OneTracker (i : StringNo) (s t : State) : Prop where
  plu : t.plu = s.plu
  slu : t.slu = s.slu
  divider : t.divider = s.divider
  tables : t.tables = s.tables
  numbering : t.numbering = s.numbering
  countPoint : t.rc.countPoint = s.rc.countPoint
  rq : t.rq = s.rq
  lane : t.lane = s.lane
  cu : t.cu = s.cu
  mask : t.su.mask = s.su.mask
  pending : t.pending = s.pending
  others : ∀ j, j ≠ i → t.string j = s.string j
  crosstalk : (t.string i).crosstalk = (s.string i).crosstalk
  profile : (t.string i).profile = (s.string i).profile
  grid : (t.string i).grid = (s.string i).grid
  action : (t.string i).action = (s.string i).action
  record : (t.string i).record = (s.string i).record
  ticked : (t.string i).ticked = (s.string i).ticked
  /-- of the input stage only the trough, which goes with the note context, may change -/
  stage : (t.string i).stage.withoutTrough = (s.string i).stage.withoutTrough

theorem OneTracker.refl (i : StringNo) (s : State) : OneTracker i s s :=
  ⟨rfl, rfl, rfl, rfl, rfl, rfl, rfl, rfl, rfl, rfl, rfl, fun _ _ => rfl, rfl, rfl, rfl, rfl, rfl, rfl, rfl⟩

theorem OneTracker.trans {i : StringNo} {s t u : State} (h : OneTracker i s t) (k : OneTracker i t u) : OneTracker i s u :=
  ⟨k.plu.trans h.plu, k.slu.trans h.slu, k.divider.trans h.divider, k.tables.trans h.tables, k.numbering.trans h.numbering,
    k.countPoint.trans h.countPoint, k.rq.trans h.rq, k.lane.trans h.lane, k.cu.trans h.cu, k.mask.trans h.mask,
    k.pending.trans h.pending, fun j hj => (k.others j hj).trans (h.others j hj), k.crosstalk.trans h.crosstalk,
    k.profile.trans h.profile, k.grid.trans h.grid, k.action.trans h.action, k.record.trans h.record,
    k.ticked.trans h.ticked, k.stage.trans h.stage⟩

/-- A crossing of the points is within what a tracker's event may touch. -/
theorem QueuesOnly.oneTracker {s t : State} (h : QueuesOnly s t) (i : StringNo) : OneTracker i s t :=
  ⟨h.plu, h.slu, h.divider, h.tables, h.numbering, h.countPoint, h.rq, h.lane, h.cu, h.mask, h.pending,
    fun j _ => h.string j, by rw [h.string], by rw [h.string], by rw [h.string], by rw [h.string], by rw [h.string],
    by rw [h.string], by rw [h.string]⟩

/-- A change of one string that keeps its settings, grid, record and tick marks. -/
theorem OneTracker.modifyString (i : StringNo) (f : StringBlock → StringBlock) (s : State)
    (h : ∀ b : StringBlock, (f b).crosstalk = b.crosstalk ∧ (f b).profile = b.profile ∧ (f b).grid = b.grid ∧
      (f b).action = b.action ∧ (f b).record = b.record ∧ (f b).ticked = b.ticked ∧
      (f b).stage.withoutTrough = b.stage.withoutTrough) :
    OneTracker i s (s.modifyString i f) := by
  obtain ⟨h1, h2, h3, h4, h5, h6, h7⟩ := h (s.string i)
  constructor <;> first | rfl | simpa | (intro j hj; simp [hj])

theorem OneTracker.causeFlag (i : StringNo) (f : Flag) (s : State) : OneTracker i s (s.causeFlag f) := by
  constructor <;> first | rfl | simp

theorem OneTracker.bumpCounter (i : StringNo) (c : StatusCounter) (s : State) : OneTracker i s (s.bumpCounter c) := by
  constructor <;> first | rfl | simp

theorem OneTracker.setTracker (i : StringNo) (k : TrackerState) (s : State) : OneTracker i s (s.setTracker i k) :=
  .modifyString i _ s fun _ => ⟨rfl, rfl, rfl, rfl, rfl, rfl, rfl⟩

theorem OneTracker.modifyContext (i : StringNo) (f : NoteContext → NoteContext) (s : State) :
    OneTracker i s (s.modifyContext i f) :=
  .modifyString i _ s fun _ => ⟨rfl, rfl, rfl, rfl, rfl, rfl, rfl⟩

theorem OneTracker.placeMonitor (i : StringNo) (m : Message) (s : State) : OneTracker i s (s.placeMonitor m) :=
  (placeMonitor_queuesOnly m s).oneTracker i

theorem OneTracker.crossTracker (i : StringNo) (c : NoteContext) (w : Bool) (m : TrackerMessage) (s : State) :
    OneTracker i s (crossTracker i c w m s).state :=
  (crossTracker_queuesOnly i c w m s).oneTracker i

/-! ## Building and offering messages -/

theorem startScheduler_touches (i : StringNo) (s : State) : OneTracker i s (startScheduler i s) :=
  .modifyString i _ s fun _ => ⟨rfl, rfl, rfl, rfl, rfl, rfl, rfl⟩

theorem offerStart_touches (i : StringNo) (cause : StartCause) (s : State) : OneTracker i s (offerStart i cause s) := by
  unfold offerStart
  split
  · exact .refl i s
  · simp only
    split
    · exact ((OneTracker.crossTracker i _ _ _ s).trans (.modifyContext i _ _)).trans (startScheduler_touches i _)
    · exact (OneTracker.crossTracker i _ _ _ s).trans (.modifyContext i _ _)

theorem laterMessage_touches (i : StringNo) (m : TrackerMessage) (s : State) : OneTracker i s (laterMessage i m s).state := by
  unfold laterMessage
  split
  · exact .refl i s
  · split
    · exact .crossTracker i _ _ _ s
    · exact .refl i s

theorem buildPitch_touches (i : StringNo) (cause : PitchCause) (s : State) : OneTracker i s (buildPitch i cause s) := by
  unfold buildPitch
  split
  · exact .refl i s
  · simp only
    split
    · split
      · exact (laterMessage_touches i _ s).trans (.modifyContext i _ _)
      · exact laterMessage_touches i _ s
    · exact .refl i s

theorem endNote_touches (i : StringNo) (cause : EndCause) (s : State) : OneTracker i s (endNote i cause s) := by
  unfold endNote
  split
  · exact .refl i s
  · simp only
    split
    · exact (laterMessage_touches i _ s).trans (.modifyString i _ _ fun _ => ⟨rfl, rfl, rfl, rfl, rfl, rfl, rfl⟩)
    · exact .modifyString i _ _ fun _ => ⟨rfl, rfl, rfl, rfl, rfl, rfl, rfl⟩

theorem storeLane_touches (i : StringNo) (cause : StartCause) (s : State) : OneTracker i s (storeLane i cause s) :=
  .modifyContext i _ s

theorem startNote_touches (i : StringNo) (pv : Nat) (cause : StartCause) (grade peak : Nat) (early : Bool) (s : State) :
    OneTracker i s (startNote i pv cause grade peak early s) := by
  unfold startNote
  refine ((OneTracker.trans (.modifyString i _ s fun _ => ?_) (storeLane_touches i cause _))).trans
    (offerStart_touches i cause _)
  exact ⟨rfl, rfl, rfl, rfl, rfl, rfl, rfl⟩

theorem startFromAttack_touches (i : StringNo) (pv : Nat) (early : Bool) (s : State) :
    OneTracker i s (startFromAttack i pv early s) :=
  startNote_touches i pv .picked _ _ early s

theorem startLegato_touches (i : StringNo) (pv : Nat) (s : State) : OneTracker i s (startLegato i pv s) :=
  startNote_touches i pv .legato _ _ false s

/-! ## Edges -/

theorem takeOnset_touches (i : StringNo) (s : State) : OneTracker i s (takeOnset i s) := by
  unfold takeOnset
  refine OneTracker.trans (.modifyString i _ s fun _ => ?_) (.bumpCounter i _ _)
  exact ⟨rfl, rfl, rfl, rfl, rfl, rfl, rfl⟩

theorem endAttack_touches (i : StringNo) (after : TrackerState) (s : State) : OneTracker i s (endAttack i after s) :=
  .modifyString i _ s fun _ => ⟨rfl, rfl, rfl, rfl, rfl, rfl, rfl⟩

theorem backToSounding_touches (i : StringNo) (s : State) : OneTracker i s (backToSounding i s) :=
  .modifyString i _ s fun _ => ⟨rfl, rfl, rfl, rfl, rfl, rfl, rfl⟩

theorem fallInSounding_touches (i : StringNo) (s : State) : OneTracker i s (fallInSounding i s) := by
  unfold fallInSounding
  simp only
  split
  · exact .modifyString i _ s fun _ => ⟨rfl, rfl, rfl, rfl, rfl, rfl, rfl⟩
  · exact (endNote_touches i _ s).trans (.setTracker i _ _)

theorem recoveryStart_touches (i : StringNo) (s : State) : OneTracker i s (recoveryStart i s) :=
  (OneTracker.modifyContext i _ s).trans (offerStart_touches i _ _)

theorem restrikeNote_touches (i : StringNo) (s : State) : OneTracker i s (restrikeNote i s) := by
  unfold restrikeNote
  split
  · exact .refl i s
  · split
    · split
      · exact laterMessage_touches i _ s
      · exact recoveryStart_touches i s
    · exact .refl i s

theorem takeEdge_touches (i : StringNo) (edge : Edge) (s : State) : OneTracker i s (takeEdge i edge s) := by
  unfold takeEdge
  split
  · exact takeOnset_touches i s
  · exact endAttack_touches i _ s
  · exact fallInSounding_touches i s
  · exact backToSounding_touches i s
  · exact restrikeNote_touches i s
  · exact (backToSounding_touches i s).trans (restrikeNote_touches i _)
  · exact .refl i s

/-! ## Outcomes -/

theorem noteRange_touches (i : StringNo) (o : GridOutcome) (s : State) : OneTracker i s (noteRange o s) := by
  cases o
  · exact .causeFlag i _ s
  · exact .refl i s
  · exact .causeFlag i _ s

theorem clearEarly_touches (i : StringNo) (pv note : Nat) (s : State) : OneTracker i s (clearEarly i pv note s) := by
  unfold clearEarly
  simp only
  split
  · exact .modifyContext i _ s
  · exact (OneTracker.modifyContext i _ s).trans (buildPitch_touches i _ _)

theorem changeNote_touches (i : StringNo) (mode : LegatoMode) (pv : Nat) (s : State) :
    OneTracker i s (changeNote i mode pv s) := by
  cases mode
  · exact (OneTracker.modifyContext i _ s).trans (buildPitch_touches i _ _)
  · exact ((OneTracker.modifyContext i _ s).trans (endNote_touches i _ _)).trans (startLegato_touches i pv _)

theorem jumpReturns_touches (i : StringNo) (o : LockOutcome) (s : State) : OneTracker i s (jumpReturns i o s) := by
  unfold jumpReturns
  split
  · exact backToSounding_touches i s
  · exact .refl i s

theorem pitchOutcome_touches (i : StringNo) (o : LockOutcome) (pv : Nat) (c : NoteContext) (s : State) :
    OneTracker i s (pitchOutcome i o pv c s) := by
  unfold pitchOutcome
  split
  · exact (jumpReturns_touches i o s).trans (clearEarly_touches i pv _ _)
  · split
    · exact (backToSounding_touches i s).trans (changeNote_touches i _ pv _)
    · exact (jumpReturns_touches i o s).trans (.modifyContext i _ _)

theorem takePitch_touches (i : StringNo) (o : LockOutcome) (found : GridOutcome × Nat) (s : State) :
    OneTracker i s (takePitch i o found s) := by
  unfold takePitch
  split
  · split
    · exact startFromAttack_touches i _ _ s
    · exact .refl i s
  · exact pitchOutcome_touches i o _ _ s
  · exact pitchOutcome_touches i o _ _ s
  · exact .refl i s

theorem takeLocking_touches (i : StringNo) (o : LockOutcome) (a : Nat) (s : State) : OneTracker i s (takeLocking i o a s) := by
  unfold takeLocking
  simp only
  split
  · exact .refl i s
  · split
    · split
      · exact ((noteRange_touches i _ s).trans (takePitch_touches i o _ _)).trans (.placeMonitor i _ _)
      · exact (noteRange_touches i _ s).trans (takePitch_touches i o _ _)
    · exact .refl i s

theorem takeOutcome_touches (i : StringNo) (o : LockOutcome) (accepted : Option Nat) (s : State) :
    OneTracker i s (takeOutcome i o accepted s) := by
  unfold takeOutcome
  split
  · split
    · exact (OneTracker.causeFlag i _ s).trans (.bumpCounter i _ _)
    · exact .refl i s
  · split
    · exact takeLocking_touches i o _ s
    · exact .refl i s
  · exact .refl i s

/-! ## Expiries and commands -/

theorem takeEarlyPoint_touches (i : StringNo) (s : State) : OneTracker i s (takeEarlyPoint i s) := by
  unfold takeEarlyPoint
  simp only
  split
  · have h : OneTracker i s
        (if earlyOutside (s.string i).grid (s.string i).validator.ring = true then s.causeFlag .range else s) := by
      split
      · exact .causeFlag i _ s
      · exact .refl i s
    split
    · exact h.trans (startFromAttack_touches i _ _ _)
    · exact h
  · exact .refl i s

theorem takeGiveUp_touches (i : StringNo) (s : State) : OneTracker i s (takeGiveUp i s) := by
  unfold takeGiveUp
  simp only
  split
  · exact (OneTracker.bumpCounter i _ s).trans (endAttack_touches i _ _)
  · exact .bumpCounter i _ s

theorem takeReleaseExpiry_touches (i : StringNo) (s : State) : OneTracker i s (takeReleaseExpiry i s) := by
  unfold takeReleaseExpiry
  split
  · exact (endNote_touches i _ s).trans (.setTracker i _ _)
  · exact .refl i s

theorem takeUpdateExpiry_touches (i : StringNo) (s : State) : OneTracker i s (takeUpdateExpiry i s) := by
  unfold takeUpdateExpiry
  split
  · exact buildPitch_touches i _ s
  · exact .refl i s

theorem offString_touches (i : StringNo) (s : State) : OneTracker i s (offString i s) := by
  unfold offString
  split
  · exact (endNote_touches i _ s).trans (.setTracker i _ _)
  · exact (endNote_touches i _ s).trans (.setTracker i _ _)
  · exact endAttack_touches i _ s
  · exact .setTracker i _ s
  · exact .refl i s

theorem panicString_touches (i : StringNo) (s : State) : OneTracker i s (panicString i s) := by
  unfold panicString
  split
  · exact (endNote_touches i _ s).trans (.setTracker i _ _)
  · exact (endNote_touches i _ s).trans (.setTracker i _ _)
  · exact endAttack_touches i _ s
  · exact .refl i s
  · exact .refl i s

theorem onString_touches (i : StringNo) (s : State) : OneTracker i s (onString i s) := by
  unfold onString
  split
  · exact .setTracker i _ s
  · exact .refl i s

/-! ## Where the tracker stands -/

/-- The end of a note leaves the tracker's state, closes its context and discards no attack peak (R84). -/
theorem endNote_state (i : StringNo) (cause : EndCause) (s : State) :
    ((endNote i cause s).string i).tracker.state = (s.string i).tracker.state := by
  unfold endNote
  split
  · rfl
  · simp only [State.modifyString_string, StringBlock.closeContext_tracker]
    split
    · unfold laterMessage
      split
      · rfl
      · split
        · rw [(crossTracker_queuesOnly i _ _ _ s).string]
        · rfl
    · rfl

/-- After the end of a note no context is open (R84). -/
theorem endNote_context (i : StringNo) (cause : EndCause) (s : State) :
    ((endNote i cause s).string i).tracker.context = none := by
  unfold endNote
  split
  · assumption
  · simp

end Sys2Proof.Machine
end

