-- ==== Sys2Proof/Laws/Timers.lean ====
section
/-!
SUPPORT. What one receiver's share of a tick can do: it touches its own string, the message queues, the counters, the reply
queue and the flags, and nothing else.
-/

namespace Sys2Proof.Machine

/-- Outside one string, the three queues, the counter sets and the status unit, everything is as it stood. -/
structure OneString (i : StringNo) (s t : State) : Prop where
  plu : t.plu = s.plu
  slu : t.slu = s.slu
  divider : t.divider = s.divider
  tables : t.tables = s.tables
  numbering : t.numbering = s.numbering
  countPoint : t.rc.countPoint = s.rc.countPoint
  lane : t.lane = s.lane
  cu : t.cu = s.cu
  mask : t.su.mask = s.su.mask
  pending : t.pending = s.pending
  others : ∀ j, j ≠ i → t.string j = s.string j
  crosstalk : (t.string i).crosstalk = (s.string i).crosstalk
  profile : (t.string i).profile = (s.string i).profile
  grid : (t.string i).grid = (s.string i).grid
  action : (t.string i).action = (s.string i).action
  /-- of the input stage only the trough may change -/
  stage : (t.string i).stage.withoutTrough = (s.string i).stage.withoutTrough

theorem OneString.refl (i : StringNo) (s : State) : OneString i s s :=
  ⟨rfl, rfl, rfl, rfl, rfl, rfl, rfl, rfl, rfl, rfl, fun _ _ => rfl, rfl, rfl, rfl, rfl, rfl⟩

theorem OneString.trans {i : StringNo} {s t u : State} (h : OneString i s t) (k : OneString i t u) : OneString i s u :=
  ⟨k.plu.trans h.plu, k.slu.trans h.slu, k.divider.trans h.divider, k.tables.trans h.tables, k.numbering.trans h.numbering,
    k.countPoint.trans h.countPoint, k.lane.trans h.lane, k.cu.trans h.cu, k.mask.trans h.mask, k.pending.trans h.pending,
    fun j hj => (k.others j hj).trans (h.others j hj), k.crosstalk.trans h.crosstalk, k.profile.trans h.profile,
    k.grid.trans h.grid, k.action.trans h.action, k.stage.trans h.stage⟩

theorem OneTracker.oneString {i : StringNo} {s t : State} (h : OneTracker i s t) : OneString i s t :=
  ⟨h.plu, h.slu, h.divider, h.tables, h.numbering, h.countPoint, h.lane, h.cu, h.mask, h.pending, h.others, h.crosstalk,
    h.profile, h.grid, h.action, h.stage⟩

theorem OneRecord.oneString {i : StringNo} {s t : State} (h : OneRecord i s t) : OneString i s t :=
  ⟨h.plu, h.slu, h.divider, h.tables, h.numbering, by rw [h.rc], h.lane, h.cu, h.mask, h.pending, h.others, by rw [h.block],
    by rw [h.block], by rw [h.block], by rw [h.block], by rw [h.block]⟩

/-- A change of one string that keeps its settings and grid. -/
theorem OneString.modifyString (i : StringNo) (f : StringBlock → StringBlock) (s : State)
    (h : ∀ b : StringBlock, (f b).crosstalk = b.crosstalk ∧ (f b).profile = b.profile ∧ (f b).grid = b.grid ∧
      (f b).action = b.action ∧ (f b).stage.withoutTrough = b.stage.withoutTrough) :
    OneString i s (s.modifyString i f) := by
  obtain ⟨h1, h2, h3, h4, h5⟩ := h (s.string i)
  constructor <;> first | rfl | simpa | (intro j hj; simp [hj])

theorem OneString.modifyTimers (i : StringNo) (f : Timers → Timers) (s : State) : OneString i s (s.modifyTimers i f) :=
  .modifyString i _ s fun _ => ⟨rfl, rfl, rfl, rfl, rfl⟩

theorem OneString.modifyTicked (i : StringNo) (f : TickTaken → TickTaken) (s : State) : OneString i s (s.modifyTicked i f) :=
  .modifyString i _ s fun _ => ⟨rfl, rfl, rfl, rfl, rfl⟩

theorem attackTick_touches (i : StringNo) (s : State) : OneString i s (attackTick i s) := by
  unfold attackTick
  simp only
  split
  · exact (OneString.modifyTimers i _ s).trans (takeGiveUp_touches i _).oneString
  · split
    · exact (OneString.modifyTimers i _ s).trans (takeEarlyPoint_touches i _).oneString
    · exact .modifyTimers i _ s

theorem releaseTick_touches (i : StringNo) (s : State) : OneString i s (releaseTick i s) := by
  unfold releaseTick
  simp only
  split
  · exact (OneString.modifyTimers i _ s).trans (takeReleaseExpiry_touches i _).oneString
  · exact .modifyTimers i _ s

theorem updateTick_touches (i : StringNo) (s : State) : OneString i s (updateTick i s) := by
  unfold updateTick
  simp only
  split
  · exact (OneString.modifyTimers i _ s).trans (takeUpdateExpiry_touches i _).oneString
  · exact .modifyTimers i _ s

theorem attackOnce_touches (i : StringNo) (s : State) : OneString i s (attackOnce i s) := by
  unfold attackOnce
  split
  · exact .refl i s
  · exact (OneString.modifyTicked i _ s).trans (attackTick_touches i _)

theorem releaseOnce_touches (i : StringNo) (s : State) : OneString i s (releaseOnce i s) := by
  unfold releaseOnce
  split
  · exact .refl i s
  · exact (OneString.modifyTicked i _ s).trans (releaseTick_touches i _)

theorem updateOnce_touches (i : StringNo) (s : State) : OneString i s (updateOnce i s) := by
  unfold updateOnce
  split
  · exact .refl i s
  · exact (OneString.modifyTicked i _ s).trans (updateTick_touches i _)

theorem recordOnce_touches (i : StringNo) (s : State) : OneString i s (recordOnce i s) := by
  unfold recordOnce
  split
  · exact .refl i s
  · exact (OneString.modifyTicked i _ s).trans (recordTick_touches i _).oneString

theorem quietTimers_touches (i : StringNo) (s : State) : OneString i s (quietTimers i s) := by
  have skip (c : Bool) (f : State → State) (hf : ∀ r, OneString i r (f r)) (r : State) (h : OneString i s r) :
      OneString i s (if c = true then r else f r) := by
    split
    · exact h
    · exact h.trans (hf r)
  exact skip _ _ (updateOnce_touches i) _ (skip _ _ (releaseOnce_touches i) _
    (skip _ _ (attackOnce_touches i) _ (.refl i s)))

/-- The whole of a tick's delivery to one string touches that string, the queues, the counters and the flags (R68). -/
theorem stringTick_touches (i : StringNo) (s : State) : OneString i s (stringTick i s) :=
  ((((quietTimers_touches i s).trans (attackOnce_touches i _)).trans (releaseOnce_touches i _)).trans
    (updateOnce_touches i _)).trans (recordOnce_touches i _)

end Sys2Proof.Machine
end

