-- ==== Sys2Proof/Laws/Arrival.lean ====
section
/-!
SUPPORT. What one string's part of a frame arrival can do: its stage takes the step of R20 on the samples of the frame, and
the reports then touch that string, the queues, the counters and the flags alone.
-/

namespace Sys2Proof.Machine

theorem followPeak_touches (i : StringNo) (s : State) : OneString i s (followPeak i s) := by
  refine .modifyString i _ s fun b => ?_
  split <;> exact ⟨rfl, rfl, rfl, rfl, rfl⟩

theorem takePeriod_touches (i : StringNo) (p : Nat) (s : State) : OneString i s (takePeriod i p s) := by
  unfold takePeriod
  refine (OneString.modifyString i _ s fun _ => ?_).trans
    ((takeOutcome_touches i _ _ _).oneString.trans (recordPeriod_touches i p _).oneString)
  exact ⟨rfl, rfl, rfl, rfl, rfl⟩

/-- Delivering the reports of a stage leaves the stage, but for the trough, as the run left it (R20, step 8). -/
theorem deliverReports_touches (i : StringNo) (edge : Option Edge) (period : Option Nat) (s : State) :
    OneString i s (deliverReports i edge period s) := by
  have edged (e : Option Edge) : OneString i s (match e with
      | some e => takeEdge i e s
      | none => s) := by
    cases e
    · exact .refl i s
    · exact (takeEdge_touches i _ s).oneString
  cases period
  · exact edged edge
  · exact (edged edge).trans (takePeriod_touches i _ _)

@[simp] theorem leaveStage_plu (i : StringNo) (r : StageReport) (s : State) : (leaveStage i r s).plu = s.plu := rfl

@[simp] theorem leaveStage_handed (i : StringNo) (r : StageReport) (s : State) :
    (leaveStage i r s).slu = { s.slu with handed := s.slu.handed.set i r.handed } := rfl

@[simp] theorem leaveStage_string (i : StringNo) (r : StageReport) (s : State) :
    (leaveStage i r s).string i = { s.string i with stage := r.stage } :=
  State.modifyString_string i (fun b => { b with stage := r.stage }) s

theorem leaveStage_string_other {i j : StringNo} (r : StageReport) (s : State) (h : j ≠ i) :
    (leaveStage i r s).string j = s.string j :=
  State.modifyString_string_other (fun b => { b with stage := r.stage }) s h

/-- One string's part of a frame arrival leaves every other string, the pickup link and the settings as they stood. -/
theorem stringArrival_frame (samples : PerString Word) (i : StringNo) (s : State) :
    (stringArrival samples i s).plu = s.plu ∧
      (stringArrival samples i s).slu =
        { s.slu with handed := s.slu.handed.set i (runStage samples s.plu.frameNo i (s.string i)).handed } ∧
      (∀ j, j ≠ i → (stringArrival samples i s).string j = s.string j) ∧
      ((stringArrival samples i s).string i).stage.withoutTrough =
        (runStage samples s.plu.frameNo i (s.string i)).stage.withoutTrough := by
  unfold stringArrival
  have h := (followPeak_touches i (leaveStage i (runStage samples s.plu.frameNo i (s.string i)) s)).trans
    (deliverReports_touches i (runStage samples s.plu.frameNo i (s.string i)).edge
      (runStage samples s.plu.frameNo i (s.string i)).period _)
  refine ⟨h.plu, h.slu, fun j hj => (h.others j hj).trans (leaveStage_string_other _ s hj), ?_⟩
  have hs := h.stage
  rw [leaveStage_string] at hs
  exact hs

end Sys2Proof.Machine
end

