-- ==== Sys2Proof/Laws/Commands.lean ====
section
/-!
SUPPORT. What the command unit makes of a whole command: how its words are read back, what collecting them leaves, and what
executing, holding or discarding it does. Later proofs cite these in place of unfolding the collection.
-/

namespace Sys2Proof.Machine

/-! ## Reading the words of a command -/

@[simp] theorem isHeader_headerWord (code : BitVec 7) (count : Nat) : isHeader (headerWord code count) = true := by
  have h : headerWord code count = BitVec.ofNat 16 (2 ^ 15 + (code.toNat * 256 + count % 256)) := by
    have hc := code.isLt
    simp only [headerWord, field]
    congr 1
    omega
  have hc := code.isLt
  rw [h, isHeader, BitVec.getLsbD_ofNat]
  simp only [show (15 < 16) from by decide, decide_true, Bool.true_and]
  rw [Nat.testBit_two_pow_add_eq]
  simp only [Bool.not_eq_true']
  exact Nat.testBit_lt_two_pow (by omega)

@[simp] theorem headerCode_headerWord (code : BitVec 7) (count : Nat) : headerCode (headerWord code count) = code := by
  have hc := code.isLt
  apply BitVec.eq_of_toNat_eq
  simp only [headerCode, headerWord, field, fieldOf, BitVec.toNat_ofNat]
  omega

@[simp] theorem headerCount_headerWord (code : BitVec 7) (count : Nat) :
    headerCount (headerWord code count) = count % 256 := by
  have hc := code.isLt
  simp only [headerCount, headerWord, field, fieldOf, BitVec.toNat_ofNat]
  omega

@[simp] theorem isHeader_continuation (p : Payload) : isHeader (continuation p) = false := by
  simp [isHeader, continuation]

@[simp] theorem payload_continuation (p : Payload) : (continuation p).setWidth 15 = p := by
  apply BitVec.eq_of_toNat_eq
  have := p.isLt
  simp only [continuation, BitVec.toNat_setWidth]
  omega

/-! ## Collecting -/

/-- The buffer after a run of parameter words. -/
def CommandBuffer.consumeAll : List Payload → CommandBuffer → CommandBuffer
  | [], b => b
  | p :: rest, b => CommandBuffer.consumeAll rest (b.consume p)

@[simp] theorem CommandBuffer.consume_received (p : Payload) (b : CommandBuffer) : (b.consume p).received = b.received + 1 := by
  unfold CommandBuffer.consume; split <;> rfl

@[simp] theorem CommandBuffer.consume_declared (p : Payload) (b : CommandBuffer) : (b.consume p).declared = b.declared := by
  unfold CommandBuffer.consume; split <;> rfl

/-- Taking a command does not read the collection state it replaces. -/
theorem takeCommand_ignores_cu (b : CommandBuffer) (c : CommandUnit) (s : State) :
    takeCommand b { s with cu := c } = takeCommand b s := rfl

/-- Words that bring the received count to the declared one are collected, and the command is then taken. -/
theorem collect_takes (params : List Payload) (b : CommandBuffer) (s : State) (hcu : s.cu = .collecting b)
    (hlen : b.received + params.length = b.declared) (hpos : params ≠ []) :
    (params.map continuation).foldl (fun t w => takeWord w t) s = takeCommand (b.consumeAll params) s := by
  induction params generalizing b s with
  | nil => exact absurd rfl hpos
  | cons p rest ih =>
    simp only [List.map_cons, List.foldl_cons, CommandBuffer.consumeAll]
    have htake : takeWord (continuation p) s =
        if (b.consume p).received = (b.consume p).declared then takeCommand (b.consume p) s
        else { s with cu := .collecting (b.consume p) } := by
      simp only [takeWord, hcu, isHeader_continuation, payload_continuation]
      rfl
    cases rest with
    | nil =>
      rw [htake]
      simp only [List.length_cons, List.length_nil] at hlen
      simp [CommandBuffer.consumeAll, hlen]
    | cons q more =>
      simp only [List.length_cons] at hlen
      rw [htake, if_neg (by simp; omega), ih (b.consume p) _ rfl (by simp; omega) (by simp)]
      exact takeCommand_ignores_cu _ _ s

/-- A buffer that has room keeps every word of a run; beyond 128 words it keeps the first 128 and is marked (R165). -/
theorem CommandBuffer.consumeAll_eq (params : List Payload) (b : CommandBuffer) (hb : b.stored.length = min b.received 128)
    (ho : b.overflow = decide (128 < b.received)) :
    b.consumeAll params =
      { b with received := b.received + params.length, stored := (b.stored ++ params).take 128
               overflow := decide (128 < b.received + params.length) } := by
  induction params generalizing b with
  | nil =>
    simp only [CommandBuffer.consumeAll, List.length_nil, Nat.add_zero, List.append_nil]
    rw [List.take_of_length_le (by omega)]
    cases b; simp_all
  | cons p rest ih =>
    simp only [CommandBuffer.consumeAll, List.length_cons]
    by_cases h : b.received + 1 ≤ 128
    · have hc : b.consume p = { b with received := b.received + 1, stored := b.stored ++ [p] } := by
        simp [CommandBuffer.consume, Config.bufferSize, h]
      rw [ih _ (by rw [hc]; simp; omega) (by rw [hc]; simp [ho]; omega), hc]
      simp only [List.append_assoc, List.cons_append, List.nil_append]
      congr 1
      · omega
      · congr 1; apply propext; omega
    · have hc : b.consume p = { b with received := b.received + 1, overflow := true } := by
        simp [CommandBuffer.consume, Config.bufferSize, h]
      rw [ih _ (by rw [hc]; simp; omega) (by rw [hc]; simp; omega), hc]
      simp only
      congr 1
      · omega
      · rw [List.take_append_of_le_length (by omega), List.take_append_of_le_length (by omega)]
      · congr 1; apply propext; omega

/-- The buffer of a command whose words have all come. -/
def wholeBuffer (code : BitVec 7) (params : List Payload) : CommandBuffer :=
  ⟨code, params.length, params.length, params.take 128, decide (128 < params.length)⟩

/-- A command's words reaching a READY command unit with the synth link UP take the command (R164, R165, R167). -/
theorem sendCommand_ready (code : BitVec 7) (params : List Payload) (s : State) (hup : s.slu.link = .up) (hcu : s.cu = .ready)
    (hlen : params.length ≤ 255) : sendCommand code params s = takeCommand (wholeBuffer code params) s := by
  have hmod : params.length % 256 = params.length := Nat.mod_eq_of_lt (by omega)
  simp only [sendCommand, hup, commandWords, List.foldl_cons, if_true]
  have hstart : takeWord (headerWord code params.length) s = startCommand code params.length s := by
    simp [takeWord, hcu, hmod]
  rw [hstart]
  cases params with
  | nil => simp [startCommand, wholeBuffer]
  | cons p rest =>
    have hne : (p :: rest).length ≠ 0 := by simp
    rw [show startCommand code (p :: rest).length s
        = { s with cu := .collecting ⟨code, (p :: rest).length, 0, [], false⟩ } from by simp [startCommand]]
    rw [collect_takes (p :: rest) ⟨code, (p :: rest).length, 0, [], false⟩ _ rfl (by simp) (by simp),
      CommandBuffer.consumeAll_eq _ _ (by simp) (by simp)]
    simp only [wholeBuffer, Nat.zero_add, List.nil_append]
    exact takeCommand_ignores_cu _ _ s

/-- With a free reply slot the command is executed. -/
theorem sendCommand_executes (code : BitVec 7) (params : List Payload) (s : State) (hup : s.slu.link = .up)
    (hcu : s.cu = .ready) (hslot : s.rq.length < 8) (hlen : params.length ≤ 255) :
    sendCommand code params s = execute (wholeBuffer code params) s := by
  rw [sendCommand_ready code params s hup hcu hlen]
  simp [takeCommand, State.replySlotFree, Config.replyQueueSize, hslot]

/-- With no free reply slot the command is held (R167). -/
theorem sendCommand_held (code : BitVec 7) (params : List Payload) (s : State) (hup : s.slu.link = .up)
    (hcu : s.cu = .ready) (hfull : 8 ≤ s.rq.length) (hlen : params.length ≤ 255) :
    sendCommand code params s = { s with cu := .held (wholeBuffer code params) } := by
  rw [sendCommand_ready code params s hup hcu hlen]
  simp [takeCommand, State.replySlotFree, Config.replyQueueSize, Nat.not_lt.mpr hfull]

/-- While the synth link is SEARCHING no command word reaches the command unit (R1). -/
theorem sendCommand_searching (code : BitVec 7) (params : List Payload) (s : State) (h : s.slu.link = .searching) :
    sendCommand code params s = s := by
  simp [sendCommand, h]

/-! ## Executing -/

/-- The code list answers each command for its own code (R173). -/
@[simp] theorem commandOf_code (c : Command) : commandOf c.code = some c := by
  cases c <;> rfl

/-- A listed command of an allowed count runs its own checks and effects (R171). -/
theorem runBuffer_allowed (c : Command) (params : List Payload) (s : State) (hlen : params.length ≤ 128)
    (hcount : c.countAllowed params.length = true) : runBuffer (wholeBuffer c.code params) s = c.run params s := by
  simp [runBuffer, wholeBuffer, hcount, List.take_of_length_le hlen, Nat.not_lt.mpr hlen]

/-- A listed command of a count the list does not allow is refused with LENGTH (R173). -/
theorem runBuffer_length (c : Command) (params : List Payload) (s : State)
    (hcount : 128 < params.length ∨ c.countAllowed params.length = false) :
    runBuffer (wholeBuffer c.code params) s = refuse .length s := by
  simp only [runBuffer, wholeBuffer, commandOf_code]
  rcases hcount with h | h <;> simp [h]

/-- The whole course of a listed command of an allowed count, taken with a free reply slot by a READY command unit: it runs,
its reply is placed, and the measurements it aborted seek slots after it (R158, R167, R171, R175). -/
theorem sendCommand_runs (c : Command) (params : List Payload) (s : State) (hup : s.slu.link = .up) (hcu : s.cu = .ready)
    (hslot : s.rq.length < 8) (hlen : params.length ≤ 128) (hcount : c.countAllowed params.length = true) :
    sendCommand c.code params s =
      forStrings (c.run params s).aborted seekSlot ((c.run params s).state.placeReply ⟨c.code, (c.run params s).reply⟩) := by
  have hs : { s with cu := .ready } = s := by cases s; simp_all
  rw [sendCommand_executes c.code params s hup hcu hslot (by omega)]
  simp only [execute, hs]
  rw [runBuffer_allowed c params s hlen hcount]
  rfl

end Sys2Proof.Machine
end

