-- ==== Sys2Proof/Laws/Links.lean ====
section
/-!
SUPPORT. What doing a part of a frame period can do: it is marked done in the period at hand or begins the next one, it touches
the samples handed over and nothing else, and the three parts of one period may be done in any order (R1).
-/

namespace Sys2Proof.Machine

@[simp] theorem PartsDone.has_nothing (p : PeriodPart) : PartsDone.nothing.has p = false := by cases p <;> rfl

@[simp] theorem PartsDone.has_mark_self (d : PartsDone) (p : PeriodPart) : (d.mark p).has p = true := by cases p <;> rfl

@[simp] theorem PartsDone.has_mark_other (d : PartsDone) {p q : PeriodPart} (h : q ≠ p) : (d.mark p).has q = d.has q := by
  cases p <;> cases q <;> first | rfl | exact absurd rfl h

/-- All that doing a part can do: mark it in the period at hand, or begin the next period with it. -/
theorem Slu.doPart_cases (p : PeriodPart) (u : Slu) :
    (u.done.has p = false ∧ u.doPart p = { u with done := u.done.mark p }) ∨
    (u.done.has p = true ∧
      u.doPart p = { u with handedBefore := u.handed, handed := .const 0, done := PartsDone.nothing.mark p }) := by
  unfold Slu.doPart
  split <;> rename_i h
  · exact .inr ⟨h, rfl⟩
  · exact .inl ⟨Bool.eq_false_iff.mpr h, rfl⟩

@[simp] theorem Slu.doPart_link (p : PeriodPart) (u : Slu) : (u.doPart p).link = u.link := by unfold Slu.doPart; split <;> rfl
@[simp] theorem Slu.doPart_syncRun (p : PeriodPart) (u : Slu) : (u.doPart p).syncRun = u.syncRun := by
  unfold Slu.doPart; split <;> rfl
@[simp] theorem Slu.doPart_missing (p : PeriodPart) (u : Slu) : (u.doPart p).missing = u.missing := by
  unfold Slu.doPart; split <;> rfl
@[simp] theorem Slu.doPart_hold (p : PeriodPart) (u : Slu) : (u.doPart p).hold = u.hold := by unfold Slu.doPart; split <;> rfl
@[simp] theorem Slu.doPart_lossPending (p : PeriodPart) (u : Slu) : (u.doPart p).lossPending = u.lossPending := by
  unfold Slu.doPart; split <;> rfl
@[simp] theorem Slu.doPart_sent (p : PeriodPart) (u : Slu) : (u.doPart p).sent = u.sent := by unfold Slu.doPart; split <;> rfl

/-- A part done is done in the period at hand. -/
@[simp] theorem Slu.doPart_has (p : PeriodPart) (u : Slu) : (u.doPart p).done.has p = true := by
  unfold Slu.doPart; split <;> simp

/-- Two parts that the period at hand still lacks may be done in either order (R1). -/
theorem Slu.doPart_comm {p q : PeriodPart} (u : Slu) (hp : u.done.has p = false) (hq : u.done.has q = false) :
    (u.doPart p).doPart q = (u.doPart q).doPart p := by
  rcases eq_or_ne p q with rfl | h
  · rfl
  · have both : (u.done.mark p).mark q = (u.done.mark q).mark p := by cases p <;> cases q <;> rfl
    simp [Slu.doPart, hp, hq, PartsDone.has_mark_other _ h, PartsDone.has_mark_other _ h.symm, both]

/-- Doing a part touches the synth link's own state alone. -/
@[simp] theorem State.doPart_slu (p : PeriodPart) (s : State) : (s.doPart p).slu = s.slu.doPart p := rfl
@[simp] theorem State.doPart_plu (p : PeriodPart) (s : State) : (s.doPart p).plu = s.plu := rfl
@[simp] theorem State.doPart_strings (p : PeriodPart) (s : State) : (s.doPart p).strings = s.strings := rfl
@[simp] theorem State.doPart_string (p : PeriodPart) (s : State) (i : StringNo) : (s.doPart p).string i = s.string i := rfl
@[simp] theorem State.doPart_divider (p : PeriodPart) (s : State) : (s.doPart p).divider = s.divider := rfl
@[simp] theorem State.doPart_tables (p : PeriodPart) (s : State) : (s.doPart p).tables = s.tables := rfl
@[simp] theorem State.doPart_numbering (p : PeriodPart) (s : State) : (s.doPart p).numbering = s.numbering := rfl
@[simp] theorem State.doPart_rc (p : PeriodPart) (s : State) : (s.doPart p).rc = s.rc := rfl
@[simp] theorem State.doPart_eq (p : PeriodPart) (s : State) : (s.doPart p).eq = s.eq := rfl
@[simp] theorem State.doPart_mq (p : PeriodPart) (s : State) : (s.doPart p).mq = s.mq := rfl
@[simp] theorem State.doPart_rq (p : PeriodPart) (s : State) : (s.doPart p).rq = s.rq := rfl
@[simp] theorem State.doPart_lane (p : PeriodPart) (s : State) : (s.doPart p).lane = s.lane := rfl
@[simp] theorem State.doPart_cu (p : PeriodPart) (s : State) : (s.doPart p).cu = s.cu := rfl
@[simp] theorem State.doPart_su (p : PeriodPart) (s : State) : (s.doPart p).su = s.su := rfl
@[simp] theorem State.doPart_pending (p : PeriodPart) (s : State) : (s.doPart p).pending = s.pending := rfl

end Sys2Proof.Machine
end

