-- ==== Sys2Proof/WellFormed.lean ====
section
/-!
DEFINITION. When a command can be spelled on the link. A header announces at most 255 parameter words (10_commands.md,
"Parameter count"), an UNKNOWN command's code is not in the code list (R172, R173), and an arrival order names no string
twice. Every other limit of an operand is carried by its type.
-/

namespace Sys2Proof

/-- The codes of the code list (R173). -/
def listedCodes : List (BitVec 7) :=
  [0x01, 0x02, 0x03, 0x04, 0x05, 0x06, 0x08, 0x09, 0x0A, 0x0B, 0x0C, 0x10, 0x11, 0x12, 0x14, 0x15, 0x16,
   0x20, 0x21, 0x22, 0x23, 0x24, 0x25, 0x26, 0x27, 0x30, 0x31, 0x32, 0x33]

/-- A header's parameter count is 0..255. -/
def countFits (params : List Payload) : Bool := params.length ≤ 255

/-- An arrival order names each string at most once. -/
def orderNamesOnce (order : List StringNo) : Bool := decide order.Nodup

/-- The command can be spelled on the link. -/
def Instr.wellFormed : Instr → Bool
  | .powerOn => true
  | .pickupFrameSlot _ order => orderNamesOnce order
  | .pickupTeardown => true
  | .measureComplete _ _ order => orderNamesOnce order
  | .downstreamFrame _ => true
  | .synthLinkLoss => true
  | .upstreamFrame => true
  | .resultGrant => true
  | .tick => true
  | .earlyPoint _ => true
  | .giveUp _ => true
  | .releaseExpiry _ => true
  | .updateExpiry _ => true
  | .measureTimeout _ => true
  | .unknownCommand code params => !listedCodes.contains code && countFits params
  | .loadGrid params => countFits params
  | .loadProfile params => countFits params
  | .loadAction params => countFits params
  | .loadMap params => countFits params
  | .clearMap params => countFits params
  | .loadCrosstalk params => countFits params
  | .setTick params => countFits params
  | .setNumbering params => countFits params
  | .setStyle params => countFits params
  | .setFlagMask params => countFits params
  | .setCountPoint params => countFits params
  | .stringOn params => countFits params
  | .stringOff params => countFits params
  | .allNotesEnd params => countFits params
  | .measure params => countFits params
  | .measureCancel params => countFits params
  | .inject params => countFits params
  | .readStatus params => countFits params
  | .readString params => countFits params
  | .readGrid params => countFits params
  | .readMap params => countFits params
  | .readAction params => countFits params
  | .readProfile params => countFits params
  | .readCounters params => countFits params
  | .readStatusCounters params => countFits params
  | .clearFlags params => countFits params
  | .clearCounters params => countFits params
  | .restoreDefaults params => countFits params
  | .restart params => countFits params

end Sys2Proof
end

