-- ==== Sys2Proof/Tests/Slice0.lean ====
section
/-!
SUPPORT. Tests of the model against figures the spec works out, one smoke test for each check of WellFormed, and, for each
statement of Certificates/Slice0 that has hypotheses, a witness that meets them. Each test names the place of its figures.
-/

namespace Sys2Proof.Tests

open Sys2Proof.Machine Sys2Proof.Safety

/-! ## Helpers -/

/-- The state a command leaves. -/
def after (c : Instr) (s : State) : State :=
  match exec c s with
  | .next t => t
  | .fault _ => s
  | .refused _ => s

/-- Power-on with both links UP. -/
def live : State :=
  { State.reset with
    plu := { State.reset.plu with link := .up, lastGood := some ⟨.const 0, 0⟩ }, slu := { State.reset.slu with link := .up } }

/-- A state with the blocks of one string changed. -/
def put (i : StringNo) (f : StringBlock → StringBlock) (s : State) : State := { s with strings := s.strings.set i (f (s.string i)) }

/-- The first entries of the low E grid of 12_worked_sequences.md. -/
def lowE : Grid := ⟨40, [149114, 140744, 132844, 125388]⟩

/-- The context of a FULL note 40 of the power-on action entry, announced. -/
def note40 : NoteContext :=
  { note := 40, pvComputed := 2560, pvQueued := none, grade := 49, cause := .picked, early := false, announced := true
    monitored := false, bankB := false, form := .note, peak := 12000
    latched := ⟨.full, .pass, 2, .glide, .powerOn, .powerOn, 0, 0, none, some 6⟩ }

/-- String 6 sounds an announced FULL note, its update scheduler at 16. -/
def playing : State :=
  put .s6 (fun b => { b with
    grid := some lowE, stage := { b.stage with trough := some 12000, e := 12000, gate := .shut }
    validator := ⟨some 149050, none, 0, [⟨149000, .lock⟩, ⟨149100, .unlocked⟩]⟩
    timers := { b.timers with update := ⟨true, 16, 16, 4⟩ }, tracker := ⟨.sounding, some note40, 0⟩ })
    { live with eq := ⟨[], 1⟩ }

/-- A RESTRIKE message of a string. -/
def stroke (i : StringNo) : Message := ⟨i, i.number, false, false, .restrike 100⟩

/-- A good pickup frame with the same sample on every string. -/
def goodSlot (w : Word) (parity : Bool) : PickupFrame := ⟨true, .const ⟨w, parity⟩, ⟨0, false⟩⟩

/-- A pickup frame slot in which nothing arrives. -/
def badSlot : PickupFrame := ⟨false, .const ⟨0, false⟩, ⟨0, false⟩⟩

/-- A downstream frame with its sync mark and a command word. -/
def carrying (w : Word) : DownstreamFrame := ⟨true, 0x4000, w⟩

/-! ## WellFormed refuses -/

theorem test_wellFormed_refuses_a_count_above_255 : (Instr.setTick (List.replicate 256 0)).wellFormed = false := by
  decide +kernel

theorem test_wellFormed_refuses_a_listed_code_as_unknown : (Instr.unknownCommand 0x33 []).wellFormed = false := by decide

theorem test_wellFormed_refuses_an_order_that_repeats_a_string :
    (Instr.pickupFrameSlot badSlot [.s2, .s1, .s2]).wellFormed = false := by decide

theorem test_wellFormed_takes_the_limits :
    (Instr.setTick (List.replicate 255 0)).wellFormed = true ∧ (Instr.unknownCommand 0x34 []).wellFormed = true := by
  decide +kernel

theorem test_no_table_word_spells_a_command : decodeTableWord 16 0x8801 = none := by decide

/-! ## Input stage, validator, pitch and grade (02, 03, 04) -/

/-- 02_string_input_stage.md, the two figures after R21. -/
theorem test_crosstalk_figures :
    correctedSample ⟨0, -4000, 10000, 8000, 0, 0⟩ ⟨-6, 20⟩ .s3 = 9282 ∧
    correctedSample ⟨0, 0, 0, 0, -32000, 32767⟩ ⟨0, 127⟩ .s5 = -32768 := by decide

/-- R23 and R24, their figures. -/
theorem test_filter_and_envelope_figures :
    filterValue 2 1000 9282 = 3070 ∧ filterValue 2 0 (-1001) = -251 ∧ envelopeValue 8 0 9000 = 8965 := by decide

/-- 02_string_input_stage.md, "Timing a crossing on string 4", arrivals 501 and 503; the wrap of time. -/
theorem test_crossing_times : crossingTime 501 (-10) 30 = 128064 ∧ crossingTime 503 (-5) 12 = 128587 := by decide

/-- The same example's period, the harmonic's second commit, and the period across the wrap. -/
theorem test_raw_periods :
    (deliverPeriod 504 (some 128587) { InputStage.powerOn with committed := some 24587 }).2 = some 104000 ∧
    (deliverPeriod 513 (some 131000) { InputStage.powerOn with committed := some 128587 }) =
      ({ InputStage.powerOn with committed := some 128587 }, none) ∧
    (deliverPeriod 0 (some 97000) { InputStage.powerOn with committed := some 4294960000 }).2 = some 104296 := by decide

/-- A validator that takes raw periods one after another under the power-on profile. -/
def fed (v : Validator) (periods : List Nat) : Validator := periods.foldl (fun v p => (v.take .powerOn p).validator) v

/-- 03_period_validation_and_lock.md, the first three sequences: LOCK, GLIDE, MISS, MERGE, MISS, JUMP, GLIDE. -/
theorem test_worked_validator :
    fed .cleared [111900, 111500, 111800, 47300, 64520] = ⟨some 111785, none, 0,
      [⟨111820, .merge⟩, ⟨111800, .glide⟩, ⟨111500, .lock⟩, ⟨111900, .unlocked⟩]⟩ ∧
    (fed .cleared [111900, 111500, 111800, 47300, 64520, 99600, 99480, 99530]).accepted = some 99535 := by decide

/-- The fourth sequence: LOST, and the ring after the new LOCK. -/
theorem test_lost_and_new_lock :
    fed .cleared [111900, 111500, 111800, 47300, 64520, 99600, 99480, 99530, 61000, 150200, 83900, 240000, 98000, 97900] =
      ⟨some 97950, none, 0, [⟨97900, .lock⟩, ⟨98000, .unlocked⟩, ⟨240000, .lost⟩, ⟨83900, .miss⟩, ⟨150200, .miss⟩,
        ⟨61000, .miss⟩, ⟨99530, .glide⟩, ⟨99480, .jump⟩]⟩ := by decide

/-- 04_pitch_grids.md, steps 4 and 5, and the bends of 12_worked_sequences.md. -/
theorem test_lookups :
    lowE.lookup 149246 = (.under, 2560) ∧ lowE.lookup 149023 = (.within, 2560) ∧
    lowE.lookup 131420 = (.within, 2700) ∧ lowE.lookup 127855 = (.within, 2730) := by decide

/-- The table after R65. -/
theorem test_grades : [0, 3, 4, 8, 384, 1024, 1536, 9000, 16384, 32767, 32768].map gradeOf =
    [0, 3, 4, 8, 30, 36, 38, 48, 52, 55, 56] := by decide

/-! ## Stimuli and what happens inside them -/

/-- One step takes the front command; with none waiting nothing changes. -/
theorem test_step_takes_the_front_command :
    (match step { live with pending := [.setTick [23], .tick] } with
     | .next t => (t.divider.tickBase, t.pending)
     | .fault _ => (0, [])
     | .refused _ => (0, [])) = (23, [.tick]) := by decide

/-- R70 and R7: power-on values after a command has changed one and a note is open. -/
theorem test_powerOn :
    (after .powerOn (after (.setTick [23]) playing)).divider = ⟨11, 11⟩ ∧
    ((after .powerOn playing).string .s6).tracker = ⟨.muted, none, 0⟩ := by decide

/-- R3: the sixteenth good frame in a row takes the link to UP. R2: one wrong parity bit makes a frame bad. -/
theorem test_pickup_searching :
    let s := { live with plu := ⟨.searching, 15, 0, none, 0, 0⟩ }
    (after (.pickupFrameSlot (goodSlot 0x8001 false) []) s).plu.link = .up ∧
    (after (.pickupFrameSlot (goodSlot 0x8001 true) []) s).plu = ⟨.searching, 0, 0, none, 0, 0⟩ := by decide

/-- 01_links_frames_and_formats.md, "A burst of bad pickup frames", slots k and k+2. -/
theorem test_pickup_burst :
    let s := after (.pickupFrameSlot badSlot []) live
    (s.plu.link, s.plu.badRun, s.su.counters[0]?, s.su.flags) = (.holding, 1, some 1, 1) ∧
    (after (.pickupFrameSlot (goodSlot 7 true) []) s).plu =
      ⟨.up, 0, 0, some ⟨.const 7, 0⟩, 0, 2⟩ := by decide

/-- 12_worked_sequences.md, "A pickup link fault": the part at the seventh bad frame. -/
def faulted : State :=
  let pitch6 : Message := ⟨.s6, 6, false, false, .pitch .glide 40 0⟩
  let gate : NoteContext := { note40 with announced := false, latched := { note40.latched with style := .gate } }
  let counting := fun n sum low high : Nat => (⟨.running, 8, 800, n, sum, some low, some high, 0, none⟩ : Measurement)
  put .s1 (fun b => { b with record := counting 5 186410 37270 37300 })
    (put .s2 (fun b => { b with tracker := ⟨.attack, none, 3000⟩ })
      (put .s3 (fun b => { b with tracker := ⟨.sounding, some note40, 0⟩, stage := { b.stage with trough := some 0 } })
        (put .s4 (fun b => { b with tracker := ⟨.sounding, some gate, 0⟩, stage := { b.stage with trough := some 0 } })
          (put .s5 (fun b => { b with tracker := ⟨.silent, none, 0⟩, record := counting 3 335100 111650 111760 })
            (put .s6 (fun b => { b with
                tracker := ⟨.releasing, some note40, 0⟩, stage := { b.stage with trough := some 0 } })
              { live with
                plu := { live.plu with link := .holding, badRun := 7 }
                eq := ⟨[stroke .s2, pitch6], 2⟩, rq := List.replicate 7 ⟨0x08, .accept⟩ })))))

/-- The event queue and the reply queue after that sequence's teardown. -/
theorem test_pickupTeardown_queues :
    (after .pickupTeardown faulted).eq =
      ⟨[stroke .s2, ⟨.s3, 6, false, false, .noteEnd .link⟩, ⟨.s6, 6, false, false, .noteEnd .link⟩], 0⟩ ∧
    (after .pickupTeardown faulted).rq.getLast? = some ⟨0x14, .result [6149, 1, 4514, 0, 30]⟩ := by decide

/-- Its records, trackers and flags. -/
theorem test_pickupTeardown_strings :
    let t := after .pickupTeardown faulted
    (t.string .s1).record.state = .idle ∧ (t.string .s5).record.state = .waiting ∧
    (t.string .s5).record.pending = some .aborted ∧ (t.string .s1).tracker.state = .muted ∧
    (t.string .s6).tracker = ⟨.silent, none, 0⟩ ∧ t.plu.link = .searching ∧ t.su.flags = 0x403 := by decide

/-- String 6 after its seventh measured period of "Measuring the low E string", the eighth crossing about to commit. -/
def measuring : State :=
  put .s6 (fun b => { b with
    stage := { b.stage with detector := .armed, tentative := some 200000, committed := some 50920 }
    record := ⟨.running, 8, 800, 7, 1043420, some 148980, some 149140, 390, none⟩ }) live

/-- 11_open_string_measurement.md: the RESULT of the eighth period, 149,080. -/
theorem test_measureComplete :
    let t := after (.measureComplete .s6 (goodSlot 0x4000 true) []) measuring
    t.rq = [⟨0x14, .result [24584, 4, 17990, 0, 160]⟩] ∧ (t.string .s6).record.state = .idle ∧ t.su.flags = 0x400 := by decide

/-- A frame that completes no measurement is not that event. -/
theorem test_measureComplete_not_at_hand :
    (after (.measureComplete .s6 (goodSlot 0 false) []) measuring).plu.frameNo = 0 := by decide

/-- 10_commands.md, "Collection, abandonment, hold and overrun": frames 1 to 7. -/
def frames1to7 : State :=
  [0x8801, 0xA000, 23, 0x8801, 23, 0xB001, 24].foldl (fun s w => after (.downstreamFrame (carrying w)) s)
    { live with rq := List.replicate 7 ⟨0x08, .accept⟩ }

theorem test_downstream_collection :
    frames1to7.cu = .held ⟨0x08, 1, 1, [23], false⟩ ∧ frames1to7.su.counters[1]? = some 2 ∧
    frames1to7.su.counters[2]? = some 2 ∧ frames1to7.su.flags = 0x18 := by decide

/-- The lane then begins a reply: the held SET TICK is executed and its ACCEPT takes the slot. -/
theorem test_downstream_held_command_runs :
    let t := after .upstreamFrame frames1to7
    t.divider.tickBase = 23 ∧ t.cu = .ready ∧ t.rq.length = 8 ∧ t.rq.getLast? = some ⟨0x08, .accept⟩ := by decide

/-- R10: the second missing sync mark in a row. -/
theorem test_synthLinkLoss :
    let t := after .synthLinkLoss { playing with slu := { playing.slu with missing := 1 } }
    t.slu.link = .searching ∧ t.slu.lossPending = true ∧ t.eq = ⟨[], 0⟩ ∧ (t.string .s6).tracker = ⟨.silent, none, 0⟩ ∧
    (t.string .s6).grid = some lowE := by decide

/-- 09_event_queue_and_message_lane.md, "The lane over four frames". -/
def fourFrames : List (Option UpstreamFrame) :=
  let start : Message := ⟨.s6, 6, false, false, .noteStart .picked 40 106 false 0⟩
  let first := { live with
    rq := [⟨0x08, .accept⟩], eq := ⟨[start, ⟨.s3, 3, false, false, .noteEnd .release⟩], 0⟩, mq := [{ start with monitor := true }] }
  let second := after .upstreamFrame first
  let third := after .upstreamFrame second
  let fourth := after .upstreamFrame third
  [second, third, fourth, after .upstreamFrame fourth].map (·.slu.sent)

/-- The words of the two slots, by the layouts of R15 and R16. -/
theorem test_upstream_slots :
    fourFrames.map (·.map fun f => (f.slot1, f.slot2)) =
      [some (⟨true, 0xD000⟩, ⟨true, 0x0800⟩), some (⟨true, 0x8CC0⟩, ⟨true, 0x28D4⟩), some (⟨true, 0x0000⟩, ⟨true, 0x8CD0⟩),
        some (⟨true, 0x28D4⟩, ⟨true, 0x0000⟩)] := by decide

/-- R1, R12: once a period is whole, the next upstream frame carries its samples, be it the first, second or third part of its own
period. -/
theorem test_upstream_samples_in_any_order :
    let up := after .upstreamFrame
    let words := after (.downstreamFrame ⟨true, 0, 0⟩)
    let slot := fun w : Word => after (.pickupFrameSlot (goodSlot w true) [])
    let whole := up (slot 7 (words live))
    [whole, words whole, slot 11 whole, slot 11 (words whole), words (slot 11 whole)].map
      (fun s => (up s).slu.sent.map (·.samples)) = List.replicate 5 (some (.const 7)) := by decide +kernel

/-- 12_worked_sequences.md, "A run under HOLD", row 5: EQ level 7 and R = 4, with HOLD seen and both links UP. -/
theorem test_upstream_status :
    (after .upstreamFrame { live with
      eq := ⟨List.replicate 60 (stroke .s2), 4⟩, slu := { live.slu with hold := true } }).slu.sent.map (·.stateHalf) =
      some 0x6BC0 := by decide

/-- R157: the freed slot goes to the WAITING record of the lowest string. -/
theorem test_resultGrant :
    let s := put .s5 (fun b => { b with record := ⟨.waiting, 8, 800, 3, 335100, some 111650, some 111760, 0, some .aborted⟩ })
      { live with rq := List.replicate 8 ⟨0x08, .accept⟩ }
    let t := after .resultGrant s
    t.rq.length = 8 ∧ t.rq.getLast? = some ⟨0x14, .result [22531, 3, 13396, 0, 110]⟩ ∧ (t.string .s5).record.state = .idle := by
  decide

/-- 05_string_timers.md: the divider counts 11 periods down, then a tick takes the scheduler from 16 to 15. -/
theorem test_tick :
    (after .tick playing).divider = ⟨11, 10⟩ ∧
    ((after .tick { playing with divider := ⟨11, 0⟩ }).string .s6).timers.update = ⟨true, 15, 16, 4⟩ ∧
    (after .tick { playing with divider := ⟨11, 0⟩ }).divider = ⟨11, 11⟩ := by decide +kernel

/-- The part at the underflow with one string changed. -/
def atTick (i : StringNo) (f : StringBlock → StringBlock) : State := { put i f live with divider := ⟨11, 0⟩ }

/-- 12_worked_sequences.md, "A tapped note, started early": NOTE START with early 1, note 75, velocity 98, bend 2. -/
theorem test_earlyPoint :
    let g : Grid := ⟨64, [37280, 35188, 33213, 31349, 29590, 27929, 26362, 24882, 23486, 22168, 20924, 19748, 18640, 17594]⟩
    let t := after (.earlyPoint .s1) (atTick .s1 fun b => { b with
      grid := some g, tracker := ⟨.attack, none, 6000⟩
      validator := ⟨none, none, 0, [⟨19700, .unlocked⟩, ⟨16100, .unlocked⟩, ⟨24300, .unlocked⟩]⟩
      timers := { b.timers with attack := ⟨true, 31, 32, 240⟩ } })
    t.eq = ⟨[⟨.s1, 1, false, false, .noteStart .picked 75 98 true 2⟩], 1⟩ ∧ (t.string .s1).tracker.state = .sounding := by
  decide

/-- R73, R94: at GU the onset is unpitched. -/
theorem test_giveUp :
    let t := after (.giveUp .s2) (atTick .s2 fun b => { b with
      tracker := ⟨.attack, none, 6000⟩, timers := { b.timers with attack := ⟨true, 239, 0, 240⟩ } })
    (t.string .s2).tracker = ⟨.silent, none, 0⟩ ∧ t.su.counters[13]? = some 1 ∧
    (t.string .s2).timers.attack = ⟨false, 240, 0, 240⟩ := by decide

/-- 05_string_timers.md, f = 1,272: the note ends and the scheduler stops at 2. -/
theorem test_releaseExpiry :
    let t := after (.releaseExpiry .s6) { put .s6 (fun b => { b with
        timers := { b.timers with release := ⟨true, 1⟩, update := ⟨true, 3, 16, 4⟩ }
        tracker := { b.tracker with state := .releasing } }) playing with divider := ⟨11, 0⟩ }
    t.eq = ⟨[⟨.s6, 6, false, false, .noteEnd .release⟩], 0⟩ ∧ (t.string .s6).tracker = ⟨.silent, none, 0⟩ ∧
    (t.string .s6).timers.update = ⟨false, 2, 16, 4⟩ := by decide

/-- 05_string_timers.md: a difference of 2 offers nothing, one of 11 a PITCH. -/
theorem test_updateExpiry :
    let s := fun pv : Nat => { put .s6 (fun b => { b with
        timers := { b.timers with update := ⟨true, 1, 16, 4⟩ }
        tracker := ⟨.sounding, some { note40 with pvComputed := pv, pvQueued := some 2600 }, 0⟩ }) playing with
      divider := ⟨11, 0⟩ }
    (after (.updateExpiry .s6) (s 2602)).eq.entries = [] ∧
    (after (.updateExpiry .s6) (s 2611)).eq.entries = [⟨.s6, 6, false, false, .pitch .glide 40 51⟩] := by decide

/-- R187, R188: a timeout with no period taken. -/
theorem test_measureTimeout :
    let t := after (.measureTimeout .s4) (atTick .s4 fun b => { b with
      record := ⟨.running, 8, 800, 0, 0, none, none, 799, none⟩ })
    t.rq = [⟨0x14, .result [17408]⟩] ∧ (t.string .s4).record.state = .idle := by decide

/-! ## Commands -/

/-- R172: a code outside the list. -/
theorem test_unknownCommand : (after (.unknownCommand 0x34 [1, 2]) live).rq = [⟨0x34, .refused .unknown⟩] := by decide

/-- 12_worked_sequences.md, "Setting up a grid from a measurement", its first four entries; the same with two entries
swapped is refused. -/
theorem test_loadGrid :
    let words : List Payload := [5, 3477, 4, 26854, 4, 17990, 4, 9624]
    ((after (.loadGrid (6 :: 38 :: words)) live).string .s6).grid = some ⟨38, [167317, 157926, 149062, 140696]⟩ ∧
    (after (.loadGrid [6, 38, 4, 26854, 5, 3477]) live).rq = [⟨0x01, .refused .grid⟩] := by decide

/-- R33, R34: Th_off is clamped below Th_on, and the reply is ADJUSTED. -/
theorem test_loadProfile :
    let t := after (.loadProfile [2, 0, 4, 1, 99, 100, 0, 3, 0, 2, 0, 1, 0, 0, 0, 0, 0, 3, 1]) live
    (t.string .s2).profile.thOn = 100 ∧ (t.string .s2).profile.thOff = 99 ∧ t.rq = [⟨0x02, .adjusted⟩] ∧
    (t.string .s2).profile.tap = .zero := by decide

/-- R191: LOAD PROFILE aborts the measurement of its string; its RESULT follows the ACCEPT (R158). -/
theorem test_loadProfile_aborts :
    (after (.loadProfile [6, 2, 8, 64, 1023, 384, 0, 5, 1, 4, 0, 240, 40, 0, 0, 1, 4, 1, 0]) measuring).rq =
      [⟨0x02, .accept⟩, ⟨0x14, .result [26631, 4, 17988, 0, 160]⟩] := by decide

/-- R111: a selector word's mode, T1 and T2, and the clamp of a fixed lane. -/
theorem test_loadAction :
    let t := after (.loadAction [4, 0, 0x31, 60, 0x28, 0, 0x10, 16, 2, 0, 0, 1, 100, 0, 10, 20, 2, 0, 0]) live
    (t.string .s4).action.noteSel = ⟨.mapChain, 0, 1, 60⟩ ∧ (t.string .s4).action.velocitySel = ⟨.mapFirst, 2, 0, 0⟩ ∧
    (t.string .s4).action.laneSel = ⟨.fixed, 0, 0, 15⟩ ∧ t.rq = [⟨0x03, .adjusted⟩] := by decide

/-- R118: an entry word above 127 is clamped, and one with bit 14 leaves its entry empty. -/
theorem test_loadMap :
    let t := after (.loadMap [1, 254, 200, 0x4005]) live
    t.tables[1].entries[254]? = some (some 127) ∧ t.tables[1].entries[255]? = some none ∧ t.rq = [⟨0x04, .adjusted⟩] := by
  decide +kernel

/-- R118: a run past index 255 is refused whole. -/
theorem test_loadMap_past_the_end : (after (.loadMap [1, 254, 1, 2, 3]) live).rq = [⟨0x04, .refused .range⟩] := by decide

/-- R119: entries emptied, key mode taken. -/
theorem test_clearMap :
    let t := after (.clearMap [1, 1]) (after (.loadMap [1, 7, 90]) live)
    t.tables[1].keyMode = .grade ∧ t.tables[1].entries[7]? = some none := by decide

/-- R22: a coefficient word is two's complement, clamped to −128..127. -/
theorem test_loadCrosstalk :
    ((after (.loadCrosstalk [3, 0x7FFA, 20]) live).string .s3).crosstalk = ⟨-6, 20⟩ ∧
    ((after (.loadCrosstalk [3, 0x4000, 0x3FFF]) live).string .s3).crosstalk = ⟨-128, 127⟩ := by decide

/-- R70: TB changes at once and the divider count goes on. -/
theorem test_setTick :
    (after (.setTick [23]) live).divider = ⟨23, 11⟩ ∧ (after (.setTick [256]) live).rq = [⟨0x08, .adjusted⟩] := by decide

theorem test_setNumbering : (after (.setNumbering [1]) live).numbering = .position := by decide

/-- R113: bit 0 names string 1, bit 5 string 6. -/
theorem test_setStyle :
    let t := after (.setStyle [0x20, 2]) live
    (t.string .s6).action.style = .trigger ∧ (t.string .s1).action.style = .full := by decide

theorem test_setFlagMask : (after (.setFlagMask [0x300]) live).su.mask = 0x300 := by decide

theorem test_setCountPoint : (after (.setCountPoint [2]) live).rc.countPoint = .atAdmit := by decide

/-- 12_worked_sequences.md: STRING ON before the grid is loaded is refused, after it the tracker is SILENT. -/
theorem test_stringOn :
    (after (.stringOn [32]) live).rq = [⟨0x10, .refused .noGrid⟩] ∧
    ((after (.stringOn [32]) (put .s6 (fun b => { b with grid := some lowE }) live)).string .s6).tracker.state = .silent := by
  decide

/-- R105: the open note ends with cause OFF. -/
theorem test_stringOff :
    (after (.stringOff [32]) playing).eq = ⟨[⟨.s6, 6, false, false, .noteEnd .off⟩], 0⟩ ∧
    ((after (.stringOff [32]) playing).string .s6).tracker.state = .muted := by decide

/-- R106: the open note ends with cause PANIC. -/
theorem test_allNotesEnd :
    (after (.allNotesEnd []) playing).eq = ⟨[⟨.s6, 6, false, false, .noteEnd .panic⟩], 0⟩ ∧
    ((after (.allNotesEnd []) playing).string .s6).tracker.state = .silent := by decide

/-- R185: N is clamped into 4..64 and T 0 taken as 1. -/
theorem test_measure :
    ((after (.measure [6, 100, 0]) live).string .s6).record = ⟨.running, 64, 1, 0, 0, none, none, 0, none⟩ ∧
    (after (.measure [6, 8, 800]) measuring).rq = [⟨0x14, .refused .busy⟩] := by decide

/-- R190. -/
theorem test_measureCancel :
    ((after (.measureCancel [6]) measuring).string .s6).record.state = .idle ∧
    (after (.measureCancel [6]) live).rq = [⟨0x15, .refused .idle⟩] := by decide

/-- 08_routing_points_and_counters.md, the two INJECT commands: String 2's entry, the event queue full. -/
def injecting : State :=
  put .s2 (fun b => { b with action := { b.action with route := .copy, countBase := 10, pickedOffset := 1, injectedOffset := 4 } })
    { live with eq := ⟨List.replicate 64 (stroke .s3), 0⟩ }

theorem test_inject_end_at_map :
    let t := after (.inject [0, 3, 2, 2, 0, 0, 0, 0, 0]) injecting
    t.rq = [⟨0x16, .accept⟩] ∧ t.mq = [⟨.s2, 2, true, true, .noteEnd .injected⟩] ∧ t.rc.sets[14]? = some ⟨0, 0⟩ := by decide

theorem test_inject_pitch_at_admit :
    let t := after (.inject [2, 1, 2, 0, 60, 0, 0, 0, 0]) injecting
    t.rq = [⟨0x16, .refused .full⟩] ∧ t.su.flags = 0x840 ∧ t.mq = [] := by decide

/-- R179: the link and divider words of READ STATUS while string 6 plays. -/
theorem test_readStatus :
    (after (.readStatus []) playing).rq = [⟨0x20, .data [0, 0xCFF, 0x200B, 11, 0x10, 2, 0, 0x3020, 0, 0, 0]⟩] := by decide

/-- 03_period_validation_and_lock.md, the READ STRING at its end: V1 to V3, the first and the last record. -/
theorem test_readString_validator :
    let v := fed .cleared [111900, 111500, 111800, 47300, 64520, 99600, 99480, 99530, 61000, 150200, 83900, 240000, 98000, 97900]
    (after (.readString [5]) (put .s5 (fun b => { b with validator := v }) live)).rq.map (fun r => match r.body with
        | .data ws => (ws.length, ws.drop 11 |>.take 7, ws.drop 30)
        | _ => (0, [], [])) =
      [(32, [0x4008, 2, 32414, 0, 0, 4098, 32364], [16387, 1176])] := by decide

/-- R67: the grid word, and the two words of an entry (04_pitch_grids.md, the worked case's table). -/
theorem test_readGrid :
    (after (.readGrid [6, 0, 0]) playing).rq = [⟨0x22, .data [0x5404]⟩] ∧
    (after (.readGrid [6, 1, 1]) playing).rq = [⟨0x22, .data [0x104, 9672]⟩] := by decide

/-- R120: an empty entry reads with bit 14 set. -/
theorem test_readMap :
    (after (.readMap [1, 7, 2]) { (after (.loadMap [1, 7, 90]) live) with rq := [] }).rq = [⟨0x23, .data [90, 0x4000]⟩] := by
  decide +kernel

/-- R129: the power-on entry. -/
theorem test_readAction :
    (after (.readAction [1]) live).rq = [⟨0x24, .data [0, 0, 0, 0, 0, 0, 0, 2, 0, 0, 0, 0, 0, 0, 0, 0, 0, 0]⟩] := by decide

/-- R180: the power-on profile, Th_on as Th_on − 1, and the two coefficients. -/
theorem test_readProfile :
    (after (.readProfile [1]) live).rq =
      [⟨0x25, .data [2, 8, 64, 1023, 384, 0, 5, 1, 4, 0, 240, 40, 0, 0, 1, 4, 1, 0, 0, 0]⟩] := by decide

/-- R143: a count of 2^30 + 5 in form 0 and in form 1. -/
theorem test_readCounters :
    let s := { live with rc := { live.rc with sets := live.rc.sets.set 14 ⟨0x40000005, 7⟩ } }
    (after (.readCounters [14, 1, 0]) s).rq = [⟨0x26, .data [0, 5, 0, 7]⟩] ∧
    (after (.readCounters [14, 1, 1]) s).rq = [⟨0x26, .data [4]⟩] := by decide

/-- R181. -/
theorem test_readStatusCounters :
    let s := { live with su := { live.su with counters := live.su.counters.set 2 0x8002 } }
    (after (.readStatusCounters [2, 1]) s).rq = [⟨0x27, .data [1, 2]⟩] ∧
    (after (.readStatusCounters [20, 5]) s).rq = [⟨0x27, .refused .range⟩] := by decide

/-- 10_commands.md: bits 3 and 4 clear CMD_ABANDONED and CMD_OVERRUN. -/
theorem test_clearFlags : (after (.clearFlags [0x18]) { live with su := { live.su with flags := 0x1F } }).su.flags = 7 := by decide

/-- R144: the run named and nothing else. -/
theorem test_clearCounters :
    let s := { live with rc := { live.rc with sets := (live.rc.sets.set 14 ⟨1, 7⟩).set 15 ⟨2, 9⟩ } }
    (after (.clearCounters [14, 1]) s).rc.sets[14]? = some ⟨0, 0⟩ ∧
    (after (.clearCounters [14, 1]) s).rc.sets[15]? = some ⟨2, 9⟩ := by decide +kernel

/-- R182: BUSY while a note is open; otherwise TB is 11 again. -/
theorem test_restoreDefaults :
    (after (.restoreDefaults []) playing).rq = [⟨0x32, .refused .busy⟩] ∧
    (after (.restoreDefaults []) { live with divider := ⟨23, 4⟩ }).divider = ⟨11, 4⟩ := by decide

/-- R183: its ACCEPT is the only reply, R is 0, and the grid stays. -/
theorem test_restart :
    let t := after (.restart []) { playing with rq := [⟨0x08, .accept⟩] }
    t.rq = [⟨0x33, .accept⟩] ∧ t.eq = ⟨[], 0⟩ ∧ (t.string .s6).tracker.state = .silent ∧
    (t.string .s6).grid = some lowE := by decide

/-! ## Witnesses: the statements about every step -/

/-- A part at its limits: occupancy plus R is 64, no reply slot is free, a record waits, a command is being collected. -/
def crowded : State :=
  put .s1 (fun b => { b with record := ⟨.waiting, 8, 800, 8, 1192500, some 148980, some 149140, 390, some .complete⟩ })
    { playing with
      eq := ⟨List.replicate 63 (stroke .s2), 1⟩, mq := List.replicate 16 ⟨.s2, 0, false, false, .tune 8128⟩
      rq := List.replicate 8 ⟨0x08, .accept⟩, cu := .collecting ⟨0x08, 1, 0, [], false⟩, pending := [.tick] }

theorem crowded_steps : ∃ t, step crowded = .next t := ⟨_, rfl⟩

theorem crowded_contextLaw : ContextLaw crowded := by intro i; cases i <;> decide

theorem crowded_noteLaw : NoteLaw crowded := by
  intro i c h
  cases i <;> first | (cases h; decide) | cases h

theorem crowded_eventQueueLaws : EventQueueLaws crowded :=
  ⟨by decide, by decide, by intro i; cases i <;> decide⟩

theorem crowded_gridLaw : GridLaw crowded := by
  intro i
  refine ⟨fun g h => ?_, by cases i <;> decide⟩
  cases i <;> first
    | (cases h; exact ⟨by decide, by decide, by decide, by decide⟩)
    | cases h

theorem crowded_settingsLaw : SettingsLaw crowded := ⟨by decide, by intro i; cases i <;> decide⟩

theorem crowded_stageLaw : StageLaw crowded := by intro i; cases i <;> decide

theorem crowded_waiters : WaitersFindNoSlot crowded :=
  ⟨by decide, by intro i; cases i <;> decide, by intro b h; cases h⟩

theorem witness_StepKeepsTheEventQueueLaws :
    (∃ t, step crowded = .next t) ∧ EventQueueLaws crowded ∧ ContextLaw crowded ∧ NoteLaw crowded :=
  ⟨crowded_steps, crowded_eventQueueLaws, crowded_contextLaw, crowded_noteLaw⟩

theorem witness_StepKeepsTheTimerLaw : (∃ t, step crowded = .next t) ∧ ContextLaw crowded ∧ TimerLaw crowded :=
  ⟨crowded_steps, crowded_contextLaw, by intro i; cases i <;> decide⟩

theorem witness_StepLeavesNoSlotFreeWhileAProducerWaits :
    (∃ t, step crowded = .next t) ∧ WaitersFindNoSlot crowded ∧ QueueBounds crowded :=
  ⟨crowded_steps, crowded_waiters, ⟨by decide, by decide⟩⟩

theorem witness_StepKeepsTheGridSettingsAndStageLaws :
    (∃ t, step crowded = .next t) ∧ GridLaw crowded ∧ SettingsLaw crowded ∧ StageLaw crowded :=
  ⟨crowded_steps, crowded_gridLaw, crowded_settingsLaw, crowded_stageLaw⟩

theorem witness_StepKeepsTheValidatorAndRecordLaws :
    (∃ t, step crowded = .next t) ∧ SettingsLaw crowded ∧ ValidatorLaw crowded ∧ RecordLaw crowded :=
  ⟨crowded_steps, crowded_settingsLaw, by intro i; cases i <;> decide, by intro i; cases i <;> decide⟩

theorem witness_StepKeepsTheMessageLaw :
    (∃ t, step crowded = .next t) ∧ GridLaw crowded ∧ SettingsLaw crowded ∧ StageLaw crowded ∧ NoteRangeLaw crowded ∧
      MessageLaw crowded :=
  ⟨crowded_steps, crowded_gridLaw, crowded_settingsLaw, crowded_stageLaw, by intro i; cases i <;> decide,
    by decide, by decide⟩

theorem witness_StepKeepsTheLinkAndBufferLaws :
    (∃ t, step crowded = .next t) ∧ LinkLaw crowded ∧ CommandUnitLaw crowded :=
  ⟨crowded_steps, by unfold LinkLaw; decide, by intro b h; cases h; decide, by intro b h; cases h⟩

/-! ## Witnesses: input stage, validator, grids -/

/-- L is 0, and e lies just below 2^D. -/
theorem witness_CorrectionLowPassAndEnvelope :
    let b := { StringBlock.powerOn with
      profile := { Profile.powerOn with lowPass := 0 }, stage := { InputStage.powerOn with e := 255 } }
    b.profile.lowPass = 0 ∧ b.stage.e < 2 ^ b.profile.decay := by decide

/-- A string with Th_on 100, Th_off 50 and Δ_re 10, whose envelope holds at e while its samples are 0. -/
def quiet (e : Nat) (state : TrackerState) (gate : OnsetGate) (trough : Option Nat) : StringBlock :=
  { StringBlock.powerOn with
    profile := { Profile.powerOn with thOn := 100, thOff := 50, restrikeRise := 10 }
    stage := { InputStage.powerOn with e := e, gate := gate, trough := trough }, tracker := ⟨state, none, 0⟩ }

/-- One run of that string's stage. -/
def ran (e : Nat) (state : TrackerState) (gate : OnsetGate) (trough : Option Nat) : StageReport :=
  runStage (.const 0) 1 .s1 (quiet e state gate trough)

/-- Every clause at a boundary: the gate at 100, 99, 50 and 49; each edge; each trough. -/
theorem witness_EdgeGateAndTrough :
    (ran 100 .silent .opened none).stage.gate = .shut ∧ (ran 99 .silent .opened none).stage.gate = .opened ∧
    (ran 50 .silent .shut none).stage.gate = .shut ∧ (ran 49 .silent .shut none).stage.gate = .opened ∧
    (ran 100 .silent .opened none).edge = some .onset ∧ (ran 100 .silent .shut none).edge = none ∧
    (ran 100 .sounding .shut (some 90)).edge = some .restrike ∧ (ran 100 .releasing .shut (some 91)).edge = some .rise ∧
    (ran 49 .attack .shut none).edge = some .fall ∧ (ran 49 .sounding .shut (some 40)).edge = some .fall ∧
    (ran 49 .sounding .shut (some 39)).edge = some .restrike ∧
    (ran 49 .sounding .shut (some 39)).stage.trough = some 49 ∧ (ran 49 .sounding .shut (some 90)).stage.trough = some 49 ∧
    (ran 49 .attack .shut (some 90)).stage.trough = some 90 := by decide

/-- One run with L = 0 and H = 64 at frame n, from filter value a to b. -/
def crossed (n : BitVec 24) (a b : Int) (d : Detector) (tentative committed : Option Time) : StageReport :=
  runStage (.const (BitVec.ofInt 16 b)) n .s1 { StringBlock.powerOn with
    profile := { Profile.powerOn with lowPass := 0 }, stage := ⟨a, 0, .shut, none, d, tentative, committed⟩ }

/-- Every clause: a commit with no crossing before it; periods 4,095, 4,096, 524,287 and 524,288; arming at −64 and not at −63;
a committed crossing 524,287 and 524,288 old. -/
theorem witness_CrossingAndRawPeriod :
    1 ≤ Profile.powerOn.halfBand ∧
    (crossed 1001 (-300) 500 .armed none none).stage.committed = some 256096 ∧
    (crossed 1 0 64 .armed (some 600000) (some 595905)).period = none ∧
    (crossed 1 0 64 .armed (some 600000) (some 595904)).period = some 4096 ∧
    (crossed 1 0 64 .armed (some 600000) (some 75713)).period = some 524287 ∧
    (crossed 1 0 64 .armed (some 600000) (some 75712)).period = none ∧
    (crossed 1 0 (-64) .disarmed none none).stage.detector = .armed ∧
    (crossed 1 0 (-63) .disarmed none none).stage.detector = .disarmed ∧
    (crossed 2048 0 0 .disarmed none (some 1)).stage.committed = some 1 ∧
    (crossed 2048 0 0 .disarmed none (some 0)).stage.committed = none := by decide

/-- The limits of S and of both periods, and the bound met. -/
theorem witness_AgreementTest : 8 ≤ 8 ∧ 0 ≤ 524287 ∧ 524287 ≤ 524287 ∧ |((0 : Nat) : Int) - (524287 : Nat)| * 2 ^ 8 = 134217472 := by
  decide

/-- The outcome of one raw period under the power-on profile. -/
def judged (a c : Option Nat) (m : Nat) (ring : List RawRecord) (p : Nat) : LockOutcome :=
  ((⟨a, c, m, ring⟩ : Validator).take .powerOn p).outcome

/-- Every clause: LOCK and UNLOCKED with A absent; GLIDE, MERGE at the longest sum and one PU above it, JUMP, MISS at m = 2 and
LOST at m = 3 with A present. -/
theorem witness_ValidatorTakesARawPeriod :
    judged none none 0 [⟨111900, .unlocked⟩] 111500 = .lock ∧ judged none none 0 [⟨240000, .lost⟩] 239999 = .unlocked ∧
    judged none none 0 [⟨111900, .unlocked⟩] 47300 = .unlocked ∧ judged none none 0 [] 47300 = .unlocked ∧
    judged (some 111700) none 0 [] 111800 = .glide ∧
    judged (some 524287) (some 260000) 1 [⟨260000, .miss⟩] 264287 = .merge ∧
    judged (some 524287) (some 260000) 1 [⟨260000, .miss⟩] 264288 = .jump ∧
    judged (some 111785) (some 99600) 1 [⟨99600, .miss⟩] 99480 = .jump ∧
    judged (some 111785) none 2 [⟨99600, .glide⟩] 61000 = .miss ∧ judged (some 111785) none 3 [⟨99600, .glide⟩] 61000 = .lost := by
  decide

theorem lowE_loaded : LoadedGrid lowE := ⟨by decide, by decide, by decide, by decide⟩

/-- Every clause, at the boundary periods. -/
theorem witness_GridLookup :
    LoadedGrid lowE ∧ 149114 < 149115 ∧ gridLookup (some lowE) 149115 = some (.under, 2560) ∧
    gridLookup (some lowE) 125388 = some (.over, 2752) ∧ gridLookup (some lowE) 149114 = some (.within, 2560) ∧
    gridLookup (some lowE) 140744 = some (.within, 2624) ∧ gridLookup (some lowE) 125389 = some (.within, 2751) :=
  ⟨lowE_loaded, by decide, by decide, by decide, by decide, by decide, by decide⟩

/-- A grid whose top note is 127, an inner position, and two periods in order. -/
theorem witness_GridBoundaries :
    LoadedGrid ⟨125, [5000, 4600, 4096]⟩ ∧ 0 < 1 ∧ 1 + 1 < 3 ∧ 5000 < 5001 ∧ 4096 ≤ 4600 ∧
    (Grid.lookup ⟨125, [5000, 4600, 4096]⟩ 4096).2 = 8128 :=
  ⟨⟨by decide, by decide, by decide, by decide⟩, by decide, by decide, by decide, by decide, by decide⟩

/-- Both ends of m, t and the rest; both ends of the other ranges. -/
theorem witness_NoteBendAndVelocity :
    LoadedGrid lowE ∧ 3 < 4 ∧ gradeOf (2 ^ 2 + 0 * 2 ^ 0 + 0) = 4 ∧ gradeOf (2 ^ 15 + 3 * 2 ^ 13 + (2 ^ 13 - 1)) = 59 ∧
    gradeOf 32768 ≤ 56 ∧ sourceVelocity 59 = 126 :=
  ⟨lowE_loaded, by decide, by decide, by decide, by decide, by decide⟩

/-! ## Witnesses: routing, queues, lane, words -/

/-- A message refused an offer at ROUTE. -/
theorem witness_VerdictsNeverFall : (crossRoute .drop .pass false true none (stroke .s1) live).offered = false := by decide

/-- R133, R134: the monitor queue after ROUTE under each verdict, and after a crossing that begins at ADMIT. -/
theorem witness_VerdictsNeverFall_copies :
    let m := stroke .s1
    let after := fun route => (crossRoute .pass route false true none m live).state.mq
    [Verdict.pass, .copy, .divert, .drop].map after = [[], [{ m with monitor := true }], [{ m with monitor := true }], []] ∧
    (crossAdmit .copy none m live).state.mq = [] ∧ (crossAdmit .divert none m live).offered = false := by decide

/-- R136, R146, R149, R154: at a crossing under COPY, a refused start is a lost start, a refused PITCH a lost update, and a full
monitor queue loses its oldest. -/
theorem witness_VerdictsNeverFall_admission :
    let full := { live with eq := ⟨List.replicate 64 (stroke .s2), 0⟩, mq := List.replicate 16 (stroke .s1) }
    let crossed := fun (body : MessageBody) => crossRoute .pass .copy false true none ⟨.s3, 3, false, false, body⟩ full
    let start := crossed (.noteStart .picked 40 100 false 0)
    let pitch := crossed (.pitch .glide 40 0)
    (start.offered, start.admitted, start.state.su.flags) = (true, false, 0x0A0) ∧
    (pitch.offered, pitch.admitted, pitch.state.su.flags) = (true, false, 0x0C0) ∧
    start.state.su.counters[3]? = some 1 ∧ pitch.state.su.counters[4]? = some 1 ∧
    (crossRoute .pass .drop false true none (stroke .s3) full).offered = false := by decide +kernel

/-- Both ends of the indices, a counted start at each count point, and an uncounted one. -/
theorem witness_CountingAtTheCountPoint :
    let m : Message := ⟨.s1, 1, false, false, .noteStart .picked 40 100 false 0⟩
    let counting := { live with rc := { live.rc with countPoint := .atAdmit } }
    1 ≤ 127 ∧ 127 < 128 ∧
    (crossRoute .pass .copy false true (some 127) m live).state.rc.sets[127]? = some ⟨1, 1⟩ ∧
    (crossRoute .pass .copy false true (some 1) m live).state.rc.sets[0]? = some ⟨1, 1⟩ ∧
    (crossRoute .pass .divert false true (some 127) m live).state.rc.sets[127]? = some ⟨0, 0⟩ ∧
    (crossAdmit .pass (some 127) m counting).state.rc.sets[127]? = some ⟨1, 1⟩ ∧
    (crossAdmit .pass (some 127) m live).state.rc.sets[127]? = some ⟨0, 0⟩ := by decide +kernel

/-- An event queue of n RESTRIKE messages of string 2, R being 0. -/
def queued (n : Nat) (s : State) : State := { s with eq := ⟨List.replicate n (stroke .s2), 0⟩ }

/-- A PITCH message of a string. -/
def pitchOf (i : StringNo) (cause : PitchCause) (bend : Int) : Message := ⟨i, i.number, false, false, .pitch cause 40 bend⟩

/-- Every clause at the limit: a reserving start at 2 and 1 units free; the others at 1 and 0; a PITCH with none queued, and one
with a SLUR queued between two other messages (12_worked_sequences.md, "A run under HOLD", rows 2 and 3). -/
theorem witness_AdmissionRules :
    let start : Message := ⟨.s1, 1, false, false, .noteStart .picked 40 100 false 0⟩
    let injectedEnd : Message := ⟨.s1, 1, false, true, .noteEnd .injected⟩
    let end_ : Message := ⟨.s1, 1, false, false, .noteEnd .release⟩
    let holding := { live with eq := ⟨[stroke .s2, pitchOf .s3 .slur 5, stroke .s4], 1⟩ }
    (admitMessage true start (queued 62 live)).admitted = true ∧ (admitMessage true start (queued 63 live)).admitted = false ∧
    (admitMessage false start (queued 63 live)).admitted = true ∧ (admitMessage false start (queued 64 live)).admitted = false ∧
    (admitMessage true (stroke .s1) (queued 63 live)).admitted = true ∧ (admitMessage true (stroke .s1) (queued 64 live)).admitted = false ∧
    (admitMessage true injectedEnd (queued 63 live)).admitted = true ∧ (admitMessage true injectedEnd (queued 64 live)).admitted = false ∧
    (admitMessage true end_ { live with eq := ⟨[pitchOf .s1 .glide 0], 1⟩ }).state.eq = ⟨[end_], 0⟩ ∧
    (admitMessage true (pitchOf .s1 .glide 0) (queued 63 live)).admitted = true ∧
    (admitMessage true (pitchOf .s1 .glide 0) (queued 64 live)).admitted = false ∧
    (admitMessage true (pitchOf .s3 .glide 9) holding).state.eq.entries = [stroke .s2, pitchOf .s3 .slur 9, stroke .s4] := by
  decide +kernel

theorem witness_MonitorQueueKeepsTheNewest :
    let tune : Message := ⟨.s2, 0, false, false, .tune 7⟩
    (live.placeMonitor tune).mq.length = 1 ∧ 15 < 16 ∧ crowded.mq.length = 16 ∧
    (crowded.placeMonitor tune).mq.getLast? = some tune ∧ (crowded.placeMonitor tune).mq.length = 16 := by decide +kernel

/-- One case of each clause: a message in flight, an empty slot, and each source after each source last served. -/
theorem witness_LaneWordSlot :
    let e := stroke .s2
    let m : Message := ⟨.s2, 0, false, false, .tune 7⟩
    let r : Reply := ⟨0x08, .accept⟩
    let lane := fun (eq mq : List Message) (rq : List Reply) (last : Source) (hold : Bool) =>
      { live with
        eq := ⟨eq, 0⟩, mq := mq, rq := rq, lane := ⟨none, last⟩, slu := { live.slu with hold := hold } }
    (laneWord { live with lane := ⟨some ⟨[0x8001, 2], .mq, 1⟩, .mq⟩ } = ⟨true, 2⟩ ∧
      laneWord (lane [e] [] [] .mq true) = ⟨false, 0⟩) ∧
    ((lane [e] [m] [r] .rq false).chosenSource = some .eq ∧ (lane [e] [m] [] .mq false).chosenSource = some .eq ∧
      (lane [e] [] [] .eq false).chosenSource = some .eq) ∧
    ((lane [e] [m] [r] .eq false).chosenSource = some .mq ∧ (lane [e] [m] [r] .rq true).chosenSource = some .mq ∧
      (lane [] [m] [] .mq false).chosenSource = some .mq) ∧
    ((lane [e] [m] [r] .mq false).chosenSource = some .rq ∧ (lane [e] [] [r] .eq false).chosenSource = some .rq ∧
      (lane [e] [] [r] .rq true).chosenSource = some .rq) ∧
    ∀ i, (live.string i).record.state ≠ .waiting :=
  ⟨by decide, by decide, by decide, by decide, by intro i; cases i <;> decide⟩

/-- A reply that begins while a command is held: with a record WAITING the slot is the record's, with none the command's. -/
theorem witness_LaneWordSlot_freed_slot :
    let waiting := put .s5 (fun b => { b with record := ⟨.waiting, 8, 800, 0, 0, none, none, 0, some .aborted⟩ }) frames1to7
    frames1to7.lane = ⟨none, .mq⟩ ∧ frames1to7.rq.length = 8 ∧ frames1to7.slu.link = .up ∧
    frames1to7.cu = .held ⟨Command.setTick.code, 1, 1, [23], false⟩ ∧ (∀ i ∈ allStrings, (frames1to7.string i).record.state ≠ .waiting) ∧
    (waiting.string .s5).record.state = .waiting ∧ (∀ j ∈ allStrings, j.number < 5 → (waiting.string j).record.state ≠ .waiting) ∧
    (afterLaneSlot waiting).cu = waiting.cu ∧ (afterLaneSlot waiting).rq.getLast? = some ⟨0x14, .result [22528]⟩ ∧
    (afterLaneSlot frames1to7).cu = .ready ∧ (afterLaneSlot frames1to7).divider.tickBase = 23 := by decide

/-- A queue at its limits with the link UP, and the link SEARCHING; a period with every part done, and one with none. -/
theorem witness_UpstreamFrameContent :
    let whole := { live with slu := { live.slu with done := ⟨true, true, true⟩, handed := .const 7 } }
    (queued 64 live).slu.link = .up ∧ (queued 64 live).eq.entries.length ≤ 64 ∧ 6 ≤ 6 ∧ State.reset.slu.link = .searching ∧
    whole.slu.link = .up ∧ whole.plu.link = .up ∧ goodFrame (goodSlot 0x8001 false) = true ∧
    (⟨true, 0x8000, 0⟩ : DownstreamFrame).control.getLsbD 14 = false ∧ live.slu.done = ⟨false, false, false⟩ ∧
    (after (.downstreamFrame ⟨true, 0x8000, 0⟩) whole).slu.handedBefore = .const 7 := by decide

/-- Every field at its limit; a reply of each kind with at most 255 words; a RESULT of 64 longest periods. -/
theorem witness_WordsOfMessagesAndReplies :
    (15 ≤ 15 ∧ 127 ≤ 127 ∧ 8128 ≤ 8128 ∧ (-1536 : Int) ≤ -1536 ∧ (1536 : Int) ≤ 1536 ∧ [(0 : Payload)].length ≤ 255) ∧
    (⟨.s6, 15, true, true, .noteStart .injected 127 127 true (-1536)⟩ : Message).words = [0x8DFB, 0x7FFF, 0x7A00] ∧
    (⟨0x08, .refused .full⟩ : Reply).words = [0xD002, 0x0808] ∧ (⟨0x08, .adjusted⟩ : Reply).words = [0xD001, 0x0800] ∧
    resultWords .s6 ⟨.waiting, 64, 1, 64, 64 * 524287, some 524287, some 524287, 0, some .complete⟩ = [24640, 15, 32767, 0, 0] ∧
    resultWords .s6 ⟨.waiting, 64, 1, 0, 0, none, none, 0, some .timeout⟩ = [25600] := by decide

/-- Every mode, with a hit, a miss, a key that is absent and an index one past the table. -/
theorem witness_SelectorsAndTables :
    let t : MapTable := ⟨.note, (Vector.replicate 256 none).set 255 (some 9)⟩
    let tables := (Vector.replicate 4 MapTable.powerOn).set 1 t
    let sel := fun m => (⟨m, 0, 1, 60⟩ : Selector)
    t.lookup 255 ⟨some 0, none, none⟩ = some 9 ∧ t.lookup 255 ⟨some 1, none, none⟩ = none ∧
    t.lookup 255 ⟨none, some 0, some 0⟩ = none ∧
    (sel .source).resolve tables 255 ⟨some 0, none, none⟩ 40 = 40 ∧ (sel .fixed).resolve tables 255 ⟨some 0, none, none⟩ 40 = 60 ∧
    (⟨.mapFirst, 1, 0, 60⟩ : Selector).resolve tables 255 ⟨some 0, none, none⟩ 40 = 9 ∧
    (sel .mapFirst).resolve tables 255 ⟨some 0, none, none⟩ 40 = 40 ∧
    (⟨.mapChain, 1, 0, 60⟩ : Selector).resolve tables 255 ⟨some 0, none, none⟩ 40 = 9 ∧
    (sel .mapChain).resolve tables 255 ⟨some 0, none, none⟩ 40 = 9 ∧
    (sel .mapChain).resolve tables 0 ⟨some 0, none, none⟩ 40 = 60 := by decide +kernel

/-- String 4 of the example of 07_action_entries_and_mapping_tables.md, its tables and its start on bank A: note 72, velocity
90, lane 3, bend 20. -/
theorem witness_MapFillsTheFields :
    let tables := (((Vector.replicate 4 MapTable.powerOn).set 1
      ⟨.position, (Vector.replicate 256 none).set 225 (some 72)⟩).set 2
      ⟨.grade, ((Vector.replicate 256 none).set 144 (some 90)).set 141 (some 0)⟩)
    let grid : Grid := ⟨48, [90000, 85000]⟩
    let sel : LatchedAction := ⟨.full, .pass, 2, .glide, ⟨.mapChain, 0, 1, 60⟩, ⟨.mapFirst, 2, 0, 0⟩, 100, 10, some 12, some 3⟩
    let b := { StringBlock.powerOn with grid := some grid, action := { Action.powerOn with laneSel := ⟨.fixed, 0, 0, 3⟩ } }
    let c := { note40 with note := 53, latched := sel }
    b.grid = some grid ∧
    mapTracker tables .s4 b c (.start .picked 3412 44 false) = ⟨.s4, 3, false, false, .noteStart .picked 72 90 false 20⟩ ∧
    mapTracker tables .s4 b c (.pitch .glide 3560) = ⟨.s4, 3, false, false, .pitch .glide 72 128⟩ ∧
    mapTracker tables .s4 b c (.restrike 41) = ⟨.s4, 3, false, false, .restrike 1⟩ := by decide +kernel

/-! ## Witnesses: the tracker -/

/-- The playing part with string 6's context and tracker state changed. -/
def holding (state : TrackerState) (c : NoteContext) : State :=
  put .s6 (fun b => { b with tracker := ⟨state, some c, 0⟩ }) playing

/-- A note context of another style or route. -/
def styled (style : Style) (route : Verdict) (announced monitored : Bool) : NoteContext :=
  { note40 with announced := announced, monitored := monitored, latched := { note40.latched with style := style, route := route } }

/-- A start with room for itself and its end, one without, and one of style TRIGGER with one unit free. -/
theorem witness_StartOfANote :
    let opened := fun (style : Style) (n : Nat) =>
      ((startNote .s6 2560 .picked 49 12000 false
        (put .s6 (fun b => { b with grid := some lowE, action := { b.action with style := style } }) (queued n live))).string
          .s6).tracker.context.map (·.announced)
    opened .full 62 = some true ∧ opened .full 63 = some false ∧ opened .gate 62 = some true ∧ opened .trigger 63 = some true := by
  decide +kernel

/-- R134: under each route, the messages a start leaves in the event queue and in the monitor queue. -/
theorem witness_StartOfANote_routes :
    let sent := fun (route : Verdict) =>
      let t := startNote .s6 2560 .picked 49 12000 false
        (put .s6 (fun b => { b with grid := some lowE, action := { b.action with route := route } }) live)
      (t.eq.entries.length, t.mq.map (·.body))
    sent .pass = (1, []) ∧ sent .copy = (1, [.noteStart .picked 40 106 false 0]) ∧
    sent .divert = (0, [.noteStart .picked 40 106 false 0]) ∧ sent .drop = (0, []) := by decide +kernel

/-- R140, R141: under a COPY route with the event queue full, a start is counted at ROUTE and not at ADMIT. -/
theorem witness_StartOfANote_counts :
    let sets := fun (point : CountPoint) =>
      (startNote .s6 2560 .picked 49 12000 false (put .s6 (fun b => { b with
        grid := some lowE, action := { b.action with route := .copy, countBase := 5 } })
        { queued 64 live with rc := { live.rc with countPoint := point } })).rc.sets
    (sets .route)[5]? = some ⟨1, 1⟩ ∧ (sets .route)[0]? = some ⟨1, 1⟩ ∧ (sets .atAdmit)[5]? = some ⟨0, 0⟩ := by decide +kernel

theorem witness_EnvelopeEdges :
    let at_ := fun state => (put .s6 (fun b => { b with tracker := ⟨state, none, 0⟩ }) live).string .s6
    (at_ .silent).tracker.state = .silent ∧ (at_ .attack).tracker.state = .attack ∧
    (at_ .sounding).tracker.state = .sounding ∧ 0 < (at_ .sounding).profile.releaseTime ∧
    (at_ .releasing).tracker.state = .releasing := by decide

/-- R75, R102: with RT 0 the FALL in SOUNDING ends the note. -/
theorem witness_EnvelopeEdges_no_release :
    let s := put .s6 (fun b => { b with profile := { b.profile with releaseTime := 0 } }) playing
    (s.string .s6).tracker.state = .sounding ∧ (s.string .s6).profile.releaseTime = 0 ∧
    ((takeEdge .s6 .fall s).string .s6).tracker = ⟨.silent, none, 0⟩ ∧
    (takeEdge .s6 .fall s).eq = ⟨[⟨.s6, 6, false, false, .noteEnd .release⟩], 0⟩ := by decide

/-- An open note of each kind the clauses speak of. -/
theorem witness_EndOfANote :
    let ends := fun c => (endNote .s6 .release (holding .sounding c)).eq.entries.length
    let copies := fun c => (endNote .s6 .release (holding .sounding c)).mq.length
    ends (styled .full .pass true false) = 1 ∧ ends (styled .gate .copy true true) = 1 ∧
    ends (styled .trigger .pass true false) = 0 ∧ ends (styled .full .pass false false) = 0 ∧
    copies (styled .full .divert false true) = 1 ∧ (holding .sounding (styled .full .divert false true)).mq.length < 16 := by
  decide

/-- R134, R154: an announced note's NOTE END under COPY meets a full monitor queue; under DROP it leaves none. -/
theorem witness_EndOfANote_copies :
    let ends := fun (c : NoteContext) => (endNote .s6 .release { holding .sounding c with mq := List.replicate 16 (stroke .s1) }).mq
    (ends (styled .gate .copy true true)).length = 16 ∧
    (ends (styled .gate .copy true true)).getLast? = some ⟨.s6, 6, true, false, .noteEnd .release⟩ ∧
    ends (styled .gate .drop false true) = List.replicate 16 (stroke .s1) := by decide

/-- An open note with its stream off, its early flag clear and set, A giving its own note and another, in both modes. -/
theorem witness_OutcomesOfAnOpenNote :
    let early := { note40 with early := true }
    let split := { note40 with latched := { note40.latched with legato := .split } }
    let s := holding .releasing note40
    (s.string .s6).tracker.context = some note40 ∧ (s.string .s6).profile.monitorStream = false ∧
    gridLookup (s.string .s6).grid 149050 = some (.within, 2560) ∧ noteOf 2560 = note40.note ∧
    gridLookup (s.string .s6).grid 132840 = some (.within, 2688) ∧ noteOf 2688 ≠ note40.note ∧ note40.early = false ∧
    early.early = true ∧ note40.latched.legato = .glide ∧ split.latched.legato = .split ∧
    ((takeOutcome .s6 .jump (some 132840) s).eq.entries = [⟨.s6, 6, false, false, .pitch .slur 42 0⟩]) ∧
    ((takeOutcome .s6 .jump (some 132840) (holding .sounding split)).eq.entries.map (·.body) =
      [.noteEnd .split, .noteStart .legato 42 106 false 0]) ∧
    ((takeOutcome .s6 .lock (some 132840) (holding .sounding early)).eq.entries.map (·.body) = [.pitch .retarget 42 0]) := by
  decide

/-- R87, R155: with the stream on, a JUMP of an open note places its TUNE, a MERGE none. -/
theorem witness_OutcomesOfAnOpenNote_stream :
    let s := put .s6 (fun b => { b with profile := { b.profile with monitorStream := true } }) playing
    (s.string .s6).tracker.context = some note40 ∧ (s.string .s6).tracker.state = .sounding ∧
    (takeOutcome .s6 .jump (some 132840) s).mq = [⟨.s6, 0, false, false, .tune 2688⟩] ∧
    (takeOutcome .s6 .jump (some 132840) s).eq.entries.map (·.body) = [.pitch .slur 42 0] ∧
    (takeOutcome .s6 .merge (some 149050) s).mq = [] := by decide

/-- ATTACK with A inside and outside the grid; SILENT with the stream off, MUTED with it on. -/
theorem witness_OutcomesOutsideANote :
    let at_ := fun (state : TrackerState) (stream : Bool) => put .s6 (fun b => { b with
      grid := some lowE, profile := { b.profile with monitorStream := stream }, tracker := ⟨state, none, 12000⟩ }) live
    ((at_ .attack false).string .s6).tracker.context = none ∧ gridLookup (some lowE) 149050 = some (.within, 2560) ∧
    gridLookup (some lowE) 149246 = some (.under, 2560) ∧
    (takeOutcome .s6 .lock (some 149050) (at_ .attack false)).eq.entries.map (·.body) = [.noteStart .picked 40 106 false 0] ∧
    (takeOutcome .s6 .lock (some 149246) (at_ .attack false)).eq.entries = [] ∧
    (takeOutcome .s6 .lock (some 149050) (at_ .silent false)).mq = [] ∧
    (takeOutcome .s6 .lock (some 149050) (at_ .muted true)).mq = [⟨.s6, 0, false, false, .tune 2560⟩] := by decide

/-- R87, R91: a MUTED string with no grid and its stream on; a LOST in ATTACK. -/
theorem witness_OutcomesOutsideANote_nothing :
    let bare := put .s1 (fun b => { b with profile := { b.profile with monitorStream := true } }) live
    let struck := put .s6 (fun b => { b with grid := some lowE, tracker := ⟨.attack, none, 12000⟩ }) live
    (bare.string .s1).tracker.context = none ∧ (bare.string .s1).grid = none ∧
    (takeOutcome .s1 .lock (some 149050) bare).mq = [] ∧
    (struck.string .s6).tracker.context = none ∧ (takeOutcome .s6 .lost none struck).su.flags = 0 := by decide

/-- A TRIGGER note, an announced one, and an unannounced one with two units free and with one. -/
theorem witness_RestrikeOfAnOpenNote :
    let struck := fun (c : NoteContext) (n : Nat) => takeEdge .s6 .restrike { holding .releasing c with eq := ⟨List.replicate n (stroke .s2), 0⟩ }
    let c := styled .gate .pass false false
    (styled .trigger .pass true false).latched.route = .pass ∧ (struck (styled .trigger .pass true false) 0).eq.entries = [] ∧
    (struck note40 0).eq.entries.map (·.body) = [.restrike 106] ∧
    ((struck c 62).eq.entries.getLast?).map (·.body) = some (.noteStart .recovery 40 106 false 0) ∧
    (struck c 63).eq.entries.length = 63 := by decide +kernel

/-- R133, R134: an announced note under COPY; a recovery start under COPY, DIVERT and DROP. -/
theorem witness_RestrikeOfAnOpenNote_routes :
    let sent := fun (c : NoteContext) =>
      let t := takeEdge .s6 .restrike (holding .releasing c)
      (t.eq.entries.map (·.body), t.mq.map (·.body), (t.string .s6).tracker.context.map (·.announced))
    let start : MessageBody := .noteStart .recovery 40 106 false 0
    sent (styled .full .copy true true) = ([.restrike 106], [.restrike 106], some true) ∧
    sent (styled .full .copy false true) = ([start], [start], some true) ∧
    sent (styled .full .divert false true) = ([], [start], some false) ∧
    sent (styled .full .drop false false) = ([], [], some false) := by decide +kernel

/-- A GATE note, an announced FULL one admitted and refused, and a monitored unannounced one. -/
theorem witness_PitchOfAnOpenNote :
    let pitched := fun (c : NoteContext) (n : Nat) => buildPitch .s6 .slur { holding .sounding c with eq := ⟨List.replicate n (stroke .s2), 0⟩ }
    (pitched (styled .gate .pass true false) 0).eq.entries = [] ∧
    (pitched note40 63).eq.entries.length = 64 ∧ (pitched note40 64).eq.entries.length = 64 ∧
    (((pitched note40 63).string .s6).tracker.context.bind (·.pvQueued)) = some 2560 ∧
    (pitched (styled .full .copy false true) 0).mq.length = 1 := by decide +kernel

/-- R134: an announced PITCH refused at ADMIT under COPY still leaves its monitor copy; one under PASS leaves none. -/
theorem witness_PitchOfAnOpenNote_copies :
    let pitched := fun (c : NoteContext) => buildPitch .s6 .slur { holding .sounding c with eq := ⟨List.replicate 64 (stroke .s2), 0⟩ }
    (pitched (styled .full .copy true true)).mq.length = 1 ∧ (pitched note40).mq = [] ∧
    (pitched (styled .full .copy true true)).eq.entries.length = 64 := by decide +kernel

/-! ## Witnesses: the links -/

/-- The live part with its pickup link in another state. -/
def linked (link : PickupLink) (good bad : Nat) : State :=
  { live with plu := ⟨link, good, bad, if link = .searching then none else some ⟨.const 9, 0x8000⟩, 0, 5⟩ }

/-- A good and a bad frame at runs of 14 and 15; a part whose synth link is SEARCHING. -/
theorem witness_PickupSlotsWhileSearching :
    (linked .searching 15 0).plu.link = .searching ∧ (linked .searching 15 0).slu.link = .up ∧ goodFrame (goodSlot 0x8001 false) = true ∧
    goodFrame badSlot = false ∧ (after (.pickupFrameSlot (goodSlot 0x8001 false) []) (linked .searching 14 0)).plu.goodRun = 15 ∧
    (after (.pickupFrameSlot (goodSlot 0x8001 false) [.s6, .s1]) (linked .searching 15 0)).plu.frameNo = 6 ∧
    State.reset.slu.link = .searching ∧ State.reset.plu.link = .searching := by decide

/-- A good frame, the first bad one and the seventh. -/
theorem witness_PickupSlotsWhilePlaying :
    (linked .up 16 0).slu.link = .up ∧ (linked .up 16 0).plu.lastGood = some ⟨.const 9, 0x8000⟩ ∧
    (after (.pickupFrameSlot (goodSlot 0x8001 false) []) (linked .holding 16 7)).plu.link = .up ∧
    (after (.pickupFrameSlot badSlot []) (linked .up 16 0)).plu.badRun = 1 ∧
    (after (.pickupFrameSlot badSlot []) (linked .holding 16 6)).plu.badRun = 7 := by decide

/-- The reports of a string's run: a period that a record short of N takes, a peak that grows in ATTACK, and an ONSET. -/
theorem witness_PickupSlotsWhilePlaying_reports :
    let samples : PerString Word := (goodSlot 0x4000 true).samples.map (·.word)
    let counting := put .s6 (fun b => { b with record := { b.record with count := 5 } }) measuring
    let struck := put .s1 (fun b => { b with tracker := ⟨.attack, none, 1⟩ }) live
    let silent := put .s1 (fun b => { b with tracker := ⟨.silent, none, 0⟩ }) live
    (runStage samples 1 .s6 (counting.string .s6)).period = some 149080 ∧ (counting.string .s6).record.state = .running ∧
    (counting.string .s6).record.count + 1 < (counting.string .s6).record.target ∧
    ((after (.pickupFrameSlot (goodSlot 0x4000 true) [.s6, .s1]) counting).string .s6).record.count = 6 ∧
    (struck.string .s1).tracker.state = .attack ∧
    ((after (.pickupFrameSlot (goodSlot 0x4000 true) []) struck).string .s1).tracker = ⟨.attack, none, 4096⟩ ∧
    (runStage samples 1 .s1 (silent.string .s1)).edge = some .onset ∧ [StringNo.s6, .s1].Nodup := by decide +kernel

/-- R12: the sample each tap hands over, by hand from R21 and R23: with k_hi 127, c = 100 − floor(127 · 100 / 256) = 51 and
y = 0 + floor(51 / 4) = 12. -/
theorem witness_PickupSlotsWhilePlaying_taps :
    let frame : PickupFrame := ⟨true, (PerString.const ⟨0, false⟩ |>.set .s1 ⟨100, true⟩).set .s2 ⟨100, true⟩, ⟨0, false⟩⟩
    let handed := fun (tap : Tap) => (after (.pickupFrameSlot frame []) (put .s2 (fun b => { b with
      crosstalk := ⟨127, 0⟩, profile := { b.profile with tap := tap } }) live)).slu.handed.get .s2
    goodFrame frame = true ∧ [Tap.raw, .corrected, .filtered, .zero].map handed = [100, 51, 12, 0] := by decide +kernel

theorem faulted_noteLaw : NoteLaw faulted := by
  intro i c h
  cases i <;> first | (cases h; decide) | cases h

theorem witness_PickupTeardown :
    faulted.slu.link = .up ∧ faulted.plu.link = .holding ∧ faulted.plu.badRun = 7 ∧ goodFrame badSlot = false ∧
    EventQueueLaws faulted ∧ NoteLaw faulted ∧ reservationHeld (faulted.string .s3) = true :=
  ⟨by decide, by decide, by decide, by decide, ⟨by decide, by decide, by intro i; cases i <;> decide⟩, faulted_noteLaw, by decide⟩

/-- R158, R189: strings 1 and 5 are measured and one slot is free, so string 5 waits; with no slot free both wait. -/
theorem witness_PickupTeardown_results :
    let waits := fun (n : Nat) (i : StringNo) => decide
      (((after .pickupTeardown { faulted with rq := List.replicate n ⟨0x08, .accept⟩ }).string i).record.state = .waiting)
    (allStrings.filter fun i => decide ((faulted.string i).record.state ≠ .idle)) = [.s1, .s5] ∧
    [6, 7, 8].map (fun n => (waits n .s1, waits n .s5)) = [(false, false), (false, true), (true, true)] ∧
    (after .pickupTeardown { faulted with rq := List.replicate 8 ⟨0x08, .accept⟩ }).su.flags = 3 := by decide +kernel

/-- The live part with its synth link in another state. -/
def synced (link : SynthLink) (run missing : Nat) : State :=
  { live with slu := { live.slu with link := link, syncRun := run, missing := missing } }

/-- A frame with its sync mark at runs of 2 and 3, one without, and one without in UP. -/
theorem witness_DownstreamSyncRuns :
    (after (.downstreamFrame (carrying 0x8801)) (synced .searching 2 0)).slu.syncRun = 3 ∧
    (after (.downstreamFrame ⟨true, 0x8000, 0⟩) (synced .searching 3 0)).slu.hold = true ∧
    (⟨true, 0x8000, 0⟩ : DownstreamFrame).control.getLsbD 14 = false ∧
    (after (.downstreamFrame (carrying 0x8801)) (synced .searching 3 0)).cu = .collecting ⟨0x08, 1, 0, [], false⟩ ∧
    (after (.downstreamFrame ⟨false, 0, 0⟩) (synced .searching 3 0)).slu.syncRun = 0 ∧
    (after (.downstreamFrame ⟨false, 0, 0⟩) (synced .up 4 0)).slu.missing = 1 := by decide

/-- Every clause: a frame without a command word, a stray word, headers of count 1 and 0 in READY and in COLLECTING, parameter
words that do and do not complete the command, the 129th word stored, and a word met by a held command. -/
theorem witness_DownstreamWords :
    let full := { live with rq := List.replicate 8 ⟨0x08, .accept⟩ }
    let collecting := fun (declared received : Nat) (stored : List Payload) =>
      { full with cu := .collecting ⟨0x04, declared, received, stored, false⟩ }
    let took := fun (w : Word) (s : State) => (after (.downstreamFrame (carrying w)) s).cu
    (synced .up 4 0).slu.link = .up ∧ (carrying 7).sync = true ∧ (carrying 7).control.getLsbD 14 = true ∧
    took 7 live = .ready ∧ took 0x8801 live = .collecting ⟨0x08, 1, 0, [], false⟩ ∧ 8 ≤ full.rq.length ∧
    took 0xA000 full = .held ⟨0x20, 0, 0, [], false⟩ ∧ took 0x8801 (collecting 2 0 []) = .collecting ⟨0x08, 1, 0, [], false⟩ ∧
    took 0xA000 (collecting 2 0 []) = .held ⟨0x20, 0, 0, [], false⟩ ∧
    took 7 (collecting 2 0 []) = .collecting ⟨0x04, 2, 1, [7], false⟩ ∧ took 7 (collecting 2 1 [5]) = .held ⟨0x04, 2, 2, [5, 7], false⟩ ∧
    took 7 (collecting 255 128 []) = .collecting ⟨0x04, 255, 129, [], true⟩ ∧
    took 7 { full with cu := .held ⟨0x20, 0, 0, [], false⟩ } = .held ⟨0x20, 0, 0, [], false⟩ := by decide

theorem witness_SynthLinkLoss : (synced .up 4 1).slu.link = .up ∧ (synced .up 4 1).slu.missing = 1 := by decide

/-! ## Witnesses: ticks and measurement -/

/-- SEARCHING; a count above 0; a tick at hand, with every receiver of string 6 running and one tick short of its point. -/
theorem witness_TickDelivery :
    let s := atTick .s6 fun b => { b with
      timers := ⟨⟨true, 5, 0, 7⟩, ⟨true, 2⟩, ⟨true, 2, 16, 4⟩⟩, record := ⟨.running, 8, 9, 0, 0, none, none, 7, none⟩ }
    let b := s.string .s6
    State.reset.slu.link = .searching ∧ live.slu.link = .up ∧ 0 < live.divider.count ∧ s.divider.count = 0 ∧
    b.timers.attack.value + 1 < b.timers.attack.giveUp ∧ b.timers.attack.value + 1 ≠ b.timers.attack.earlyCommit ∧
    1 < b.timers.release.value ∧ 1 < b.timers.update.value ∧ b.record.elapsed + 1 < b.record.timeout ∧
    ((after .tick s).string .s6).timers = ⟨⟨true, 6, 0, 7⟩, ⟨true, 1⟩, ⟨true, 1, 16, 4⟩⟩ := by decide +kernel

/-- String 6 at the tick of its give-up point. -/
def givingUp : State := atTick .s6 fun b => { b with
  tracker := ⟨.attack, none, 12000⟩, timers := { b.timers with attack := ⟨true, 239, 0, 240⟩ } }

/-- A receiver due at the tick: its row taken ahead, TICK gives what it gives alone. -/
theorem witness_TickDelivery_points :
    givingUp.slu.link = .up ∧ givingUp.divider.count = 0 ∧ ((taken (.giveUp .s6) givingUp).string .s6).ticked.attack = true ∧
    after .tick (taken (.giveUp .s6) givingUp) = after .tick givingUp ∧
    ((after .tick givingUp).string .s6).tracker.state = .silent := by decide +kernel

/-- Only the string with a receiver due is not quiet. -/
theorem witness_TickDelivery_quiet : ¬QuietAtTick (givingUp.string .s6) ∧ ∀ i, i ≠ .s6 → QuietAtTick (givingUp.string i) := by
  refine ⟨by unfold QuietAtTick; decide, fun i h => ?_⟩
  cases i <;> first | exact absurd rfl h | (unfold QuietAtTick; decide)

/-- String 6 in ATTACK at a tick that reaches a point. -/
def attacking (value early giveUp : Nat) (ring : List RawRecord) : State :=
  atTick .s6 fun b => { b with
    grid := some lowE, validator := ⟨none, none, 0, ring⟩, tracker := ⟨.attack, none, 12000⟩
    timers := { b.timers with attack := ⟨true, value, early, giveUp⟩ } }

/-- GU at its largest; EC with an empty ring, with records all outside the grid, and with the second record inside it. -/
theorem witness_AttackClockPoints :
    let s := attacking 1022 0 1023 []
    let b := s.string .s6
    s.slu.link = .up ∧ s.divider.count = 0 ∧ b.ticked.attack = false ∧ b.timers.attack.running = true ∧
    b.tracker.state = .attack ∧ b.tracker.context = none ∧ b.timers.release.running = false ∧ b.timers.update.running = false ∧
    b.timers.attack.giveUp ≤ 1023 ∧ b.timers.attack.value + 1 = b.timers.attack.giveUp ∧
    ((after (.giveUp .s6) s).string .s6).tracker.state = .silent ∧
    ((after (.earlyPoint .s6) (attacking 31 32 240 [])).string .s6).tracker.state = .attack ∧
    gridLookup (some lowE) 160000 = some (.under, 2560) ∧
    ((after (.earlyPoint .s6) (attacking 31 32 240 [⟨160000, .unlocked⟩])).string .s6).tracker.state = .attack ∧
    gridLookup (some lowE) 132840 = some (.within, 2688) ∧
    (after (.earlyPoint .s6) (attacking 31 32 240 [⟨160000, .unlocked⟩, ⟨132840, .unlocked⟩])).eq.entries.map (·.body) =
      [.noteStart .picked 42 106 true 0] := by decide +kernel

/-- A release expiry with the scheduler quiet; an update expiry whose test passes with none queued, and at a difference of the
deadband, and fails one below it. -/
theorem witness_ReleaseAndUpdateExpiries :
    let s := fun (state : TrackerState) (t : Timers) (c : NoteContext) => { put .s6 (fun b => { b with
      timers := t, tracker := ⟨state, some c, 0⟩ }) playing with divider := ⟨11, 0⟩ }
    let quiet : AttackClock := ⟨false, 0, 0, 1⟩
    let released := s .releasing ⟨quiet, ⟨true, 1⟩, ⟨true, 2, 16, 4⟩⟩ note40
    let updated := fun c => s .sounding ⟨quiet, ⟨false, 0⟩, ⟨true, 1, 16, 4⟩⟩ c
    released.slu.link = .up ∧ released.divider.count = 0 ∧ (released.string .s6).tracker.context = some note40 ∧
    (released.string .s6).timers.release = ⟨true, 1⟩ ∧ (released.string .s6).ticked.release = false ∧
    ((updated note40).string .s6).validator.accepted ≠ none ∧
    (after (.updateExpiry .s6) (updated note40)).eq.entries.length = 1 ∧
    (after (.updateExpiry .s6) (updated { note40 with pvQueued := some 2564 })).eq.entries.length = 1 ∧
    (after (.updateExpiry .s6) (updated { note40 with pvQueued := some 2563 })).eq.entries.length = 0 := by decide +kernel

/-- A timeout, a completion and a grant, with a slot free and with none. -/
theorem witness_MeasurementEnds :
    let full := List.replicate 8 (⟨0x08, .accept⟩ : Reply)
    let s := atTick .s4 fun b => { b with record := ⟨.running, 8, 800, 0, 0, none, none, 799, none⟩ }
    let waiting := put .s5 (fun b => { b with record := ⟨.waiting, 8, 800, 0, 0, none, none, 0, some .aborted⟩ }) { live with rq := full }
    s.slu.link = .up ∧ s.divider.count = 0 ∧ (s.string .s4).record.state = .running ∧
    ((after (.measureTimeout .s4) { s with rq := full }).string .s4).record.state = .waiting ∧
    goodFrame (goodSlot 0x4000 true) = true ∧ measuring.plu.link = .up ∧
    (runStage ((goodSlot 0x4000 true).samples.map (·.word)) (measuring.plu.frameNo + 1) .s6 (measuring.string .s6)).period = some 149080 ∧
    (measuring.string .s6).record.count + 1 = (measuring.string .s6).record.target ∧
    (∀ j ∈ allStrings, j ≠ .s6 → (measuring.string j).record.state ≠ .running) ∧
    ((after (.measureComplete .s6 (goodSlot 0x4000 true) []) { measuring with rq := full }).string .s6).record.state = .waiting ∧
    waiting.lane.transmit = none ∧ waiting.rq = ⟨0x08, .accept⟩ :: List.replicate 7 ⟨0x08, .accept⟩ ∧
    waiting.chosenSource = some .rq ∧ (∀ j ∈ allStrings, j.number < 5 → (waiting.string j).record.state ≠ .waiting) ∧
    2 ≤ (⟨0x08, .accept⟩ : Reply).words.length := by decide +kernel

/-- None of the events is at hand in a live part whose links play on. -/
theorem witness_InnerEventsNotAtHand :
    live.plu.link ≠ .holding ∧ live.slu.missing ≠ 1 ∧ (∀ j ∈ allStrings, (live.string j).record.state = .idle) ∧
    live.divider.count ≠ 0 := by decide

/-- R187: a RUNNING record one period short of N, met by the eighth bad frame, by a slot of a SEARCHING link, and by an arrival
that brings it no period; and one two short, met by a period. -/
theorem witness_InnerEventsNotAtHand_measurement :
    let slot := fun (f : PickupFrame) => after (.measureComplete .s6 f [])
    let short := put .s6 (fun b => { b with record := { b.record with count := 6 } }) measuring
    let eighth := { measuring with plu := { measuring.plu with link := .holding, badRun := 7 } }
    let searching := { measuring with plu := ⟨.searching, 14, 0, none, 0, 0⟩ }
    (measuring.string .s6).record.state = .running ∧ goodFrame badSlot = false ∧ 8 ≤ eighth.plu.badRun + 1 ∧
    searching.plu.goodRun + 1 < 16 ∧ (short.string .s6).record.count + 1 < (short.string .s6).record.target ∧
    (runStage (.const 0) 1 .s6 (measuring.string .s6)).period = none ∧
    slot badSlot eighth = eighth ∧ slot (goodSlot 0x4000 true) searching = searching ∧
    slot (goodSlot 0 false) measuring = measuring ∧ slot (goodSlot 0x4000 true) short = short := by decide +kernel

/-- R157: a record waits while a NOTE START fills both lane word slots, and while only the event queue holds anything. -/
theorem witness_InnerEventsNotAtHand_grant :
    let start : Message := ⟨.s6, 6, false, false, .noteStart .picked 40 106 false 0⟩
    let waiting := put .s5 (fun b => { b with record := ⟨.waiting, 8, 800, 0, 0, none, none, 0, some .aborted⟩ })
      { live with eq := ⟨[start], 0⟩, rq := List.replicate 8 ⟨0x08, .accept⟩, lane := ⟨none, .rq⟩ }
    (waiting.string .s5).record.state = .waiting ∧ waiting.chosenSource = some .eq ∧
    (afterLaneSlot waiting).lane.transmit.isSome = true ∧ after .resultGrant waiting = waiting := by decide +kernel

/-! ## Witnesses: commands -/

/-- A part with one reply slot free executes a command at once. -/
def lastSlot (s : State) : State := { s with rq := List.replicate 7 ⟨0x08, .accept⟩ }

theorem executesAtOnce_lastSlot (s : State) (link : s.slu.link = .up) (cu : s.cu = .ready) : executesAtOnce (lastSlot s) :=
  ⟨link, cu, by simp [lastSlot]⟩

theorem executesAtOnce_live : executesAtOnce (lastSlot live) := executesAtOnce_lastSlot live rfl rfl

theorem executesAtOnce_playing : executesAtOnce (lastSlot playing) := executesAtOnce_lastSlot playing rfl rfl

/-- CLEAR COUNTERS at its limits: 127 + 1 is a run, 127 + 2 is none. -/
theorem witness_SettingAndClearCommands :
    executesAtOnce (lastSlot live) ∧ (127#15).toNat ≤ 127 ∧ (128#15).toNat ≤ 128 ∧ (127#15).toNat + (1#15).toNat ≤ 128 ∧
    128 < (127#15).toNat + (2#15).toNat :=
  ⟨executesAtOnce_live, by decide, by decide, by decide, by decide⟩

/-- A tracker that plays; a grid with one entry, which is not good; two entries; forty of them; and 63, the most. -/
theorem witness_LoadGridCommand :
    executesAtOnce (lastSlot playing) ∧ (playing.string .s6).tracker.state = .sounding ∧ executesAtOnce (lastSlot live) ∧
    (live.string .s6).tracker.state = .muted ∧ (List.replicate 63 ((0, 0) : Payload × Payload)).length ≤ 63 ∧
    ¬LoadedGrid ⟨40, [149114]⟩ ∧ LoadedGrid ⟨88, (List.range 40).map (5000 - ·)⟩ :=
  ⟨executesAtOnce_playing, by decide, executesAtOnce_live, by decide, by decide, fun h => absurd h.size (by decide),
    ⟨by decide, by decide, by decide, by decide +kernel⟩⟩

/-- A playing tracker; records IDLE and RUNNING with 6 and 7 replies queued. -/
theorem witness_LoadProfileCommand :
    executesAtOnce (lastSlot playing) ∧ executesAtOnce (lastSlot live) ∧ (live.string .s6).record.state = .idle ∧
    executesAtOnce (lastSlot measuring) ∧ (measuring.string .s6).record.state ≠ .idle ∧ measuring.rq.length < 7 ∧
    (lastSlot measuring).rq.length = 7 ∧ executesAtOnce measuring :=
  ⟨executesAtOnce_playing, executesAtOnce_live, by decide, executesAtOnce_lastSlot measuring rfl rfl, by decide, by decide,
    by decide, ⟨rfl, rfl, by decide⟩⟩

theorem witness_LoadActionAndCrosstalkCommands : executesAtOnce (lastSlot playing) := executesAtOnce_playing

/-- A run that ends at index 255 and one that would pass it. -/
theorem witness_MapCommands :
    executesAtOnce (lastSlot live) ∧ (List.replicate 126 (0 : Payload)).length ≤ 126 ∧ (130#15).toNat + 126 ≤ 256 ∧
    ¬(131#15).toNat + 126 ≤ 256 := ⟨executesAtOnce_live, by simp, by decide, by decide⟩

theorem playing_contextLaw : ContextLaw (lastSlot playing) := by intro i; cases i <;> decide

theorem playing_noteLaw : NoteLaw (lastSlot playing) := by
  intro i c h
  cases i <;> first | (cases h; decide) | cases h

/-- A named string without a grid, one with a grid; an open note with its reservation, the laws met. -/
theorem witness_StringCommands :
    executesAtOnce (lastSlot playing) ∧ (playing.string .s1).grid = none ∧ (playing.string .s6).grid ≠ none ∧
    ContextLaw (lastSlot playing) ∧ NoteLaw (lastSlot playing) ∧ (32#15).getLsbD (StringNo.s6.number - 1) = true ∧
    reservationHeld ((lastSlot playing).string .s6) = true :=
  ⟨executesAtOnce_playing, by decide, by decide, playing_contextLaw, playing_noteLaw, by decide, by decide⟩

/-- R105, R148: an older NOTE END of the string stays, and the new one follows it. -/
theorem witness_StringCommands_queue :
    let end_ := fun cause => (⟨.s6, 6, false, false, .noteEnd cause⟩ : Message)
    (after (.stringOff [32]) { playing with eq := ⟨[end_ .off], 1⟩ }).eq = ⟨[end_ .off, end_ .off], 0⟩ ∧
    (after (.stringOff [31]) { playing with eq := ⟨[end_ .off], 1⟩ }).eq = ⟨[end_ .off], 1⟩ := by decide

theorem witness_MeasureCommands :
    executesAtOnce (lastSlot measuring) ∧ (measuring.string .s6).record.state ≠ .idle ∧ (measuring.string .s1).record.state = .idle :=
  ⟨executesAtOnce_lastSlot measuring rfl rfl, by decide, by decide⟩

/-- Each point and kind at its limit; an offer admitted and one refused. -/
theorem witness_InjectCommand :
    executesAtOnce (lastSlot injecting) ∧ (2#15).toNat ≤ 2 ∧ (3#15).toNat ≤ 3 ∧
    (let x := crossAdmit .pass (some 14) ⟨.s2, 0, false, true, .pitch .glide 60 0⟩ (lastSlot injecting)
     x.offered = true ∧ x.admitted = false) ∧
    (crossAdmit .pass (some 14) ⟨.s2, 0, false, true, .pitch .glide 60 0⟩ (lastSlot live)).admitted = true :=
  ⟨executesAtOnce_lastSlot injecting rfl rfl, by decide, by decide, by decide, by decide⟩

theorem witness_ReadStatusAndStringCommands :
    executesAtOnce (lastSlot playing) ∧ playing.divider.tickBase ≤ 255 ∧ playing.divider.count ≤ 255 ∧
    playing.eq.entries.length ≤ 64 ∧ playing.eq.reserved ≤ 6 ∧ playing.mq.length ≤ 16 ∧
    (playing.string .s1).tracker.context = none ∧ (playing.string .s6).tracker.context = some note40 :=
  ⟨executesAtOnce_playing, by decide, by decide, by decide, by decide, by decide, by decide, by decide⟩

/-- An empty and a loaded grid; runs at their ends, and one past each. -/
theorem witness_ReadGridAndMapCommands :
    executesAtOnce (lastSlot playing) ∧ (playing.string .s1).grid = none ∧ (playing.string .s6).grid = some lowE ∧
    LoadedGrid lowE ∧ (3#15).toNat + (1#15).toNat ≤ lowE.entries.length ∧ lowE.entries.length < (3#15).toNat + (2#15).toNat ∧
    39 < (40#15).toNat ∧ (224#15).toNat + (32#15).toNat ≤ 256 ∧ 256 < (225#15).toNat + (32#15).toNat :=
  ⟨executesAtOnce_playing, by decide, by decide, lowE_loaded, by decide, by decide, by decide, by decide, by decide⟩

/-- The ends of both runs of counters, in either form. -/
theorem witness_ReadSettingsAndCountersCommands :
    executesAtOnce (lastSlot live) ∧ (120#15).toNat + (8#15).toNat ≤ 128 ∧ (1#15).toNat ≤ 1 ∧ (0#15).toNat = 0 ∧
    (8#15).toNat + (16#15).toNat ≤ 24 ∧ ¬(9#15).toNat + (16#15).toNat ≤ 24 :=
  ⟨executesAtOnce_live, by decide, by decide, by decide, by decide, by decide⟩

/-- An open note; none open, with an active record and with none. -/
theorem witness_RestoreDefaultsAndRestart :
    executesAtOnce (lastSlot playing) ∧ (playing.string .s6).tracker.context ≠ none ∧ executesAtOnce (lastSlot measuring) ∧
    (∀ i, (measuring.string i).tracker.context = none ∧ (measuring.string i).stage.trough = none) ∧
    (measuring.string .s6).record.state ≠ .idle ∧ (measuring.string .s1).record.state = .idle :=
  ⟨executesAtOnce_playing, by decide, executesAtOnce_lastSlot measuring rfl rfl, by intro i; cases i <;> decide, by decide,
    by decide⟩

/-- R158, R188: two records active and one slot left after the ACCEPT; the lower string's RESULT takes it. -/
theorem witness_RestoreDefaultsAndRestart_results :
    let s := put .s2 (fun b => { b with record := ⟨.running, 8, 800, 0, 0, none, none, 0, none⟩ })
      { measuring with rq := List.replicate 6 ⟨0x08, .accept⟩ }
    let t := after (.restoreDefaults []) s
    (s.slu.link = .up ∧ s.cu = .ready ∧ s.rq.length < 8) ∧ (∀ i ∈ allStrings, (s.string i).tracker.context = none) ∧
    t.rq.drop 6 = [⟨0x32, .accept⟩, ⟨0x14, .result [10240]⟩] ∧ (t.string .s2).record.state = .idle ∧
    (t.string .s6).record.state = .waiting ∧ t.su.flags = 0x400 := by decide +kernel

/-- A code, a count, a string, a table and a point at the edge of each refusal. -/
theorem witness_RefusedCommands :
    executesAtOnce (lastSlot live) ∧ (List.replicate 255 (0 : Payload)).length ≤ 255 ∧ unlistedCode (0x7F : BitVec 7).toNat ∧
    unlistedCode (0x00 : BitVec 7).toNat ∧ ¬listedCount 2 .setTick ∧ listedCount 1 .setTick ∧ listedCount 1 .readString ∧
    6 < (7#15).toNat ∧ (0#15).toNat = 0 ∧ listedCount 2 .clearMap ∧ 3 < (4#15).toNat ∧
    [(3 : Payload), 0, 1, 0, 0, 0, 0, 0, 0].length = 9 ∧ 2 < (3#15).toNat := by
  refine ⟨executesAtOnce_live, List.length_replicate.le, ?_, ?_, ?_, ?_, ?_, by decide, by decide, ?_, by decide, by decide, by decide⟩ <;>
    simp [unlistedCode, listedCount]

/-- The link UP in READY with no slot free, with a held command and with one in collection; the link SEARCHING. -/
theorem witness_CommandsNotExecutedAtOnce :
    let full := { live with rq := List.replicate 8 ⟨0x08, .accept⟩ }
    full.slu.link = .up ∧ full.cu = .ready ∧ 8 ≤ full.rq.length ∧ crowded.cu = .collecting ⟨0x08, 1, 0, [], false⟩ ∧
    crowded.slu.link = .up ∧ frames1to7.cu = .held ⟨0x08, 1, 1, [23], false⟩ ∧ frames1to7.slu.link = .up ∧
    State.reset.slu.link = .searching := by decide

end Sys2Proof.Tests
end

section
/-!
PROOFS. The status unit in the terms of the statements, the frame of the shared blocks, and one account of what any command or
event of the table can do (`Happens`), from which an invariant is proved case by case.
-/

namespace Sys2Proof.Machine

open Sys2Proof.Safety

/-! ## The status unit -/

/-- A 16-bit count grows by one and saturates (R19). -/
theorem saturatingIncrement_eq (c : BitVec 16) : saturatingIncrement c = BitVec.ofNat 16 (min 65535 (c.toNat + 1)) := by
  have hc := c.isLt
  apply BitVec.eq_of_toNat_eq
  unfold saturatingIncrement
  split
  · next h => subst h; rfl
  · next h =>
    have hne : c.toNat ≠ 65535 := fun e => h (BitVec.eq_of_toNat_eq e)
    simp only [BitVec.toNat_add, BitVec.toNat_ofNat, BitVec.ofNat_eq_ofNat]
    omega

/-- A flag's cause in the terms of the statements (R17). -/
theorem StatusUnit.cause_eq (f : Flag) (su : StatusUnit) : su.cause f = { su with flags := flagsAfter f.bit su } := by
  unfold StatusUnit.cause flagsAfter oneBit
  split <;> rfl

/-- A status counter's cause in the terms of the statements (R19). -/
theorem StatusUnit.bump_eq (c : StatusCounter) (su : StatusUnit) :
    su.bump c = { su with counters := countersAfter c.index 1 su } := by
  simp [StatusUnit.bump, countersAfter, saturatingIncrement_eq]

/-- A flag's cause and a counter's together (R17, R19). -/
theorem State.cause_bump_eq (f : Flag) (c : StatusCounter) (s : State) :
    (s.causeFlag f).bumpCounter c =
      { s with su := { s.su with flags := flagsAfter f.bit s.su, counters := countersAfter c.index 1 s.su } } := by
  simp [State.causeFlag, State.bumpCounter, StatusUnit.cause_eq, StatusUnit.bump_eq, countersAfter]

/-! ## Events taken string by string -/

/-- A relation that every single event keeps up, a run of events keeps up. -/
theorem forStrings_relates {R : State → State → Prop} (refl : ∀ s, R s s) (trans : ∀ s t u, R s t → R t u → R s u)
    (event : StringNo → State → State) (h : ∀ i s, R s (event i s)) (strings : List StringNo) (s : State) :
    R s (forStrings strings event s) := by
  induction strings generalizing s with
  | nil => exact refl s
  | cons i rest ih => exact trans _ _ _ (h i s) (ih _)

/-- The blocks that no event of the strings touches: the pickup link, divider, tables, numbering form, count point, lane, command
unit, flag mask, waiting commands, and the settings of every string. -/
structure SharedKept (s t : State) : Prop where
  plu : t.plu = s.plu
  divider : t.divider = s.divider
  tables : t.tables = s.tables
  numbering : t.numbering = s.numbering
  countPoint : t.rc.countPoint = s.rc.countPoint
  lane : t.lane = s.lane
  cu : t.cu = s.cu
  mask : t.su.mask = s.su.mask
  pending : t.pending = s.pending
  settings : ∀ i, SettingsKept (s.string i) (t.string i)

theorem SharedKept.refl (s : State) : SharedKept s s :=
  ⟨rfl, rfl, rfl, rfl, rfl, rfl, rfl, rfl, rfl, fun _ => ⟨rfl, rfl, rfl, rfl⟩⟩

theorem SharedKept.trans {s t u : State} (h : SharedKept s t) (k : SharedKept t u) : SharedKept s u where
  plu := k.plu.trans h.plu
  divider := k.divider.trans h.divider
  tables := k.tables.trans h.tables
  numbering := k.numbering.trans h.numbering
  countPoint := k.countPoint.trans h.countPoint
  lane := k.lane.trans h.lane
  cu := k.cu.trans h.cu
  mask := k.mask.trans h.mask
  pending := k.pending.trans h.pending
  settings i := ⟨(k.settings i).profile.trans (h.settings i).profile, (k.settings i).crosstalk.trans (h.settings i).crosstalk,
    (k.settings i).grid.trans (h.settings i).grid, (k.settings i).action.trans (h.settings i).action⟩

/-- Where every string keeps its blocks, it keeps its settings. -/
theorem settingsKept_of_eq {b c : StringBlock} (h : c = b) : SettingsKept b c := by
  subst h; exact ⟨rfl, rfl, rfl, rfl⟩

theorem OneString.sharedKept {i : StringNo} {s t : State} (h : OneString i s t) : SharedKept s t where
  plu := h.plu
  divider := h.divider
  tables := h.tables
  numbering := h.numbering
  countPoint := h.countPoint
  lane := h.lane
  cu := h.cu
  mask := h.mask
  pending := h.pending
  settings j := by
    rcases eq_or_ne j i with rfl | hj
    · exact ⟨h.profile, h.crosstalk, h.grid, h.action⟩
    · exact settingsKept_of_eq (h.others j hj)

/-- A change of every string that keeps its settings. -/
theorem SharedKept.modifyAll (f : StringBlock → StringBlock) (s : State) (h : ∀ b, SettingsKept b (f b)) :
    SharedKept s (s.modifyAll f) :=
  ⟨rfl, rfl, rfl, rfl, rfl, rfl, rfl, rfl, rfl, fun i => by simpa using h (s.string i)⟩

theorem forStrings_sharedKept (event : StringNo → State → State) (h : ∀ i s, SharedKept s (event i s))
    (strings : List StringNo) (s : State) : SharedKept s (forStrings strings event s) :=
  forStrings_relates SharedKept.refl (fun _ _ _ => .trans) event h strings s

theorem forStrings_slu (event : StringNo → State → State) (h : ∀ i s, (event i s).slu = s.slu) (strings : List StringNo)
    (s : State) : (forStrings strings event s).slu = s.slu :=
  forStrings_relates (R := fun s t => t.slu = s.slu) (fun _ => rfl) (fun _ _ _ h k => k.trans h) event h strings s

/-! ## What a command or event can do -/

/-- Everything a row of the table can do to the part: one of the stimuli, a command's words, one receiver's share of a tick, or,
where a row's event is not at hand, nothing. -/
inductive Happens (s : State) : State → Prop
  | nothing : Happens s s
  | powerOn : Happens s { State.reset with pending := s.pending }
  | slot (f : PickupFrame) (order : List StringNo) : Happens s (pickupSlot f order s)
  | words (f : DownstreamFrame) : Happens s (downstream f s)
  | frame : Happens s (upstream s)
  | period : Happens s (dividerPeriod s)
  | command (code : BitVec 7) (params : List Payload) : Happens s (sendCommand code params s)
  | attack (i : StringNo) : Happens s (attackOnce i (quietTimers i s))
  | release (i : StringNo) : Happens s (releaseOnce i (quietTimers i s))
  | update (i : StringNo) : Happens s (updateOnce i (quietTimers i s))
  | record (i : StringNo) : Happens s (recordOnce i s)

/-- An event that occurs only under a condition is itself or nothing. -/
theorem Happens.occurs {s : State} {event : State → State} (condition : Bool) (h : Happens s (event s)) :
    Happens s (occurs condition event s) := by
  unfold Machine.occurs
  split
  · exact h
  · exact .nothing

theorem exec_happens (c : Instr) (s t : State) (h : exec c s = .next t) : Happens s t := by
  cases c <;> cases h
  case powerOn => exact .powerOn
  case pickupFrameSlot => exact .slot _ _
  case pickupTeardown => exact .occurs _ (.slot _ _)
  case measureComplete => exact .occurs _ (.slot _ _)
  case downstreamFrame => exact .words _
  case synthLinkLoss => exact .occurs _ (.words _)
  case upstreamFrame => exact .frame
  case resultGrant => exact .occurs _ .frame
  case tick => exact .period
  case earlyPoint => exact .occurs (event := fun t => attackOnce _ (quietTimers _ t)) _ (.attack _)
  case giveUp => exact .occurs (event := fun t => attackOnce _ (quietTimers _ t)) _ (.attack _)
  case releaseExpiry => exact .occurs (event := fun t => releaseOnce _ (quietTimers _ t)) _ (.release _)
  case updateExpiry => exact .occurs (event := fun t => updateOnce _ (quietTimers _ t)) _ (.update _)
  case measureTimeout => exact .occurs _ (.record _)
  all_goals exact .command _ _

/-- What no change of the waiting commands can break, and everything that happens keeps, every step keeps. -/
theorem step_keeps {P : State → Prop} (waiting : ∀ s rest, P s → P { s with pending := rest })
    (h : ∀ s t, Happens s t → P s → P t) {s t : State} (hs : step s = .next t) (hp : P s) : P t := by
  unfold step at hs
  split at hs
  · cases hs; exact hp
  · exact h _ _ (exec_happens _ _ _ hs) (waiting s _ hp)

/-! ## O1, O3, O23 -/

/-- Settles O1. -/
theorem stepTakesTheFrontCommand : Obligations.StepTakesTheFrontCommand :=
  ⟨fun _ _ _ => rfl, fun _ => rfl⟩

/-- The power-on flag mask bit by bit (R17). -/
theorem powerOnFlagMask_bit (k : Nat) (hk : k < 12) : powerOnFlagMask.getLsbD k = decide (k ≠ 8 ∧ k ≠ 9) := by
  revert k; decide

/-- Settles O3: POWER_ON leaves the reset state, whose blocks are read off one by one. -/
theorem powerOnLeavesThePowerOnState : Obligations.PowerOnLeavesThePowerOnState := by
  intro s
  have string (i : StringNo) : State.string { State.reset with pending := s.pending } i = .powerOn :=
    PerString.get_const StringBlock.powerOn i
  refine ⟨{ State.reset with pending := s.pending }, rfl, rfl, rfl, rfl, rfl, rfl, rfl, rfl, rfl, rfl, rfl, ?sets, rfl, rfl,
    rfl, rfl, rfl, rfl, powerOnFlagMask_bit, ?counters, ?tables, ?strings⟩
  case sets =>
    intro k hk
    simp [State.reset, Rc.powerOn, hk]
  case counters =>
    intro k hk
    simp [State.reset, StatusUnit.powerOn, hk]
  case tables =>
    intro n
    have table : State.reset.tables[n] = .powerOn := by simp [State.reset]
    refine ⟨by simp [table, MapTable.powerOn], fun k hk => ?_⟩
    simp [table, MapTable.powerOn, hk]
  case strings =>
    intro i
    rw [string]
    exact ⟨rfl, rfl, rfl, rfl, rfl, rfl, rfl, rfl, rfl, rfl, rfl, rfl, rfl, rfl, rfl, rfl, rfl, rfl, rfl⟩

/-- Settles O23. -/
theorem monitorQueueKeepsTheNewest : Obligations.MonitorQueueKeepsTheNewest := by
  intro m s
  constructor
  · intro h
    simp [State.placeMonitor, Config.monitorQueueSize, h]
  · intro h
    rw [State.placeMonitor, if_neg (by simpa [Config.monitorQueueSize] using h)]
    exact State.cause_bump_eq .monitorLost .monitorLost { s with mq := s.mq.tail ++ [m] }

end Sys2Proof.Machine
end

section
/-!
PROOFS. What a command's run, the command unit and the message lane leave of the links and of the collection state.
-/

namespace Sys2Proof.Machine

open Sys2Proof.Safety

/-! ## The links and the waiting commands -/

/-- Neither link nor the waiting commands are touched. -/
structure LinksKept (s t : State) : Prop where
  plu : t.plu = s.plu
  slu : t.slu = s.slu
  pending : t.pending = s.pending

theorem LinksKept.refl (s : State) : LinksKept s s := ⟨rfl, rfl, rfl⟩

theorem LinksKept.trans {s t u : State} (h : LinksKept s t) (k : LinksKept t u) : LinksKept s u :=
  ⟨k.plu.trans h.plu, k.slu.trans h.slu, k.pending.trans h.pending⟩

/-- What a command's run can do to the links and the command unit: no link is touched, and the unit is left as it stands or
returned to READY (R9). -/
structure RunKeeps (s t : State) : Prop extends LinksKept s t where
  cu : t.cu = s.cu ∨ t.cu = .ready

theorem RunKeeps.refl (s : State) : RunKeeps s s := ⟨.refl s, .inl rfl⟩

theorem RunKeeps.trans {s t u : State} (h : RunKeeps s t) (k : RunKeeps t u) : RunKeeps s u where
  toLinksKept := h.toLinksKept.trans k.toLinksKept
  cu := by
    rcases k.cu with hk | hk
    · rw [hk]; exact h.cu
    · exact .inr hk

/-- No link is touched, nor the command unit, nor the lane. -/
structure UnitKept (s t : State) : Prop extends LinksKept s t where
  cu : t.cu = s.cu
  lane : t.lane = s.lane

theorem UnitKept.refl (s : State) : UnitKept s s := ⟨.refl s, rfl, rfl⟩

theorem UnitKept.trans {s t u : State} (h : UnitKept s t) (k : UnitKept t u) : UnitKept s u :=
  ⟨h.toLinksKept.trans k.toLinksKept, k.cu.trans h.cu, k.lane.trans h.lane⟩

theorem UnitKept.runKeeps {s t : State} (h : UnitKept s t) : RunKeeps s t := ⟨h.toLinksKept, .inl h.cu⟩

theorem OneTracker.unitKept {i : StringNo} {s t : State} (h : OneTracker i s t) : UnitKept s t :=
  ⟨⟨h.plu, h.slu, h.pending⟩, h.cu, h.lane⟩

theorem OneRecord.unitKept {i : StringNo} {s t : State} (h : OneRecord i s t) : UnitKept s t :=
  ⟨⟨h.plu, h.slu, h.pending⟩, h.cu, h.lane⟩

theorem QueuesOnly.unitKept {s t : State} (h : QueuesOnly s t) : UnitKept s t :=
  ⟨⟨h.plu, h.slu, h.pending⟩, h.cu, h.lane⟩

theorem forStrings_unitKept (event : StringNo → State → State) (h : ∀ i s, UnitKept s (event i s))
    (strings : List StringNo) (s : State) : UnitKept s (forStrings strings event s) :=
  forStrings_relates UnitKept.refl (fun _ _ _ => .trans) event h strings s

theorem modifyString_unitKept (i : StringNo) (f : StringBlock → StringBlock) (s : State) : UnitKept s (s.modifyString i f) :=
  ⟨⟨rfl, rfl, rfl⟩, rfl, rfl⟩

theorem carriedOut_unitKept {s t : State} (adjusted : Bool) (h : UnitKept s t) : UnitKept s (carriedOut adjusted t).state := h

theorem withString_unitKept (word : Payload) (run : StringNo → State → Executed) (s : State)
    (h : ∀ i, UnitKept s (run i s).state) : UnitKept s (withString word run s).state := by
  unfold withString
  split
  · exact .refl s
  · exact h _

theorem withTable_unitKept (word : Payload) (run : Fin 4 → State → Executed) (s : State)
    (h : ∀ n, UnitKept s (run n s).state) : UnitKept s (withTable word run s).state := by
  unfold withTable
  split
  · exact .refl s
  · exact h _

/-! ## The runs of the commands, kind by kind -/

theorem runLoadGrid_unitKept (params : List Payload) (s : State) : UnitKept s (runLoadGrid params s).state := by
  unfold runLoadGrid
  split
  · refine withString_unitKept _ _ _ fun i => ?_
    split
    · exact .refl s
    · split
      · exact .refl s
      · exact carriedOut_unitKept _ (modifyString_unitKept i _ s)
  · exact .refl s

theorem runLoadProfile_unitKept (params : List Payload) (s : State) : UnitKept s (runLoadProfile params s).state := by
  unfold runLoadProfile
  split
  · split
    · exact .refl s
    · refine withString_unitKept _ _ _ fun i => ?_
      split
      · exact .refl s
      · exact (modifyString_unitKept _ _ s).trans (abortRecord_touches i _).unitKept
  · exact .refl s

theorem runLoadAction_unitKept (params : List Payload) (s : State) : UnitKept s (runLoadAction params s).state := by
  unfold runLoadAction
  split
  · split
    · exact .refl s
    · exact withString_unitKept _ _ _ fun i => carriedOut_unitKept _ (modifyString_unitKept i _ s)
  · exact .refl s

theorem runLoadMap_unitKept (params : List Payload) (s : State) : UnitKept s (runLoadMap params s).state := by
  unfold runLoadMap
  split
  · refine withTable_unitKept _ _ _ fun n => ?_
    split
    · exact .refl s
    · exact ⟨⟨rfl, rfl, rfl⟩, rfl, rfl⟩
  · exact .refl s

theorem runClearMap_unitKept (params : List Payload) (s : State) : UnitKept s (runClearMap params s).state := by
  unfold runClearMap
  split
  · exact withTable_unitKept _ _ _ fun n => ⟨⟨rfl, rfl, rfl⟩, rfl, rfl⟩
  · exact .refl s

theorem runLoadCrosstalk_unitKept (params : List Payload) (s : State) : UnitKept s (runLoadCrosstalk params s).state := by
  unfold runLoadCrosstalk
  split
  · exact withString_unitKept _ _ _ fun i => carriedOut_unitKept _ (modifyString_unitKept i _ s)
  · exact .refl s

theorem runSetStyle_unitKept (params : List Payload) (s : State) : UnitKept s (runSetStyle params s).state := by
  unfold runSetStyle
  split
  · exact forStrings_unitKept _ (fun i t => modifyString_unitKept i _ t) _ s
  · exact .refl s

theorem runStringOn_unitKept (params : List Payload) (s : State) : UnitKept s (runStringOn params s).state := by
  unfold runStringOn
  split
  · split
    · exact .refl s
    · exact forStrings_unitKept _ (fun i t => (onString_touches i t).unitKept) _ s
  · exact .refl s

theorem runStringOff_unitKept (params : List Payload) (s : State) : UnitKept s (runStringOff params s).state := by
  unfold runStringOff
  split
  · exact forStrings_unitKept _ (fun i t => (offString_touches i t).unitKept) _ s
  · exact .refl s

theorem runAllNotesEnd_unitKept (params : List Payload) (s : State) : UnitKept s (runAllNotesEnd params s).state := by
  unfold runAllNotesEnd
  split
  · exact forStrings_unitKept _ (fun i t => (panicString_touches i t).unitKept) _ s
  · exact .refl s

theorem runMeasure_unitKept (params : List Payload) (s : State) : UnitKept s (runMeasure params s).state := by
  unfold runMeasure
  split
  · refine withString_unitKept _ _ _ fun i => ?_
    split
    · exact .refl s
    · exact carriedOut_unitKept _ (modifyString_unitKept i _ s)
  · exact .refl s

theorem runMeasureCancel_unitKept (params : List Payload) (s : State) : UnitKept s (runMeasureCancel params s).state := by
  unfold runMeasureCancel
  split
  · refine withString_unitKept _ _ _ fun i => ?_
    split
    · exact (OneRecord.modifyRecord i _ s).unitKept
    · exact .refl s
  · exact .refl s

theorem crossInjected_queuesOnly (point : InjectPoint) (j : Injection) (s : State) :
    QueuesOnly s (crossInjected point j s).state := by
  cases point
  · exact crossRoute_queuesOnly _ _ _ _ _ _ s
  · exact crossRoute_queuesOnly _ _ _ _ _ _ s
  · exact crossAdmit_queuesOnly _ _ _ s

theorem injectReply_unitKept (clamped : Bool) (x : Crossing) : UnitKept x.state (injectReply clamped x).state := by
  unfold injectReply
  split
  · exact ⟨⟨rfl, rfl, rfl⟩, rfl, rfl⟩
  · exact .refl x.state

theorem runInject_unitKept (params : List Payload) (s : State) : UnitKept s (runInject params s).state := by
  unfold runInject
  split
  · split
    · exact withString_unitKept _ _ _ fun i =>
        (crossInjected_queuesOnly _ _ s).unitKept.trans (injectReply_unitKept _ _)
    · exact .refl s
  · exact .refl s

theorem runClearCounters_unitKept (params : List Payload) (s : State) : UnitKept s (runClearCounters params s).state := by
  unfold runClearCounters
  split
  · split
    · exact .refl s
    · exact ⟨⟨rfl, rfl, rfl⟩, rfl, rfl⟩
  · exact .refl s

theorem runRestoreDefaults_unitKept (params : List Payload) (s : State) :
    UnitKept s (runRestoreDefaults params s).state := by
  unfold runRestoreDefaults
  split
  · split
    · exact .refl s
    · exact UnitKept.trans (t := restoredSettings s) ⟨⟨rfl, rfl, rfl⟩, rfl, rfl⟩
        (forStrings_unitKept _ (fun i t => (abortRecord_touches i t).unitKept) _ _)
  · exact .refl s

theorem runRestart_runKeeps (params : List Payload) (s : State) : RunKeeps s (runRestart params s).state := by
  unfold runRestart
  split
  · exact ⟨⟨rfl, rfl, rfl⟩, .inr rfl⟩
  · exact .refl s

/-- A read leaves the whole part as it stood (R178). -/
def ReadsOnly (run : List Payload → State → Executed) : Prop := ∀ params s, (run params s).state = s

theorem withString_reads (word : Payload) (run : StringNo → State → Executed) (s : State) (h : ∀ i, (run i s).state = s) :
    (withString word run s).state = s := by
  unfold withString
  split
  · rfl
  · exact h _

theorem withTable_reads (word : Payload) (run : Fin 4 → State → Executed) (s : State) (h : ∀ n, (run n s).state = s) :
    (withTable word run s).state = s := by
  unfold withTable
  split
  · rfl
  · exact h _

theorem runReadStatus_reads : ReadsOnly runReadStatus := by
  intro params s
  unfold runReadStatus
  split <;> rfl

theorem runReadString_reads : ReadsOnly runReadString := by
  intro params s
  unfold runReadString
  split
  · exact withString_reads _ _ _ fun _ => rfl
  · rfl

theorem runReadAction_reads : ReadsOnly runReadAction := by
  intro params s
  unfold runReadAction
  split
  · exact withString_reads _ _ _ fun _ => rfl
  · rfl

theorem runReadProfile_reads : ReadsOnly runReadProfile := by
  intro params s
  unfold runReadProfile
  split
  · exact withString_reads _ _ _ fun _ => rfl
  · rfl

theorem runReadGrid_reads : ReadsOnly runReadGrid := by
  intro params s
  unfold runReadGrid
  split
  · refine withString_reads _ _ _ fun i => ?_
    split
    · rfl
    · split
      · rfl
      · split
        · rfl
        · split <;> rfl
  · rfl

theorem runReadMap_reads : ReadsOnly runReadMap := by
  intro params s
  unfold runReadMap
  split
  · refine withTable_reads _ _ _ fun n => ?_
    split
    · rfl
    · split <;> rfl
  · rfl

theorem runReadCounters_reads : ReadsOnly runReadCounters := by
  intro params s
  unfold runReadCounters
  split
  · split <;> rfl
  · rfl

theorem runReadStatusCounters_reads : ReadsOnly runReadStatusCounters := by
  intro params s
  unfold runReadStatusCounters
  split
  · split <;> rfl
  · rfl

theorem ReadsOnly.unitKept {run : List Payload → State → Executed} (h : ReadsOnly run) (params : List Payload) (s : State) :
    UnitKept s (run params s).state := by
  rw [h params s]
  exact .refl s

/-- No command's run but RESTART's touches a link, the command unit or the lane (R171). -/
theorem run_unitKept (c : Command) (h : c ≠ .restart) (params : List Payload) (s : State) : UnitKept s (c.run params s).state := by
  cases c
  case loadGrid => exact runLoadGrid_unitKept params s
  case loadProfile => exact runLoadProfile_unitKept params s
  case loadAction => exact runLoadAction_unitKept params s
  case loadMap => exact runLoadMap_unitKept params s
  case clearMap => exact runClearMap_unitKept params s
  case loadCrosstalk => exact runLoadCrosstalk_unitKept params s
  case setStyle => exact runSetStyle_unitKept params s
  case stringOn => exact runStringOn_unitKept params s
  case stringOff => exact runStringOff_unitKept params s
  case allNotesEnd => exact runAllNotesEnd_unitKept params s
  case measure => exact runMeasure_unitKept params s
  case measureCancel => exact runMeasureCancel_unitKept params s
  case inject => exact runInject_unitKept params s
  case readStatus => exact runReadStatus_reads.unitKept params s
  case readString => exact runReadString_reads.unitKept params s
  case readGrid => exact runReadGrid_reads.unitKept params s
  case readMap => exact runReadMap_reads.unitKept params s
  case readAction => exact runReadAction_reads.unitKept params s
  case readProfile => exact runReadProfile_reads.unitKept params s
  case readCounters => exact runReadCounters_reads.unitKept params s
  case readStatusCounters => exact runReadStatusCounters_reads.unitKept params s
  case clearCounters => exact runClearCounters_unitKept params s
  case restoreDefaults => exact runRestoreDefaults_unitKept params s
  case restart => exact absurd rfl h
  all_goals
    simp only [Command.run, runSetTick, runSetNumbering, runSetFlagMask, runSetCountPoint, runClearFlags]
    split
    · exact ⟨⟨rfl, rfl, rfl⟩, rfl, rfl⟩
    · exact .refl s

/-- No command's run touches a link, and the command unit stays as it stands or returns to READY (R171). -/
theorem run_runKeeps (c : Command) (params : List Payload) (s : State) : RunKeeps s (c.run params s).state := by
  rcases eq_or_ne c .restart with rfl | hc
  · exact runRestart_runKeeps params s
  · exact (run_unitKept c hc params s).runKeeps

theorem runBuffer_runKeeps (b : CommandBuffer) (s : State) : RunKeeps s (runBuffer b s).state := by
  unfold runBuffer
  split
  · exact .refl s
  · split
    · exact .refl s
    · exact run_runKeeps _ _ s

/-! ## The command unit -/

theorem placeReply_runKeeps (r : Reply) (s : State) : RunKeeps s (s.placeReply r) := ⟨⟨rfl, rfl, rfl⟩, .inl rfl⟩

/-- An execution from a command unit returned to READY. -/
theorem execute_runKeeps (b : CommandBuffer) (s : State) : RunKeeps { s with cu := .ready } (execute b s) :=
  ((runBuffer_runKeeps b { s with cu := .ready }).trans (placeReply_runKeeps _ _)).trans
    (forStrings_unitKept seekSlot (fun i t => (seekSlot_touches i t).unitKept) _ _).runKeeps

/-- Executing a command touches no link. -/
theorem execute_linksKept (b : CommandBuffer) (s : State) : LinksKept s (execute b s) :=
  LinksKept.trans (t := { s with cu := .ready }) ⟨rfl, rfl, rfl⟩ (execute_runKeeps b s).toLinksKept

/-- After an execution the command unit is READY (R167). -/
theorem execute_cu (b : CommandBuffer) (s : State) : (execute b s).cu = .ready := by
  simpa using (execute_runKeeps b s).cu

/-- The command unit's law reads the collection state alone. -/
theorem commandUnitLaw_of_cu {s t : State} (h : CommandUnitLaw s) (hcu : t.cu = s.cu) : CommandUnitLaw t := by
  unfold CommandUnitLaw
  rw [hcu]
  exact h

theorem commandUnitLaw_of_ready {t : State} (hcu : t.cu = .ready) : CommandUnitLaw t := by
  simp [CommandUnitLaw, hcu]

theorem commandUnitLaw_of_collecting {t : State} {b : CommandBuffer} (hcu : t.cu = .collecting b) (hb : bufferLawful b = true)
    (hless : b.received < b.declared) : CommandUnitLaw t := by
  simp [CommandUnitLaw, hcu, hb, hless]

theorem commandUnitLaw_of_held {t : State} {b : CommandBuffer} (hcu : t.cu = .held b) (hb : bufferLawful b = true)
    (hall : b.received = b.declared) : CommandUnitLaw t := by
  simp [CommandUnitLaw, hcu, hb, hall]

/-- A run keeps the command unit's law. -/
theorem RunKeeps.commandUnitLaw {s t : State} (h : RunKeeps s t) (law : CommandUnitLaw s) : CommandUnitLaw t := by
  rcases h.cu with hcu | hcu
  · exact commandUnitLaw_of_cu law hcu
  · exact commandUnitLaw_of_ready hcu

/-- A buffer that has just been started is lawful (R164). -/
theorem bufferLawful_fresh (code : BitVec 7) (declared : Nat) (h : declared ≤ 255) :
    bufferLawful ⟨code, declared, 0, [], false⟩ = true := by
  simp [bufferLawful, h]

/-- A parameter word leaves a lawful buffer lawful (R165). -/
theorem bufferLawful_consume (p : Payload) (b : CommandBuffer) (h : bufferLawful b = true) :
    bufferLawful (b.consume p) = true := by
  simp only [bufferLawful, Bool.and_eq_true, decide_eq_true_eq, beq_iff_eq] at h ⊢
  obtain ⟨⟨hdeclared, hstored⟩, hoverflow⟩ := h
  unfold CommandBuffer.consume Config.bufferSize
  split
  · next hroom =>
    refine ⟨⟨hdeclared, by simp; omega⟩, hoverflow.trans (decide_eq_decide.mpr ?_)⟩
    simp only
    omega
  · next hroom =>
    exact ⟨⟨hdeclared, by simp only; omega⟩, (decide_eq_true (by simp only; omega)).symm⟩

/-- What the command unit may do with words: it touches no link and keeps its law. -/
structure WordsKeep (s t : State) : Prop extends LinksKept s t where
  law : CommandUnitLaw s → CommandUnitLaw t

theorem WordsKeep.refl (s : State) : WordsKeep s s := ⟨.refl s, id⟩

theorem WordsKeep.trans {s t u : State} (h : WordsKeep s t) (k : WordsKeep t u) : WordsKeep s u :=
  ⟨h.toLinksKept.trans k.toLinksKept, k.law ∘ h.law⟩

theorem RunKeeps.wordsKeep {s t : State} (h : RunKeeps s t) : WordsKeep s t := ⟨h.toLinksKept, h.commandUnitLaw⟩

theorem execute_wordsKeep (b : CommandBuffer) (s : State) : WordsKeep s (execute b s) :=
  ⟨execute_linksKept b s, fun _ => commandUnitLaw_of_ready (execute_cu b s)⟩

/-- Taking a whole command executes it or holds it (R167); either way no link is touched. -/
theorem takeCommand_linksKept (b : CommandBuffer) (s : State) : LinksKept s (takeCommand b s) := by
  unfold takeCommand
  split
  · exact execute_linksKept b s
  · exact ⟨rfl, rfl, rfl⟩

/-- Whatever the command unit held before, a whole lawful buffer leaves it lawful. -/
theorem takeCommand_law (b : CommandBuffer) (s : State) (hb : bufferLawful b = true) (hall : b.received = b.declared) :
    CommandUnitLaw (takeCommand b s) := by
  unfold takeCommand
  split
  · exact commandUnitLaw_of_ready (execute_cu b s)
  · exact commandUnitLaw_of_held rfl hb hall

/-- A header starts a lawful buffer, whatever went before (R164). -/
theorem startCommand_wordsKeep (code : BitVec 7) (declared : Nat) (s : State) (h : declared ≤ 255) :
    WordsKeep s (startCommand code declared s) := by
  unfold startCommand
  simp only
  split
  · next hzero =>
    exact ⟨takeCommand_linksKept _ s, fun _ => takeCommand_law _ s (bufferLawful_fresh code declared h) hzero.symm⟩
  · next hpos =>
    exact ⟨⟨rfl, rfl, rfl⟩, fun _ =>
      commandUnitLaw_of_collecting rfl (bufferLawful_fresh code declared h) (Nat.pos_of_ne_zero hpos)⟩

theorem headerCount_le (w : Word) : headerCount w ≤ 255 := by
  unfold headerCount fieldOf
  omega

/-- A command word touches no link and keeps the command unit's law (R164 to R168). -/
theorem takeWord_wordsKeep (w : Word) (s : State) : WordsKeep s (takeWord w s) := by
  unfold takeWord
  split
  · split
    · exact startCommand_wordsKeep _ _ s (headerCount_le w)
    · exact RunKeeps.wordsKeep ⟨⟨rfl, rfl, rfl⟩, .inl rfl⟩
  · next b hcu =>
    split
    · have abandoned : RunKeeps s (noteAbandoned { s with cu := .ready }) := ⟨⟨rfl, rfl, rfl⟩, .inr rfl⟩
      exact abandoned.wordsKeep.trans (startCommand_wordsKeep _ _ _ (headerCount_le w))
    · simp only
      split
      · next hall =>
        exact ⟨takeCommand_linksKept _ s, fun law => takeCommand_law _ s (bufferLawful_consume _ b (law.1 b hcu).1) hall⟩
      · next hmore =>
        refine ⟨⟨rfl, rfl, rfl⟩, fun law => ?_⟩
        obtain ⟨hb, hless⟩ := law.1 b hcu
        refine commandUnitLaw_of_collecting rfl (bufferLawful_consume _ b hb) ?_
        simp only [CommandBuffer.consume_received, CommandBuffer.consume_declared] at hmore ⊢
        omega
  · exact RunKeeps.wordsKeep ⟨⟨rfl, rfl, rfl⟩, .inl rfl⟩

theorem takeWords_wordsKeep (words : List Word) (s : State) :
    WordsKeep s (words.foldl (fun t w => takeWord w t) s) := by
  induction words generalizing s with
  | nil => exact .refl s
  | cons w rest ih => exact (takeWord_wordsKeep w s).trans (ih _)

theorem sendCommand_wordsKeep (code : BitVec 7) (params : List Payload) (s : State) :
    WordsKeep s (sendCommand code params s) := by
  unfold sendCommand
  split
  · exact takeWords_wordsKeep _ s
  · exact .refl s

/-! ## The message lane -/

theorem grantSlot_wordsKeep (s : State) : WordsKeep s (grantSlot s) := by
  unfold grantSlot
  split
  · exact (seekSlot_touches _ s).unitKept.runKeeps.wordsKeep
  · split
    · exact execute_wordsKeep _ s
    · exact .refl s
    · exact .refl s

theorem dropHead_runKeeps (source : Source) (s : State) (lane : Lane) :
    RunKeeps s { s.dropHead source with lane := lane } := by
  cases source <;> exact ⟨⟨rfl, rfl, rfl⟩, .inl rfl⟩

theorem beginMessage_wordsKeep (source : Source) (s : State) : WordsKeep s (beginMessage source s) := by
  have begun (source : Source) := (dropHead_runKeeps source s ⟨transmitAfterHead (s.headWords source) source, source⟩).wordsKeep
  cases source
  · exact (begun .rq).trans (grantSlot_wordsKeep _)
  · exact begun .eq
  · exact begun .mq

/-- A lane word slot touches no link and keeps the command unit's law (R159). -/
theorem afterLaneSlot_wordsKeep (s : State) : WordsKeep s (afterLaneSlot s) := by
  unfold afterLaneSlot
  split
  · exact RunKeeps.wordsKeep ⟨⟨rfl, rfl, rfl⟩, .inl rfl⟩
  · split
    · exact beginMessage_wordsKeep _ s
    · exact .refl s

end Sys2Proof.Machine
end

section
/-!
PROOFS. The pickup link's own transition at a slot, what a frame arrival, a teardown and a tick leave of the links, and O11.
-/

namespace Sys2Proof.Machine

open Sys2Proof.Safety

/-! ## Frame arrivals -/

theorem leaveStage_sharedKept (i : StringNo) (r : StageReport) (s : State) : SharedKept s (leaveStage i r s) where
  plu := rfl
  divider := rfl
  tables := rfl
  numbering := rfl
  countPoint := rfl
  lane := rfl
  cu := rfl
  mask := rfl
  pending := rfl
  settings j := by
    rcases eq_or_ne j i with rfl | hj
    · rw [leaveStage_string]; exact ⟨rfl, rfl, rfl, rfl⟩
    · exact settingsKept_of_eq (leaveStage_string_other r s hj)

/-- One string's part of an arrival, once its stage has run, is an event of that string (R20, step 8). -/
theorem stringArrival_reports (samples : PerString Word) (i : StringNo) (s : State) :
    OneString i (leaveStage i (runStage samples s.plu.frameNo i (s.string i)) s) (stringArrival samples i s) :=
  (followPeak_touches i _).trans (deliverReports_touches i _ _ _)

theorem stringArrival_sharedKept (samples : PerString Word) (i : StringNo) (s : State) :
    SharedKept s (stringArrival samples i s) :=
  (leaveStage_sharedKept i _ s).trans (stringArrival_reports samples i s).sharedKept

theorem frameArrival_sharedKept (samples : PerString Word) (order : List StringNo) (s : State) :
    SharedKept { s with plu := { s.plu with frameNo := s.plu.frameNo + 1 } } (frameArrival samples order s) :=
  forStrings_sharedKept _ (stringArrival_sharedKept samples) _ _

/-- Of the synth link's state a frame arrival touches the samples handed over alone (R12). -/
theorem frameArrival_slu (samples : PerString Word) (order : List StringNo) (s : State) :
    (frameArrival samples order s).slu = { s.slu with handed := (frameArrival samples order s).slu.handed } :=
  forStrings_relates (R := fun s t => t.slu = { s.slu with handed := t.slu.handed }) (fun _ => rfl)
    (fun _ _ _ h k => by rw [k, h]) _ (fun i s => by rw [(stringArrival_frame samples i s).2.1]) _ _

@[simp] theorem frameArrival_plu (samples : PerString Word) (order : List StringNo) (s : State) :
    (frameArrival samples order s).plu = { s.plu with frameNo := s.plu.frameNo + 1 } :=
  (frameArrival_sharedKept samples order s).plu

@[simp] theorem frameArrival_cu (samples : PerString Word) (order : List StringNo) (s : State) :
    (frameArrival samples order s).cu = s.cu :=
  (frameArrival_sharedKept samples order s).cu

/-! ## The pickup teardown -/

/-- Stages 1 to 3 of the teardown: the notes ended, the trackers silenced, the stages and validators cleared (R6). -/
def teardownCleared (s : State) : State :=
  ((forStrings allStrings linkEnd s).modifyAll (·.silence)).modifyAll (·.clearStage)

/-- The end of the teardown: no last good frame, and PICKUP_LOST (R6). -/
def teardownLast (s : State) : State := { s with plu := { s.plu with lastGood := none } }.causeFlag .pickupLost

theorem pickupTeardown_eq (s : State) :
    pickupTeardown s = teardownLast (forStrings allStrings abortAndSeek (teardownCleared s)) := by
  simp only [pickupTeardown, teardownLast, teardownCleared]

theorem linkEnd_touches (i : StringNo) (s : State) : OneString i s (linkEnd i s) := (endNote_touches i .link s).oneString

theorem abortAndSeek_touches (i : StringNo) (s : State) : OneRecord i s (abortAndSeek i s) :=
  (abortRecord_touches i s).trans (seekSlot_touches i _)

theorem teardownCleared_sharedKept (s : State) : SharedKept s (teardownCleared s) :=
  ((forStrings_sharedKept linkEnd (fun i t => (linkEnd_touches i t).sharedKept) allStrings s).trans
    (.modifyAll (·.silence) _ fun _ => ⟨rfl, rfl, rfl, rfl⟩)).trans
    (.modifyAll (·.clearStage) _ fun _ => ⟨rfl, rfl, rfl, rfl⟩)

theorem teardownLast_sharedKept (s : State) : SharedKept { s with plu := { s.plu with lastGood := none } } (teardownLast s) :=
  ⟨rfl, rfl, rfl, rfl, rfl, rfl, rfl, StatusUnit.cause_mask _ _, rfl, fun _ => ⟨rfl, rfl, rfl, rfl⟩⟩

/-- What keeps the shared blocks keeps them when the last good frame goes. -/
theorem SharedKept.withoutLastGood {s t : State} (h : SharedKept s t) :
    SharedKept { s with plu := { s.plu with lastGood := none } } { t with plu := { t.plu with lastGood := none } } :=
  ⟨by rw [h.plu], h.divider, h.tables, h.numbering, h.countPoint, h.lane, h.cu, h.mask, h.pending, h.settings⟩

/-- Of the shared blocks a teardown touches the last good frame alone (R6). -/
theorem pickupTeardown_sharedKept (s : State) :
    SharedKept { s with plu := { s.plu with lastGood := none } } (pickupTeardown s) := by
  have aborted := forStrings_sharedKept abortAndSeek (fun i t => (abortAndSeek_touches i t).oneString.sharedKept) allStrings
    (teardownCleared s)
  rw [pickupTeardown_eq]
  exact ((teardownCleared_sharedKept s).trans aborted).withoutLastGood.trans (teardownLast_sharedKept _)

@[simp] theorem teardownLast_slu (s : State) : (teardownLast s).slu = s.slu := rfl

@[simp] theorem teardownCleared_slu (s : State) : (teardownCleared s).slu = s.slu := by
  simp only [teardownCleared, State.modifyAll_slu]
  exact forStrings_slu linkEnd (fun i t => (linkEnd_touches i t).slu) allStrings s

theorem pickupTeardown_slu (s : State) : (pickupTeardown s).slu = s.slu := by
  rw [pickupTeardown_eq, teardownLast_slu, forStrings_slu abortAndSeek (fun i t => (abortAndSeek_touches i t).slu),
    teardownCleared_slu]

/-! ## The pickup link at a slot -/

/-- A bad frame bridged by the last good frame, when there is one (R4, R5). -/
def Plu.bridged (badRun : Nat) (p : Plu) : Plu :=
  { p with link := .holding, badRun := badRun, frameNo := if p.lastGood.isSome then p.frameNo + 1 else p.frameNo }

/-- A good frame delivered (R3 to R5). -/
def Plu.delivered (g : GoodFrame) (p : Plu) : Plu :=
  { p with link := .up, badRun := 0, lastGood := some g, side := g.side, frameNo := p.frameNo + 1 }

/-- The pickup link's state after a slot (R2 to R5). -/
def Plu.afterSlot (f : PickupFrame) (p : Plu) : Plu :=
  match goodFrame f, p.link with
  | true, .searching =>
    if p.goodRun + 1 < Config.pickupGoodRun then { p with goodRun := p.goodRun + 1 }
    else Plu.delivered (frameContent f) { p with goodRun := p.goodRun + 1 }
  | true, _ => p.delivered (frameContent f)
  | false, .searching => { p with goodRun := 0 }
  | false, .up => p.bridged 1
  | false, .holding =>
    if p.badRun + 1 < Config.pickupBadRun then p.bridged (p.badRun + 1)
    else { p with link := .searching, goodRun := 0, badRun := 0, lastGood := none }

theorem repeatLast_plu (badRun : Nat) (order : List StringNo) (s : State) :
    (repeatLast badRun order s).plu = s.plu.bridged badRun := by
  unfold repeatLast
  simp only
  split
  · next g hg => simp [Plu.bridged, hg]
  · next hg => simp [Plu.bridged, hg]

/-- A slot changes the pickup link as its own transition gives (R2 to R5). -/
theorem judgeSlot_plu (f : PickupFrame) (order : List StringNo) (s : State) :
    (judgeSlot f order s).plu = s.plu.afterSlot f := by
  cases hg : goodFrame f <;> cases hl : s.plu.link <;>
    simp only [judgeSlot, badFrame, goodWhileSearching, Plu.afterSlot, hg, hl, if_true, Bool.false_eq_true, if_false]
  case false.up => rw [repeatLast_plu]; rfl
  case false.holding =>
    split
    · rw [repeatLast_plu]; rfl
    · exact (pickupTeardown_sharedKept _).plu
  case true.searching =>
    split
    · rfl
    · exact frameArrival_plu _ _ _
  case true.up => exact frameArrival_plu _ _ _
  case true.holding => exact frameArrival_plu _ _ _

/-- What of the rest of the part a slot leaves as it stands: the synth link but for the samples handed over, and the command
unit. -/
structure SlotKeeps (s t : State) : Prop where
  slu : t.slu = { s.slu with handed := t.slu.handed }
  cu : t.cu = s.cu

theorem repeatLast_keeps (badRun : Nat) (order : List StringNo) (s : State) : SlotKeeps s (repeatLast badRun order s) := by
  unfold repeatLast
  simp only
  split
  · exact ⟨frameArrival_slu _ _ _, frameArrival_cu _ _ _⟩
  · exact ⟨rfl, rfl⟩

theorem judgeSlot_keeps (f : PickupFrame) (order : List StringNo) (s : State) : SlotKeeps s (judgeSlot f order s) := by
  have good (g : GoodFrame) (t : State) (hs : t.slu = s.slu) (hc : t.cu = s.cu) : SlotKeeps s (deliverGood g order t) := by
    refine ⟨?_, (frameArrival_cu _ _ _).trans hc⟩
    rw [deliverGood, frameArrival_slu]
    simp only [hs]
  cases hg : goodFrame f <;> cases hl : s.plu.link <;>
    simp only [judgeSlot, badFrame, goodWhileSearching, hg, hl, if_true, Bool.false_eq_true, if_false]
  case false.searching => exact ⟨rfl, rfl⟩
  case false.up => exact ⟨(repeatLast_keeps 1 order (noteBadFrame s)).slu, (repeatLast_keeps 1 order (noteBadFrame s)).cu⟩
  case false.holding =>
    split
    · have keeps := repeatLast_keeps (s.plu.badRun + 1) order (noteBadFrame s)
      exact ⟨keeps.slu, keeps.cu⟩
    · unfold endPickupLink
      have keeps := pickupTeardown_slu { noteBadFrame s with
        plu := { (noteBadFrame s).plu with link := .searching, goodRun := 0, badRun := 0 } }
      exact ⟨by rw [keeps]; rfl, (pickupTeardown_sharedKept _).cu⟩
  case true.searching =>
    split
    · exact ⟨rfl, rfl⟩
    · exact good _ _ rfl rfl
  case true.up => exact good _ s rfl rfl
  case true.holding => exact good _ s rfl rfl

/-! ## The laws of the two links -/

/-- The law of the pickup link's counts (R3 to R5). -/
def PluLaw (p : Plu) : Prop :=
  (p.link = .searching → p.goodRun < 16 ∧ p.badRun = 0) ∧ (p.link = .up → p.badRun = 0) ∧
    (p.link = .holding → 1 ≤ p.badRun ∧ p.badRun < 8) ∧ (p.link = .searching ↔ p.lastGood = none)

/-- The law of the synth link's counts (R8). -/
def SluLaw (u : Slu) : Prop :=
  (u.link = .searching → u.syncRun < 4 ∧ u.missing = 0) ∧ (u.link = .up → u.missing < 2)

theorem linkLaw_iff (s : State) : LinkLaw s ↔ PluLaw s.plu ∧ SluLaw s.slu := by
  simp only [LinkLaw, PluLaw, SluLaw, and_assoc]

theorem PluLaw.delivered (g : GoodFrame) (p : Plu) : PluLaw (p.delivered g) := by
  simp [PluLaw, Plu.delivered]

theorem PluLaw.bridged {p : Plu} {badRun : Nat} (h : p.lastGood ≠ none) (low : 1 ≤ badRun) (high : badRun < 8) :
    PluLaw (p.bridged badRun) := by
  simp [PluLaw, Plu.bridged, h, low, high]

/-- A slot keeps the pickup link's law (R3 to R5). -/
theorem PluLaw.afterSlot {p : Plu} (f : PickupFrame) (h : PluLaw p) : PluLaw (p.afterSlot f) := by
  obtain ⟨hsearching, hup, hholding, hlast⟩ := h
  unfold Plu.afterSlot
  split
  case h_1 hl =>
    split
    · exact ⟨fun _ => ⟨‹_›, (hsearching hl).2⟩, hup, hholding, hlast⟩
    · exact .delivered _ _
  case h_2 => exact .delivered _ _
  case h_3 hl => exact ⟨fun _ => ⟨Nat.zero_lt_succ _, (hsearching hl).2⟩, hup, hholding, hlast⟩
  case h_4 hl => exact .bridged (by simp [← hlast, hl]) (by decide) (by decide)
  case h_5 hl =>
    split
    · exact .bridged (by simp [← hlast, hl]) (by omega) ‹_›
    · simp [PluLaw]

theorem sluLaw_congr {u v : Slu} (link : v.link = u.link) (syncRun : v.syncRun = u.syncRun) (missing : v.missing = u.missing)
    (h : SluLaw u) : SluLaw v := by
  unfold SluLaw
  rw [link, syncRun, missing]
  exact h

/-- The two laws of O11 together. -/
def LinkAndBufferLaw (s : State) : Prop := LinkLaw s ∧ CommandUnitLaw s

/-- What touches no link and keeps the command unit's law keeps both laws. -/
theorem WordsKeep.linkAndBufferLaw {s t : State} (h : WordsKeep s t) (law : LinkAndBufferLaw s) : LinkAndBufferLaw t := by
  refine ⟨?_, h.law law.2⟩
  have := law.1
  rw [linkLaw_iff] at this ⊢
  rwa [h.plu, h.slu]

/-- An event of one string keeps both laws. -/
theorem OneString.linkAndBufferLaw {i : StringNo} {s t : State} (h : OneString i s t) (law : LinkAndBufferLaw s) :
    LinkAndBufferLaw t :=
  WordsKeep.linkAndBufferLaw ⟨⟨h.plu, h.slu, h.pending⟩, fun l => commandUnitLaw_of_cu l h.cu⟩ law

theorem pickupSlot_law (f : PickupFrame) (order : List StringNo) (s : State) (law : LinkAndBufferLaw s) :
    LinkAndBufferLaw (pickupSlot f order s) := by
  unfold pickupSlot
  split
  · obtain ⟨links, buffer⟩ := law
    rw [linkLaw_iff] at links
    have keeps := judgeSlot_keeps f order (s.doPart .slot)
    refine ⟨(linkLaw_iff _).mpr ⟨?_, ?_⟩, commandUnitLaw_of_cu buffer keeps.cu⟩
    · rw [judgeSlot_plu]; exact links.1.afterSlot f
    · rw [keeps.slu]
      exact sluLaw_congr (Slu.doPart_link .slot s.slu) (Slu.doPart_syncRun .slot s.slu) (Slu.doPart_missing .slot s.slu) links.2
  · exact law

theorem takeDownstream_wordsKeep (f : DownstreamFrame) (s : State) :
    WordsKeep { s with slu := { s.slu with hold := holdBit f } } (takeDownstream f s) := by
  unfold takeDownstream
  simp only
  split
  · exact takeWord_wordsKeep _ _
  · exact .refl _

theorem downstream_law (f : DownstreamFrame) (s : State) (law : LinkAndBufferLaw s) : LinkAndBufferLaw (downstream f s) := by
  obtain ⟨links, buffer⟩ := law
  obtain ⟨plu, hsearching, hup⟩ := (linkLaw_iff s).mp links
  have counted (t : State) (hp : t.plu = s.plu) (hc : t.cu = s.cu) (hs : SluLaw t.slu) : LinkAndBufferLaw t :=
    ⟨(linkLaw_iff t).mpr ⟨hp ▸ plu, hs⟩, commandUnitLaw_of_cu buffer hc⟩
  unfold downstream syncedFrame unsyncedFrame
  split
  · split
    · next hl =>
      simp only
      split
      · next hless => exact counted _ rfl rfl ⟨fun _ => ⟨hless, (hsearching hl).2⟩, fun h => by simp [hl] at h⟩
      · refine (takeDownstream_wordsKeep f _).linkAndBufferLaw (counted _ ?_ ?_ ⟨?_, ?_⟩)
        · simp only [synthLinkUp, State.doPart_plu]; split <;> rfl
        · simp only [synthLinkUp, State.doPart_cu]; split <;> rfl
        · simp [synthLinkUp]
        · simp only [synthLinkUp, State.doPart_slu, Slu.doPart_missing]
          intro _
          have := (hsearching hl).2
          split <;> simp [this]
    · exact (takeDownstream_wordsKeep f _).linkAndBufferLaw (counted _ rfl rfl ⟨by simp_all, by simp⟩)
  · split
    · next hl => exact counted _ rfl rfl ⟨fun _ => ⟨Nat.zero_lt_succ _, (hsearching hl).2⟩, fun h => by simp [hl] at h⟩
    · next hl =>
      split
      · next hless => exact counted _ rfl rfl ⟨by simp [hl], fun _ => (Slu.doPart_missing .words _).trans_lt hless⟩
      · refine ⟨(linkLaw_iff _).mpr ⟨?_, ?_⟩, commandUnitLaw_of_ready rfl⟩
        · simp [PluLaw, synthLoss]
        · simp [SluLaw, synthLoss]

theorem upstream_law (s : State) (law : LinkAndBufferLaw s) : LinkAndBufferLaw (upstream s) := by
  unfold upstream
  split
  · have begun : LinkAndBufferLaw (s.doPart .upstream) := by
      obtain ⟨links, buffer⟩ := law
      rw [linkLaw_iff] at links
      exact ⟨(linkLaw_iff _).mpr ⟨links.1, sluLaw_congr (Slu.doPart_link .upstream s.slu) (Slu.doPart_syncRun .upstream s.slu)
        (Slu.doPart_missing .upstream s.slu) links.2⟩, buffer⟩
    exact ((afterLaneSlot_wordsKeep _).trans (afterLaneSlot_wordsKeep _)).linkAndBufferLaw begun
  · exact law

/-- After the tick's delivery the underflow touches the marks of the tick and the divider alone (R68). -/
theorem underflow_wordsKeep (s : State) :
    WordsKeep s { s.modifyAll (fun b => { b with ticked := .clear }) with
      divider := { s.divider with count := s.divider.tickBase } } :=
  RunKeeps.wordsKeep ⟨⟨rfl, rfl, rfl⟩, .inl rfl⟩

theorem dividerPeriod_law (s : State) (law : LinkAndBufferLaw s) : LinkAndBufferLaw (dividerPeriod s) := by
  unfold dividerPeriod
  split
  · split
    · exact law
    · exact (underflow_wordsKeep _).linkAndBufferLaw
        (forStrings_keeps stringTick (fun i t => (stringTick_touches i t).linkAndBufferLaw) allStrings s law)
  · exact law

/-- Whatever happens, both laws are kept. -/
theorem Happens.linkAndBufferLaw (s t : State) (h : Happens s t) (law : LinkAndBufferLaw s) : LinkAndBufferLaw t := by
  cases h with
  | nothing => exact law
  | powerOn => exact ⟨by simp [LinkLaw, State.reset, Plu.powerOn, Slu.powerOn], commandUnitLaw_of_ready rfl⟩
  | slot f order => exact pickupSlot_law f order s law
  | words f => exact downstream_law f s law
  | frame => exact upstream_law s law
  | period => exact dividerPeriod_law s law
  | command code params => exact (sendCommand_wordsKeep code params s).linkAndBufferLaw law
  | attack i => exact ((quietTimers_touches i s).trans (attackOnce_touches i _)).linkAndBufferLaw law
  | release i => exact ((quietTimers_touches i s).trans (releaseOnce_touches i _)).linkAndBufferLaw law
  | update i => exact ((quietTimers_touches i s).trans (updateOnce_touches i _)).linkAndBufferLaw law
  | record i => exact (recordOnce_touches i s).linkAndBufferLaw law

/-- Settles O11: each of the things that can happen keeps the two laws. -/
theorem stepKeepsTheLinkAndBufferLaws : Obligations.StepKeepsTheLinkAndBufferLaws :=
  fun _ _ h links buffer =>
    step_keeps (P := LinkAndBufferLaw) (fun _ _ law => law) Happens.linkAndBufferLaw h ⟨links, buffer⟩

end Sys2Proof.Machine
end

section
/-!
PROOFS. The synth link frame by frame, and the command unit word by word: O39, O40, O41, O60.
-/

namespace Sys2Proof.Machine

open Sys2Proof.Safety

/-! ## The synth link reaching UP -/

/-- What reaching UP leaves: a link that is UP with the first period at hand, and SYNTH_LOST for a loss pending (R8, R10, R12). -/
theorem synthLinkUp_eq (s : State) :
    synthLinkUp s = { s with
      slu := { s.slu with link := .up, lossPending := false, handed := .const 0, handedBefore := .const 0, done := .nothing }
      su := { s.su with flags := if s.slu.lossPending then flagsAfter 2 s.su else s.su.flags } } := by
  unfold synthLinkUp
  split
  · next h => simp [State.causeFlag, StatusUnit.cause_eq, Flag.bit]
  · next h => rfl

/-- Doing a part does not read the missing-sync count. -/
theorem Slu.doPart_missing_comm (p : PeriodPart) (n : Nat) (u : Slu) :
    Slu.doPart p { u with missing := n } = { u.doPart p with missing := n } := by
  unfold Slu.doPart
  dsimp only
  split <;> rfl

/-- A synced frame of a SEARCHING link below the run that takes it to UP is counted (R8). -/
theorem syncedFrame_counts (f : DownstreamFrame) (s : State) (hl : s.slu.link = .searching) (h : s.slu.syncRun < 3) :
    syncedFrame f s = { s with slu := { s.slu with syncRun := s.slu.syncRun + 1 } } := by
  simp only [syncedFrame, hl]
  exact if_pos (Nat.succ_lt_succ h)

/-- The fourth synced frame in a row takes the link to UP and is handled there (R8). -/
theorem syncedFrame_reaches (f : DownstreamFrame) (s : State) (hl : s.slu.link = .searching) (h : s.slu.syncRun = 3) :
    syncedFrame f s =
      takeDownstream f ((synthLinkUp { s with slu := { s.slu with syncRun := s.slu.syncRun + 1 } }).doPart .words) := by
  simp only [syncedFrame, hl]
  exact if_neg (by simp [h, Config.synthSyncRun])

theorem syncedFrame_up (f : DownstreamFrame) (s : State) (hl : s.slu.link = .up) :
    syncedFrame f s = takeDownstream f (State.doPart .words { s with slu := { s.slu with missing := 0 } }) := by
  simp only [syncedFrame, hl]

theorem takeDownstream_idle (f : DownstreamFrame) (s : State) (h : f.control.getLsbD 14 = false) :
    takeDownstream f s = { s with slu := { s.slu with hold := holdBit f } } := by
  rw [takeDownstream, wordValid, h]
  rfl

theorem downstream_synced (f : DownstreamFrame) (s : State) (h : f.sync = true) : downstream f s = syncedFrame f s :=
  if_pos h

theorem downstream_unsynced (f : DownstreamFrame) (s : State) (h : f.sync = false) : downstream f s = unsyncedFrame s := by
  simp [downstream, h]

/-- The first missing sync mark in UP: its period runs and its words are discarded (R8). -/
theorem unsyncedFrame_first (s : State) (hl : s.slu.link = .up) (h : s.slu.missing = 0) :
    unsyncedFrame s = { s with slu := { s.slu.doPart .words with missing := 1 } } := by
  have less : s.slu.missing + 1 < Config.synthMissingRun := by rw [h]; decide
  unfold unsyncedFrame
  split
  · next searching => simp [hl] at searching
  · rw [if_pos less, State.doPart, Slu.doPart_missing_comm, h]

/-- Settles O39. -/
theorem downstreamSyncRuns : Obligations.DownstreamSyncRuns := by
  intro f s
  refine ⟨fun hl hs hr => ?counts, fun hl hs => ?resets, fun hl hs hr hv => ?idle, fun hl hs hr hm => ?handled,
    fun hl hs hm => ?unsynced⟩ <;>
    simp only [exec, execDownstreamFrame, Host.Outcome.next.injEq]
  case counts => rw [downstream_synced f s hs, syncedFrame_counts f s hl hr]
  case resets => simp only [downstream_unsynced f s hs, unsyncedFrame, hl]
  case idle =>
    rw [downstream_synced f s hs, syncedFrame_reaches f s hl hr, takeDownstream_idle f _ hv, synthLinkUp_eq, hr]
    rfl
  case handled =>
    rw [downstream_synced f s hs, downstream_synced f _ hs, syncedFrame_reaches f s hl hr, syncedFrame_up f _ rfl,
      synthLinkUp_eq, hr]
    simp only [hm]
    rfl
  case unsynced =>
    rw [downstream_unsynced f s hs, unsyncedFrame_first s hl hm]

/-! ## The command unit, word by word -/

theorem headerCode_eq (w : Word) : headerCode w = BitVec.ofNat 7 (w.toNat / 256) := by
  apply BitVec.eq_of_toNat_eq
  simp [headerCode, fieldOf]

theorem headerCount_eq (w : Word) : headerCount w = w.toNat % 256 := by
  simp [headerCount, fieldOf]

theorem noteAbandoned_eq (s : State) :
    noteAbandoned s = { s with su := { s.su with flags := flagsAfter 3 s.su, counters := countersAfter 1 1 s.su } } :=
  State.cause_bump_eq .cmdAbandoned .abandonedCommands s

theorem noteOverrun_eq (s : State) :
    noteOverrun s = { s with su := { s.su with flags := flagsAfter 4 s.su, counters := countersAfter 2 1 s.su } } :=
  State.cause_bump_eq .cmdOverrun .overrunWords s

/-- A parameter word for a READY unit is a stray word (R164). -/
theorem takeWord_stray (w : Word) (s : State) (hcu : s.cu = .ready) (hw : isHeader w = false) :
    takeWord w s = noteAbandoned s := by
  simp [takeWord, hcu, hw]

theorem takeWord_header (w : Word) (s : State) (hcu : s.cu = .ready) (hw : isHeader w = true) :
    takeWord w s = startCommand (headerCode w) (headerCount w) s := by
  simp [takeWord, hcu, hw]

/-- A header abandons the command in collection and starts its own (R166). -/
theorem takeWord_abandons (w : Word) (s : State) (b : CommandBuffer) (hcu : s.cu = .collecting b) (hw : isHeader w = true) :
    takeWord w s = startCommand (headerCode w) (headerCount w) (noteAbandoned { s with cu := .ready }) := by
  simp [takeWord, hcu, hw]

theorem takeWord_parameter (w : Word) (s : State) (b : CommandBuffer) (hcu : s.cu = .collecting b)
    (hw : isHeader w = false) :
    takeWord w s =
      if b.received + 1 = b.declared then takeCommand (b.consume (w.setWidth 15)) s
      else { s with cu := .collecting (b.consume (w.setWidth 15)) } := by
  simp [takeWord, hcu, hw]

theorem takeWord_held (w : Word) (s : State) (b : CommandBuffer) (hcu : s.cu = .held b) : takeWord w s = noteOverrun s := by
  simp [takeWord, hcu]

theorem startCommand_collects (code : BitVec 7) (declared : Nat) (s : State) (h : 0 < declared) :
    startCommand code declared s = { s with cu := .collecting ⟨code, declared, 0, [], false⟩ } :=
  if_neg (Nat.ne_of_gt h)

theorem takeCommand_full (b : CommandBuffer) (s : State) (h : 8 ≤ s.rq.length) : takeCommand b s = { s with cu := .held b } := by
  simp [takeCommand, State.replySlotFree, Config.replyQueueSize, Nat.not_lt.mpr h]

theorem startCommand_held (code : BitVec 7) (declared : Nat) (s : State) (h : declared = 0) (full : 8 ≤ s.rq.length) :
    startCommand code declared s = { s with cu := .held ⟨code, declared, 0, [], false⟩ } := by
  rw [startCommand, if_pos h, takeCommand_full _ s full]

/-- A parameter word as the unit stores it: kept up to the 128th, marked as overflow beyond (R165). -/
theorem CommandBuffer.consume_eq (p : Payload) (b : CommandBuffer) :
    b.consume p = { b with
      received := b.received + 1
      stored := if b.received < 128 then b.stored ++ [p] else b.stored
      overflow := if b.received < 128 then b.overflow else true } := by
  unfold CommandBuffer.consume Config.bufferSize
  by_cases h : b.received < 128
  · simp [h, Nat.succ_le_of_lt h]
  · simp [h]

/-- What a synced frame taken in UP leaves before its command word. -/
theorem downstream_up (f : DownstreamFrame) (s : State) (hl : s.slu.link = .up) (hs : f.sync = true) :
    downstream f s = takeDownstream f { s with slu := { s.slu.doPart .words with missing := 0 } } := by
  rw [downstream_synced f s hs, syncedFrame_up f s hl, State.doPart, Slu.doPart_missing_comm]

/-- Settles O40. -/
theorem downstreamWords : Obligations.DownstreamWords := by
  intro f s hl hs after w valid seen header code count fresh noted
  have taken : after = .next (takeDownstream f { s with slu := { s.slu.doPart .words with missing := 0 } }) :=
    congrArg _ (downstream_up f s hl hs)
  have word (h : valid) : after = .next (takeWord w seen) := taken.trans (congrArg _ (if_pos h))
  have parameter (h : ¬header) : isHeader w = false := Bool.eq_false_iff.mpr h
  have fresh_eq : (⟨headerCode w, headerCount w, 0, [], false⟩ : CommandBuffer) = fresh := by
    rw [headerCode_eq, headerCount_eq]
  have header_count : headerCount w = count := headerCount_eq w
  refine ⟨fun h => ?idle, word, fun hv hw hr => (word hv).trans (congrArg _ ?stray),
    fun hv hw hr hn => (word hv).trans (congrArg _ ?starts), fun hv hw hr hn hq => (word hv).trans (congrArg _ ?starts_full),
    fun b hv hw hc hn => (word hv).trans (congrArg _ ?abandons),
    fun b hv hw hc hn hq => (word hv).trans (congrArg _ ?abandons_full),
    fun b hv hw hc hn => (word hv).trans (congrArg _ ?stores), fun b hv hh => (word hv).trans (congrArg _ ?overruns)⟩
  case idle => exact taken.trans (congrArg _ (takeDownstream_idle f _ (Bool.eq_false_iff.mpr h)))
  case stray => exact (takeWord_stray w seen hr (parameter hw)).trans (noteAbandoned_eq seen)
  case starts => rw [takeWord_header w seen hr hw, startCommand_collects _ _ _ (header_count ▸ hn), fresh_eq]
  case starts_full => rw [takeWord_header w seen hr hw, startCommand_held _ _ seen (header_count ▸ hn) hq, fresh_eq]
  case abandons =>
    rw [takeWord_abandons w seen b hc hw, startCommand_collects _ _ _ (header_count ▸ hn), fresh_eq, noteAbandoned_eq]
  case abandons_full =>
    rw [takeWord_abandons w seen b hc hw,
      startCommand_held _ _ (noteAbandoned { seen with cu := .ready }) (header_count ▸ hn) hq, fresh_eq, noteAbandoned_eq]
  case stores =>
    rw [takeWord_parameter w seen b hc (parameter hw), CommandBuffer.consume_eq]
    split
    · next hall => exact takeCommand_full _ seen (hn.resolve_left (by omega))
    · rfl
  case overruns => exact (takeWord_held w seen b hh).trans (noteOverrun_eq seen)

/-! ## The synth link loss -/

theorem synthLoss_string (s : State) (i : StringNo) : (synthLoss s).string i = (s.string i).linkLoss :=
  State.modifyAll_string (·.linkLoss) s i

/-- A dropped record is IDLE (R192). -/
theorem Measurement.drop_eq (r : Measurement) :
    r.drop = if r.state = .idle then r else { r with state := .idle, pending := none } := by
  unfold Measurement.drop Measurement.active Measurement.toIdle
  cases h : r.state <;> simp

/-- What the link-loss effect leaves of a string's blocks (R9). -/
theorem StringBlock.linkLoss_eq (b : StringBlock) :
    b.linkLoss = { b with
      stage := ⟨0, 0, .opened, none, .disarmed, none, none⟩, validator := ⟨none, none, 0, []⟩
      timers := ⟨{ b.timers.attack with running := false }, { b.timers.release with running := false },
        { b.timers.update with running := false }⟩
      tracker := ⟨if b.tracker.state = .muted then .muted else .silent, none, 0⟩
      record := if b.record.state = .idle then b.record else { b.record with state := .idle, pending := none }
      ticked := .clear } := by
  rw [← Measurement.drop_eq]
  rfl

/-- Settles O41. -/
theorem synthLinkLoss : Obligations.SynthLinkLoss := by
  intro s hl hm
  have loss : unsyncedFrame s = synthLoss s := by
    simp only [unsyncedFrame, hl, hm]
    exact if_neg (by decide)
  have row : exec .synthLinkLoss s = .next (synthLoss s) := by
    have atHand : secondMissingAtHand s = true := by simp [secondMissingAtHand, hl, hm, Config.synthMissingRun]
    simp only [exec, execSynthLinkLoss, occurs, atHand, if_true, downstream_unsynced _ s, loss]
  refine ⟨fun f hf => ?_, synthLoss s, row, rfl, rfl, rfl, rfl, rfl, rfl, rfl, rfl, rfl, rfl, rfl, rfl, rfl, fun i => ?_⟩
  · rw [row, ← loss, ← downstream_unsynced f s hf]
    rfl
  · rw [synthLoss_string, StringBlock.linkLoss_eq]
    refine ⟨⟨rfl, rfl, rfl, rfl⟩, rfl, rfl, rfl, rfl, rfl, rfl, ?_, fun h => ?_⟩
    · by_cases h : (s.string i).record.state = .idle <;> simp [h]
    · simp [h]

/-! ## A command's row and its words -/

theorem exec_row (c : Command) (params : List Payload) (s : State) :
    exec (row c params) s = .next (sendCommand c.code params s) := by
  cases c <;> rfl

/-- A header's fields side by side (10_commands.md, opening table). -/
theorem headerWord_eq (code : BitVec 7) (count : Nat) (h : count ≤ 255) :
    headerWord code count = BitVec.ofNat 16 (2 ^ 15 + 2 ^ 8 * code.toNat + count) := by
  have hc := code.isLt
  have : count % 2 ^ 8 = count := Nat.mod_eq_of_lt (by omega)
  have : code.toNat % 2 ^ 7 = code.toNat := Nat.mod_eq_of_lt hc
  simp only [headerWord, field, *]
  congr 1
  omega

/-- A flag that has been caused is caused to no further effect (R17). -/
theorem flagsAfter_flagsAfter (bit : Nat) (su : StatusUnit) (counters : Vector (BitVec 16) 24) :
    flagsAfter bit { su with flags := flagsAfter bit su, counters := counters } = flagsAfter bit su := by
  unfold flagsAfter
  dsimp only
  split
  · rw [BitVec.or_assoc, BitVec.or_self]
  · rfl

/-- Causes of one counter add up until it saturates (R19). -/
theorem countersAfter_countersAfter (index m n : Nat) (su : StatusUnit) (flags : BitVec 12) (h : index < 24) :
    countersAfter index n { su with flags := flags, counters := countersAfter index m su } = countersAfter index (m + n) su := by
  have hc := su.counters[index].isLt
  simp only [countersAfter, h, getElem?_pos, Option.getD_some, Vector.getElem_setIfInBounds_self,
    Vector.setIfInBounds_setIfInBounds, BitVec.toNat_ofNat]
  congr 2
  omega

/-- While a command is held, every word that comes is overrun (R168). -/
theorem takeWords_held (words : List Word) (b : CommandBuffer) (s : State) (hcu : s.cu = .held b) (hne : words ≠ []) :
    words.foldl (fun t w => takeWord w t) s =
      { s with su := { s.su with flags := flagsAfter 4 s.su, counters := countersAfter 2 words.length s.su } } := by
  induction words generalizing s with
  | nil => exact absurd rfl hne
  | cons w rest ih =>
    rw [List.foldl_cons, takeWord_held w s b hcu]
    rcases eq_or_ne rest [] with rfl | hrest
    · exact noteOverrun_eq s
    · rw [ih (noteOverrun s) hcu hrest, noteOverrun_eq]
      simp only [flagsAfter_flagsAfter, countersAfter_countersAfter _ _ _ _ _ (show 2 < 24 by decide), List.length_cons,
        Nat.add_comm 1]

/-- Settles O60. -/
theorem commandsNotExecutedAtOnce : Obligations.CommandsNotExecutedAtOnce := by
  intro c params s hlen header noted
  have up (t : State) (hup : t.slu.link = .up) :
      sendCommand c.code params t = (headerWord c.code params.length :: params.map continuation).foldl (fun t w => takeWord w t) t :=
    if_pos hup
  have send (t : State) : exec (row c params) t = .next (sendCommand c.code params t) := exec_row c params t
  refine ⟨fun hup => (send s).trans (congrArg _ ?words), fun hup hcu hfull => (send s).trans (congrArg _ ?held),
    fun b hup hcu => (send s).trans (congrArg _ ?overrun), fun b hup hcu => (send s).trans (.trans (congrArg _ ?abandons)
    (send _).symm), fun hl => (send s).trans (congrArg _ (sendCommand_searching _ _ s hl))⟩
  case words =>
    rw [up s hup, headerWord_eq c.code params.length hlen]
    rfl
  case held => exact sendCommand_held c.code params s hup hcu hfull hlen
  case overrun =>
    rw [up s hup, takeWords_held _ b s hcu (List.cons_ne_nil _ _)]
    simp [noted]
  case abandons =>
    rw [up s hup, up { s with cu := .ready, su := noted 3 1 1 } hup, List.foldl_cons, List.foldl_cons,
      takeWord_abandons _ s b hcu (isHeader_headerWord _ _),
      takeWord_header _ { s with cu := .ready, su := noted 3 1 1 } rfl (isHeader_headerWord _ _), noteAbandoned_eq]

end Sys2Proof.Machine
end

section
/-!
PROOFS. How changes of strings compose and commute, and which events do not meet another string's blocks (R20, R68: strings act one
after another, and only the queues, the counters and the flags are shared).
-/

namespace Sys2Proof

@[simp] theorem PerString.set_set {α : Type} (p : PerString α) (i : StringNo) (a b : α) : (p.set i a).set i b = p.set i b := by
  cases i <;> rfl

theorem PerString.set_comm {α : Type} (p : PerString α) {i j : StringNo} (h : i ≠ j) (a b : α) :
    (p.set i a).set j b = (p.set j b).set i a := by
  refine PerString.eq_of_get fun k => ?_
  by_cases hi : k = i
  · subst hi; simp [h]
  · by_cases hj : k = j
    · subst hj; simp [hi]
    · simp [hi, hj]

end Sys2Proof

namespace Sys2Proof.Machine

open Sys2Proof.Safety

/-! ## Changes of strings -/

theorem State.modifyString_modifyString (i : StringNo) (f g : StringBlock → StringBlock) (s : State) :
    (s.modifyString i f).modifyString i g = s.modifyString i (g ∘ f) := by
  simp [State.modifyString]

theorem State.modifyString_comm {i j : StringNo} (h : i ≠ j) (f g : StringBlock → StringBlock) (s : State) :
    (s.modifyString i f).modifyString j g = (s.modifyString j g).modifyString i f := by
  simp [State.modifyString, h, h.symm, PerString.set_comm _ h]

/-- Two changes that agree on the blocks of a string as they stand change the part alike. -/
theorem State.modifyString_congr {i : StringNo} {f g : StringBlock → StringBlock} {s : State}
    (h : f (s.string i) = g (s.string i)) : s.modifyString i f = s.modifyString i g := by
  unfold State.string at h
  simp only [State.modifyString, h]

/-- A change that leaves the blocks of a string as they stand leaves the part as it stands. -/
theorem State.modifyString_same {i : StringNo} {f : StringBlock → StringBlock} {s : State} (h : f (s.string i) = s.string i) :
    s.modifyString i f = s := by
  unfold State.string at h
  simp [State.modifyString, h]

theorem State.modifyRecord_modifyRecord (i : StringNo) (f g : Measurement → Measurement) (s : State) :
    (s.modifyRecord i f).modifyRecord i g = s.modifyRecord i (g ∘ f) :=
  State.modifyString_modifyString i _ _ s

/-! ## Events apart from a string -/

/-- The event does not meet the blocks of string j: whatever they are, it does the same and leaves them. -/
def ApartFrom (j : StringNo) (event : State → State) : Prop :=
  ∀ (f : StringBlock → StringBlock) (s : State), event (s.modifyString j f) = (event s).modifyString j f

theorem ApartFrom.comp {j : StringNo} {event after : State → State} (h : ApartFrom j event) (k : ApartFrom j after) :
    ApartFrom j fun s => after (event s) :=
  fun f s => (congrArg after (h f s)).trans (k f (event s))

/-- A choice between two events that string j's blocks do not enter. -/
theorem ApartFrom.ite {j : StringNo} {condition : State → Prop} [∀ s, Decidable (condition s)] {yes no : State → State}
    (hc : ∀ f s, condition (s.modifyString j f) ↔ condition s) (hyes : ApartFrom j yes) (hno : ApartFrom j no) :
    ApartFrom j fun s => if condition s then yes s else no s := by
  intro f s
  simp only [hc f s]
  split
  · exact hyes f s
  · exact hno f s

theorem ApartFrom.id (j : StringNo) : ApartFrom j fun s => s := fun _ _ => rfl

theorem modifyString_apart {i j : StringNo} (h : i ≠ j) (f : StringBlock → StringBlock) : ApartFrom j (·.modifyString i f) :=
  fun g s => State.modifyString_comm h.symm g f s

theorem modifyRecord_apart {i j : StringNo} (h : i ≠ j) (f : Measurement → Measurement) : ApartFrom j (·.modifyRecord i f) :=
  modifyString_apart h _

theorem modifyTimers_apart {i j : StringNo} (h : i ≠ j) (f : Timers → Timers) : ApartFrom j (·.modifyTimers i f) :=
  modifyString_apart h _

theorem modifyTicked_apart {i j : StringNo} (h : i ≠ j) (f : TickTaken → TickTaken) : ApartFrom j (·.modifyTicked i f) :=
  modifyString_apart h _

theorem modifyContext_apart {i j : StringNo} (h : i ≠ j) (f : NoteContext → NoteContext) :
    ApartFrom j (·.modifyContext i f) :=
  modifyString_apart h _

theorem setTracker_apart {i j : StringNo} (h : i ≠ j) (k : TrackerState) : ApartFrom j (·.setTracker i k) :=
  modifyString_apart h _

/-- A run of events apart from a string is apart from it. -/
theorem forStrings_apart {j : StringNo} (event : StringNo → State → State) (strings : List StringNo)
    (h : ∀ i ∈ strings, ApartFrom j (event i)) : ApartFrom j (forStrings strings event) := by
  induction strings with
  | nil => exact .id j
  | cons i rest ih =>
    exact (h i List.mem_cons_self).comp (ih fun k hk => h k (List.mem_cons_of_mem i hk))

/-! ## Measurement records -/

theorem placeResult_apart {i j : StringNo} (h : i ≠ j) : ApartFrom j (placeResult i) := by
  intro f s
  unfold placeResult
  rw [State.modifyString_string_other f s h]
  exact congrArg (State.causeFlag .measureDone) (modifyRecord_apart h (·.toIdle) f (s.placeReply _))

theorem seekSlot_apart {i j : StringNo} (h : i ≠ j) : ApartFrom j (seekSlot i) :=
  .ite (fun f s => by rw [State.modifyString_string_other f s h]; rfl) (placeResult_apart h) (.id j)

theorem endMeasurement_apart {i j : StringNo} (h : i ≠ j) (o : MeasureOutcome) : ApartFrom j (endMeasurement i o) :=
  fun f s => ((modifyRecord_apart h (·.finish o)).comp (seekSlot_apart h)) f s

theorem recordTick_apart {i j : StringNo} (h : i ≠ j) : ApartFrom j (recordTick i) := by
  have counts := modifyRecord_apart h fun k => { k with elapsed := k.elapsed + 1 }
  refine .ite (fun f s => ?_) (.ite (fun f s => ?_) (counts.comp (endMeasurement_apart h _)) counts) (.id j) <;>
    rw [State.modifyString_string_other f s h]

end Sys2Proof.Machine
end

section
/-!
PROOFS. Commands executed at once: what a setting or a clear writes (O47), what the abort of the measurements leaves, and what
RESTORE DEFAULTS and RESTART reset and keep (O58).
-/

namespace Sys2Proof.Machine

open Sys2Proof.Safety

/-! ## A command executed at once -/

/-- The whole course of a command executed at once (R158, R167, R171, R175). -/
theorem exec_runs (c : Command) (params : List Payload) (s : State) (h : executesAtOnce s) (hlen : params.length ≤ 128)
    (hcount : c.countAllowed params.length = true) :
    exec (row c params) s =
      .next (forStrings (c.run params s).aborted seekSlot (replied c (c.run params s).reply (c.run params s).state)) :=
  (exec_row c params s).trans (congrArg _ (sendCommand_runs c params s h.1 h.2.1 h.2.2 hlen hcount))

/-- A command that aborts no measurement leaves its run's state with its reply. -/
theorem exec_replies {c : Command} {params : List Payload} {s t : State} {body : ReplyBody} (h : executesAtOnce s)
    (hlen : params.length ≤ 128) (hcount : c.countAllowed params.length = true) (hrun : c.run params s = ⟨t, body, []⟩) :
    exec (row c params) s = .next (replied c body t) := by
  rw [exec_runs c params s h hlen hcount, hrun]
  rfl

/-- A command carried out replies ADJUSTED when a value was clamped (R175). -/
theorem carriedOut_eq (clamped : Prop) [Decidable clamped] (s : State) :
    carriedOut (decide clamped) s = ⟨s, acceptUnless clamped, []⟩ := by
  by_cases h : clamped <;> simp [carriedOut, acceptUnless, h]

/-! ## The settings and the clears -/

theorem clamp_zero_le (hi value : Nat) : clamp 0 hi value = min hi value := by
  unfold clamp
  split
  · omega
  · split <;> omega

theorem NumberingForm.ofCode_eq (n : Nat) : NumberingForm.ofCode n = if n = 0 then .note else .position := by
  cases n <;> rfl

theorem CountPoint.ofCode_eq (n : Nat) : CountPoint.ofCode n = if n = 0 then .route else .atAdmit := by
  cases n <;> rfl

theorem Style.ofCode_eq (n : Nat) : Style.ofCode n = if n = 0 then .full else if n = 1 then .gate else .trigger := by
  rcases n with _ | _ | n <;> rfl

/-- The blocks of a string after an equal change of each string of a list that names none twice. -/
theorem forStrings_modifyString_string (f : StringBlock → StringBlock) (strings : List StringNo) (h : strings.Nodup)
    (s : State) (j : StringNo) :
    (forStrings strings (fun i t => t.modifyString i f) s).string j = if j ∈ strings then f (s.string j) else s.string j := by
  induction strings generalizing s with
  | nil => rfl
  | cons i rest ih =>
    obtain ⟨hi, hrest⟩ := List.nodup_cons.mp h
    rw [forStrings_cons, ih hrest, State.string_modifyString]
    by_cases hj : j = i
    · subst hj; simp [hi]
    · simp [hj]

/-- Changes of strings touch the strings alone. -/
theorem forStrings_modifyString_rest (f : StringBlock → StringBlock) (strings : List StringNo) (s : State) :
    forStrings strings (fun i t => t.modifyString i f) s =
      { s with strings := (forStrings strings (fun i t => t.modifyString i f) s).strings } :=
  forStrings_relates (R := fun s t => t = { s with strings := t.strings }) (fun _ => rfl)
    (fun _ _ _ h k => by rw [k, h]) (fun i t => t.modifyString i f) (fun _ _ => rfl) strings s

theorem allStrings_nodup : allStrings.Nodup := by decide

theorem onNamed_string (mask : Payload) (f : StringBlock → StringBlock) (s : State) (i : StringNo) :
    (onNamed mask f s).string i = if maskNames mask i then f (s.string i) else s.string i := by
  cases i <;> rfl

/-- A change of each string a mask names, in the terms of the statements (R174). -/
theorem forStrings_masked (mask : Payload) (f : StringBlock → StringBlock) (s : State) :
    forStrings (maskedStrings mask) (fun i t => t.modifyString i f) s = onNamed mask f s := by
  have same : (forStrings (maskedStrings mask) (fun i t => t.modifyString i f) s).strings = (onNamed mask f s).strings := by
    refine PerString.eq_of_get fun i => ?_
    have named : i ∈ maskedStrings mask ↔ maskNames mask i = true := by simp [maskedStrings]
    exact (forStrings_modifyString_string f (maskedStrings mask) (allStrings_nodup.filter _) s i).trans
      ((if_congr named rfl rfl).trans (onNamed_string mask f s i).symm)
  rw [forStrings_modifyString_rest, same]
  rfl

/-- A run of counter sets cleared, set by set (R144). -/
theorem clearSets_getElem? (number first : Nat) (sets : Vector CounterSet 128) (k : Nat) (hk : k < 128) :
    (clearSets number first sets)[k]? = if first ≤ k ∧ k < first + number then some ⟨0, 0⟩ else sets[k]? := by
  induction number generalizing first sets with
  | zero =>
    rw [if_neg (by omega)]
    rfl
  | succ number ih =>
    rw [clearSets, ih]
    by_cases hfirst : first = k
    · subst hfirst
      rw [if_neg (by omega), if_pos (by omega)]
      simp [hk]
    · have : first + 1 ≤ k ∧ k < first + 1 + number ↔ first ≤ k ∧ k < first + (number + 1) := by omega
      simp only [this]
      rw [Vector.getElem?_setIfInBounds_ne hfirst]

/-- Settles O47. -/
theorem settingAndClearCommands : Obligations.SettingAndClearCommands := by
  intro w style mask first number s h
  refine ⟨?setTick, ?setNumbering, ?setCountPoint, ?setFlagMask, ?setStyle, ?clearFlags, fun outside => ?refused,
    fun hfirst hnumber hrun => ?cleared⟩
  case setTick =>
    refine exec_replies (c := .setTick) h (by simp) rfl ?_
    simp only [Command.run, runSetTick, carriedOut_eq, clamp_zero_le]
  case setNumbering =>
    refine exec_replies (c := .setNumbering) h (by simp) rfl ?_
    simp only [Command.run, runSetNumbering, carriedOut_eq, NumberingForm.ofCode_eq]
  case setCountPoint =>
    refine exec_replies (c := .setCountPoint) h (by simp) rfl ?_
    simp only [Command.run, runSetCountPoint, carriedOut_eq, CountPoint.ofCode_eq]
  case setFlagMask => exact exec_replies (c := .setFlagMask) h (by simp) rfl rfl
  case setStyle =>
    refine exec_replies (c := .setStyle) h (by simp) rfl ?_
    simp only [Command.run, runSetStyle, carriedOut_eq, Style.ofCode_eq, forStrings_masked]
  case clearFlags => exact exec_replies (c := .clearFlags) h (by simp) rfl rfl
  case refused =>
    refine exec_replies (c := .clearCounters) h (by simp) rfl ?_
    simp only [Command.run, runClearCounters, if_pos outside]
    rfl
  case cleared =>
    refine ⟨replied .clearCounters .accept { s with rc := { s.rc with sets := clearSets number.toNat first.toNat s.rc.sets } },
      exec_replies (c := .clearCounters) h (by simp) rfl ?_, rfl, rfl, fun k hk => clearSets_getElem? _ _ _ k hk⟩
    simp only [Command.run, runClearCounters]
    rw [if_neg (by omega)]
    rfl

/-! ## The abort of the measurements -/

theorem Measurement.active_eq (r : Measurement) : r.active = decide (r.state ≠ .idle) := by
  unfold Measurement.active
  cases r.state <;> rfl

/-- The RESULT of outcome ABORTED that a string's record places (R188, R191). -/
def abortedResult (s : State) (i : StringNo) : Reply :=
  ⟨0x14, .result (resultWords i { (s.string i).record with pending := some .aborted })⟩

/-- What the abort of the measurements of a list of strings leaves: their RESULTs in the list's order as far as reply slots last,
the rest WAITING, and MEASURE_DONE when a RESULT was placed (R158, R189, R191). -/
structure MeasurementsAborted (strings : List StringNo) (s t : State) : Prop where
  rq : t.rq = s.rq ++ (strings.take (8 - s.rq.length)).map (abortedResult s)
  su : t.su = { s.su with flags := if strings.take (8 - s.rq.length) = [] then s.su.flags else flagsAfter 10 s.su }
  placed : ∀ i ∈ strings.take (8 - s.rq.length),
    t.string i = { s.string i with record := { (s.string i).record with state := .idle, pending := none } }
  waits : ∀ i ∈ strings, i ∉ strings.take (8 - s.rq.length) →
    t.string i = { s.string i with record := { (s.string i).record with state := .waiting, pending := some .aborted } }
  others : ∀ i, i ∉ strings → t.string i = s.string i
  rest : t = { s with strings := t.strings, rq := t.rq, su := t.su }

/-- Placing a RESULT in the terms of the statements (R189). -/
theorem placeResult_eq (i : StringNo) (s : State) :
    placeResult i s = { s.modifyRecord i (·.toIdle) with
      rq := s.rq ++ [resultReply i (s.string i).record], su := { s.su with flags := flagsAfter 10 s.su } } := by
  simp only [placeResult, State.causeFlag, StatusUnit.cause_eq]
  rfl

/-- The abort of one active record that finds a slot (R189, R191). -/
theorem abortAndSeek_placed (i : StringNo) (s : State) (h : (s.string i).record.state ≠ .idle) (hs : s.rq.length < 8) :
    abortAndSeek i s = { s.modifyRecord i (·.toIdle) with
      rq := s.rq ++ [abortedResult s i], su := { s.su with flags := flagsAfter 10 s.su } } := by
  have aborts : abortRecord i s = s.modifyRecord i (·.finish .aborted) := abortRecord_active i s h
  have seeks : seekSlot i (s.modifyRecord i (·.finish .aborted)) = placeResult i (s.modifyRecord i (·.finish .aborted)) :=
    if_pos ⟨by simp [Measurement.finish], by simp [State.replySlotFree, Config.replyQueueSize, hs]⟩
  rw [abortAndSeek, aborts, seeks, placeResult_eq, State.modifyRecord_modifyRecord, State.modifyRecord_string]
  rfl

/-- The abort of one active record that finds none. -/
theorem abortAndSeek_waits (i : StringNo) (s : State) (h : (s.string i).record.state ≠ .idle) (hs : 8 ≤ s.rq.length) :
    abortAndSeek i s = s.modifyRecord i (·.finish .aborted) := by
  have aborts : abortRecord i s = s.modifyRecord i (·.finish .aborted) := abortRecord_active i s h
  rw [abortAndSeek, aborts, seekSlot_stays i (s.modifyRecord i (·.finish .aborted)) (.inr hs)]

/-- An IDLE record is left as it stands. -/
theorem abortAndSeek_idle (i : StringNo) (s : State) (h : (s.string i).record.state = .idle) : abortAndSeek i s = s := by
  rw [abortAndSeek, abortRecord_idle i s h, seekSlot_stays i s (.inl (by simp [h]))]

/-- The active records of a list that names no string twice, aborted one after another. -/
theorem measurementsAborted (strings : List StringNo) (s : State) (hnodup : strings.Nodup)
    (active : ∀ i ∈ strings, (s.string i).record.state ≠ .idle) :
    MeasurementsAborted strings s (forStrings strings abortAndSeek s) := by
  induction strings generalizing s with
  | nil => exact ⟨by simp, by simp, by simp, by simp, fun _ _ => rfl, rfl⟩
  | cons i rest ih =>
    obtain ⟨hi, hrest⟩ := List.nodup_cons.mp hnodup
    have hne {j : StringNo} (hj : j ∈ rest) : j ≠ i := fun e => hi (e ▸ hj)
    have touches := abortAndSeek_touches i s
    have after := ih (abortAndSeek i s) hrest fun j hj => by
      rw [touches.others j (hne hj)]
      exact active j (List.mem_cons_of_mem i hj)
    rw [forStrings_cons]
    have hactive := active i List.mem_cons_self
    have results (strings : List StringNo) (h : ∀ j ∈ strings, j ∈ rest) :
        strings.map (abortedResult (abortAndSeek i s)) = strings.map (abortedResult s) :=
      List.map_congr_left fun j hj => by simp only [abortedResult, touches.others j (hne (h j hj))]
    rcases Nat.lt_or_ge s.rq.length 8 with hs | hs
    · have first := abortAndSeek_placed i s hactive hs
      have hstring : (abortAndSeek i s).string i =
          { s.string i with record := { (s.string i).record with state := .idle, pending := none } } := by
        rw [first]; exact State.modifyRecord_string i (·.toIdle) s
      have hrq : (abortAndSeek i s).rq = s.rq ++ [abortedResult s i] := by rw [first]
      have hlen : 8 - (abortAndSeek i s).rq.length = 8 - (s.rq.length + 1) := by rw [hrq]; simp
      have htake : (i :: rest).take (8 - s.rq.length) = i :: rest.take (8 - (s.rq.length + 1)) := by
        rw [show 8 - s.rq.length = 8 - (s.rq.length + 1) + 1 by omega, List.take_succ_cons]
      have hsub : ∀ j ∈ rest.take (8 - (s.rq.length + 1)), j ∈ rest := fun j hj => List.mem_of_mem_take hj
      obtain ⟨rq, su, placed, waits, others, frame⟩ := after
      rw [hlen] at rq su placed waits
      constructor
      case rq => rw [rq, htake, results _ hsub, hrq]; simp
      case su =>
        rw [su, htake, first]
        simp only [List.cons_ne_nil, if_false]
        congr 1
        split
        · rfl
        · exact flagsAfter_flagsAfter 10 s.su s.su.counters
      case placed =>
        intro j hj
        rw [htake, List.mem_cons] at hj
        rcases hj with rfl | hj
        · rw [others j hi, hstring]
        · rw [placed j hj, touches.others j (hne (hsub j hj))]
      case waits =>
        intro j hj hplaced
        rw [htake, List.mem_cons, not_or] at hplaced
        have hj := (List.mem_cons.mp hj).resolve_left hplaced.1
        rw [waits j hj hplaced.2, touches.others j (hne hj)]
      case others =>
        intro j hj
        rw [List.mem_cons, not_or] at hj
        rw [others j hj.2, touches.others j hj.1]
      case rest => rw [frame, first]; rfl
    · have first := abortAndSeek_waits i s hactive hs
      have hrq : (abortAndSeek i s).rq = s.rq := by rw [first]; rfl
      obtain ⟨rq, su, placed, waits, others, frame⟩ := after
      rw [hrq, Nat.sub_eq_zero_of_le hs] at rq su placed waits
      have hsu : (abortAndSeek i s).su = s.su := by rw [first]; rfl
      constructor <;> try rw [Nat.sub_eq_zero_of_le hs]
      case rq => simpa using rq
      case su => simpa [hsu] using su
      case placed => simp
      case waits =>
        intro j hj _
        rcases List.mem_cons.mp hj with rfl | hj
        · rw [others j hi, first, State.modifyRecord_string]
          rfl
        · rw [waits j hj (by simp), touches.others j (hne hj)]
      case others =>
        intro j hj
        rw [List.mem_cons, not_or] at hj
        rw [others j hj.2, touches.others j hj.1]
      case rest => rw [frame, first]; rfl

/-- The strings whose record is RUNNING or WAITING, as the statements write them. -/
theorem activeRecords_eq (s : State) : s.activeRecords = allStrings.filter fun i => decide ((s.string i).record.state ≠ .idle) := by
  simp only [State.activeRecords, Measurement.active_eq]

theorem activeRecords_nodup (s : State) : s.activeRecords.Nodup := allStrings_nodup.filter _

theorem mem_activeRecords (s : State) (i : StringNo) : i ∈ s.activeRecords ↔ (s.string i).record.state ≠ .idle := by
  simp [activeRecords_eq]

/-! ## Aborting first and seeking slots after -/

/-- One string's abort and another's search for a slot do not meet. -/
theorem seekSlot_abortRecord_comm {i j : StringNo} (h : i ≠ j) (s : State) :
    seekSlot i (abortRecord j s) = abortRecord j (seekSlot i s) := by
  have hj : (seekSlot i s).string j = s.string j := (seekSlot_touches i s).others j h.symm
  rcases eq_or_ne (s.string j).record.state .idle with idle | active
  · rw [abortRecord_idle j s idle, abortRecord_idle j _ (by rw [hj, idle])]
  · rw [abortRecord_active j s active, abortRecord_active j _ (by rwa [hj])]
    exact seekSlot_apart h _ s

/-- Aborting every record of a list and then letting each seek its slot is aborting them one by one. -/
theorem forStrings_seek_abort (strings : List StringNo) (h : strings.Nodup) (s : State) :
    forStrings strings seekSlot (forStrings strings abortRecord s) = forStrings strings abortAndSeek s := by
  have ahead (i : StringNo) (strings : List StringNo) (h : i ∉ strings) (s : State) :
      seekSlot i (forStrings strings abortRecord s) = forStrings strings abortRecord (seekSlot i s) := by
    induction strings generalizing s with
    | nil => rfl
    | cons j rest ih =>
      rw [List.mem_cons, not_or] at h
      rw [forStrings_cons, forStrings_cons, ih h.2, seekSlot_abortRecord_comm h.1]
  induction strings generalizing s with
  | nil => rfl
  | cons i rest ih =>
    obtain ⟨hi, hrest⟩ := List.nodup_cons.mp h
    rw [forStrings_cons, forStrings_cons, forStrings_cons, ahead i rest hi, ih hrest]
    rfl

/-! ## RESTORE DEFAULTS and RESTART -/

theorem noteOpen_iff (s : State) : s.noteOpen = true ↔ ∃ i, (s.string i).tracker.context ≠ none := by
  simp [State.noteOpen, Option.isSome_iff_ne_none]

theorem restoredSettings_string (s : State) (i : StringNo) : (restoredSettings s).string i = (s.string i).restoreDefaults :=
  State.modifyAll_string (·.restoreDefaults) s i

/-- Aborting records does not meet the reply queue. -/
theorem forStrings_abortRecord_replied (c : Command) (body : ReplyBody) (strings : List StringNo) (s : State) :
    replied c body (forStrings strings abortRecord s) = forStrings strings abortRecord (replied c body s) := by
  have one (i : StringNo) (s : State) : replied c body (abortRecord i s) = abortRecord i (replied c body s) := by
    unfold abortRecord
    exact apply_ite (replied c body) _ _ _
  induction strings generalizing s with
  | nil => rfl
  | cons i rest ih => rw [forStrings_cons, forStrings_cons, ih, one]

/-- The execution of RESTORE DEFAULTS with no note open: the settings restored, the reply placed, and then the active measurements
aborted one by one (R158, R182). -/
theorem exec_restoreDefaults (s : State) (h : executesAtOnce s) (closed : s.noteOpen = false) :
    exec (.restoreDefaults []) s =
      .next (forStrings s.activeRecords abortAndSeek (replied .restoreDefaults .accept (restoredSettings s))) := by
  have run : Command.restoreDefaults.run [] s =
      ⟨forStrings s.activeRecords abortRecord (restoredSettings s), .accept, s.activeRecords⟩ := by
    simp [Command.run, runRestoreDefaults, closed]
  rw [show Instr.restoreDefaults [] = row .restoreDefaults [] from rfl, exec_runs _ _ s h (by simp) rfl, run,
    forStrings_abortRecord_replied,    forStrings_seek_abort _ (activeRecords_nodup s)]

/-- Settles O58. -/
theorem restoreDefaultsAndRestart : Obligations.RestoreDefaultsAndRestart := by
  intro s h cleared
  refine ⟨fun opened => ?busy, fun closed => ?restored, ?restart⟩
  case busy =>
    refine exec_replies (c := .restoreDefaults) h (by simp) rfl ?_
    simp only [Command.run, runRestoreDefaults, (noteOpen_iff s).mpr opened, if_true]
    rfl
  case restored =>
    intro active placed result
    have hclosed : s.noteOpen = false := by
      rw [Bool.eq_false_iff, Ne, noteOpen_iff]
      rintro ⟨i, hi⟩
      exact hi (closed i)
    set settled := replied .restoreDefaults .accept (restoredSettings s)
    have string (i : StringNo) : settled.string i = (s.string i).restoreDefaults := restoredSettings_string s i
    obtain ⟨rq, su, isPlaced, waits, others, frame⟩ := measurementsAborted s.activeRecords settled (activeRecords_nodup s)
      fun i hi => by rw [string i]; exact (mem_activeRecords s i).mp hi
    have hrq : settled.rq = s.rq ++ [⟨0x32, .accept⟩] := rfl
    have hplaced : s.activeRecords.take (8 - settled.rq.length) = placed := by
      rw [hrq, List.length_append, show 8 - (s.rq.length + [(⟨0x32, .accept⟩ : Reply)].length) = 7 - s.rq.length from by simp,
        activeRecords_eq]
    have hresult : abortedResult settled = result := funext fun i => by rw [abortedResult, string i]; rfl
    rw [hplaced] at rq su isPlaced waits
    refine ⟨_, exec_restoreDefaults s h hclosed, ?_, ?_, fun i => ?_⟩
    · rw [rq, hrq, hresult, List.append_assoc]
      rfl
    · have hflags : flagsAfter 10 settled.su = s.su.flags ||| BitVec.ofNat 12 (2 ^ 10) :=
        if_pos (powerOnFlagMask_bit 10 (by decide))
      rw [frame, su, hflags]
      rfl
    · have mem : i ∈ active ↔ (s.string i).record.state ≠ .idle := by rw [← mem_activeRecords, activeRecords_eq]
      have reset : State.reset.string i = .powerOn := by cases i <;> rfl
      intro b
      rw [reset]
      rcases eq_or_ne b.record.state .idle with idle | isActive
      · have hi : i ∉ active := fun h => mem.mp h idle
        rw [others i fun h => hi (by rwa [activeRecords_eq] at h), string i]
        exact ⟨rfl, fun _ => rfl, fun h => absurd (List.mem_of_mem_take h) hi, fun h => absurd h hi⟩
      · have hi : i ∈ s.activeRecords := (mem_activeRecords s i).mpr isActive
        by_cases hp : i ∈ placed
        · rw [isPlaced i hp, string i]
          exact ⟨rfl, fun h => absurd h isActive, fun _ => rfl, fun _ h => absurd hp h⟩
        · rw [waits i hi hp, string i]
          exact ⟨rfl, fun h => absurd h isActive, fun h => absurd h hp, fun _ _ => rfl⟩
  case restart =>
    refine ⟨_, exec_replies (c := .restart) h (by simp) rfl rfl, rfl, fun i => ?_⟩
    have reset : (replied .restart (if false = true then .adjusted else .accept) (linkLossEffect s)).string i =
        (s.string i).linkLoss := State.modifyAll_string (·.linkLoss) s i
    intro b
    rw [reset, StringBlock.linkLoss_eq]

end Sys2Proof.Machine
end

section
/-!
PROOFS. The words of messages, replies and RESULTs (O26), and of an upstream frame (O25).
-/

namespace Sys2Proof.Machine

open Sys2Proof.Safety

/-! ## Fields of a word -/

theorem field_eq {value width : Nat} (low : Nat) (h : value < 2 ^ width) : field value width low = value * 2 ^ low := by
  rw [field, Nat.mod_eq_of_lt h]

theorem bitField_eq (b : Bool) (low : Nat) : bitField b low = (if b then 1 else 0) * 2 ^ low :=
  field_eq low (by split <;> decide)

theorem continuation_payload {n : Nat} (h : n < 2 ^ 15) : continuation (payload n) = BitVec.ofNat 16 n := by
  apply BitVec.eq_of_toNat_eq
  simp only [continuation, payload, BitVec.toNat_setWidth, BitVec.toNat_ofNat]
  omega

theorem continuation_payloadInt (value : Int) : continuation (payloadInt value) = BitVec.ofInt 16 (value % 2 ^ 15) := by
  apply BitVec.eq_of_toNat_eq
  simp only [continuation, payloadInt, BitVec.toNat_setWidth, BitVec.toNat_ofInt]
  omega

theorem stringNumber_le (i : StringNo) : i.number ≤ 6 := by
  cases i <;> decide

/-- A head word whose fields hold their values (R15). -/
theorem headWord_eq {kind string lane cause : Nat} (monitor injected : Bool) (hkind : kind < 8) (hstring : string < 8)
    (hlane : lane ≤ 15) (hcause : cause < 8) :
    headWord kind string lane monitor injected cause =
      BitVec.ofNat 16 (2 ^ 15 + 2 ^ 12 * kind + 2 ^ 9 * string + 2 ^ 5 * lane + 16 * (if monitor then 1 else 0) +
        8 * (if injected then 1 else 0) + cause) := by
  rw [headWord, field_eq (value := 1) 15 (by decide), field_eq 12 hkind, field_eq 9 hstring, field_eq 5 (by omega),
    field_eq 0 hcause,    bitField_eq, bitField_eq]
  congr 1
  omega

theorem MessageBody.kind_lt (b : MessageBody) : b.kind < 8 := by
  cases b <;> exact of_decide_eq_true rfl

theorem MessageBody.causeCode_lt (b : MessageBody) : b.causeCode < 8 := by
  cases b with
  | noteStart c => cases c <;> exact of_decide_eq_true rfl
  | pitch c => cases c <;> exact of_decide_eq_true rfl
  | restrike => exact of_decide_eq_true rfl
  | noteEnd c => cases c <;> exact of_decide_eq_true rfl
  | tune => exact of_decide_eq_true rfl

/-- The words of a message with a lane in range: its head word and its continuation words (R15). -/
theorem Message.words_eq (m : Message) (hlane : m.lane ≤ 15) :
    m.words = BitVec.ofNat 16 (2 ^ 15 + 2 ^ 12 * m.body.kind + 2 ^ 9 * m.string.number + 2 ^ 5 * m.lane +
      16 * (if m.monitor then 1 else 0) + 8 * (if m.injected then 1 else 0) + m.body.causeCode) ::
        m.body.continuations.map continuation := by
  rw [Message.words, headWord_eq _ _ m.body.kind_lt (by have := stringNumber_le m.string; omega) hlane m.body.causeCode_lt]

theorem ReplyBody.kind_lt (b : ReplyBody) : b.kind < 8 := by
  cases b <;> exact of_decide_eq_true rfl

/-- The words of a reply whose count or reason fits its byte (R16). -/
theorem Reply.words_eq (r : Reply) (hinfo : r.body.info ≤ 255) :
    r.words = BitVec.ofNat 16 (2 ^ 15 + 2 ^ 12 * 5 + r.body.kind) :: BitVec.ofNat 16 (2 ^ 8 * r.code.toNat + r.body.info) ::
      r.body.dataWords.map continuation := by
  have hcode : r.code.toNat < 2 ^ 7 := r.code.isLt
  rw [Reply.words, headWord_eq _ _ (by decide) (by decide) (by decide) r.body.kind_lt, List.map_cons, field_eq 8 hcode,
    field_eq (width := 8) 0 (by omega), continuation_payload (by omega)]
  congr 3
  omega

theorem RefusalReason.code_le (r : RefusalReason) : r.code ≤ 255 := by
  cases r <;> decide

/-- A period of 19 bits in its two words. -/
theorem periodWords_eq {p : Nat} (h : p < 2 ^ 19) :
    periodWords p = [BitVec.ofNat 15 (p / 2 ^ 15), BitVec.ofNat 15 (p % 2 ^ 15)] := by
  have high : fieldOf p 4 15 = p / 2 ^ 15 := by unfold fieldOf; omega
  have low : fieldOf p 15 0 = p % 2 ^ 15 := by unfold fieldOf; omega
  rw [periodWords, high, low]
  rfl

theorem MeasureOutcome.code_lt (o : MeasureOutcome) : o.code < 4 := by
  cases o <;> decide

/-- The data words of a RESULT whose fields hold their values (R188). -/
theorem resultWords_eq (i : StringNo) (r : Measurement) (o : MeasureOutcome) (ho : r.pending = some o) (hcount : r.count ≤ 64) :
    resultWords i r =
      if r.count = 0 then [BitVec.ofNat 15 (2 ^ 12 * i.number + 2 ^ 10 * o.code + r.count)]
      else BitVec.ofNat 15 (2 ^ 12 * i.number + 2 ^ 10 * o.code + r.count) ::
        (periodWords (r.sum / r.count) ++ periodWords (r.maximum.getD 0 - r.minimum.getD 0)) := by
  have first : field i.number 3 12 + field ((r.pending.map (·.code)).getD 0) 2 10 + field r.count 7 0 =
      2 ^ 12 * i.number + 2 ^ 10 * o.code + r.count := by
    rw [ho, field_eq 12 (by have := stringNumber_le i; omega), field_eq (value := ((some o).map (·.code)).getD 0) 10 o.code_lt,
      field_eq 0 (by omega), Option.map_some, Option.getD_some]
    omega
  simp only [resultWords, first]
  rfl

/-- Settles O26. -/
theorem wordsOfMessagesAndReplies : Obligations.WordsOfMessagesAndReplies := by
  refine ⟨?messages, ?results⟩
  case messages =>
    intro i lane note velocity pv bend monitor injected early start cause end_ reply hlane hnote hvelocity hpv _ _ hdata bit head
      bendWord startCode pitchCode endCode words code replyHead
    have message (body : MessageBody) : words body = head body.kind lane body.causeCode :: body.continuations.map continuation :=
      Message.words_eq ⟨i, lane, monitor, injected, body⟩ hlane
    have hstart : start.code = startCode := by cases start <;> rfl
    have hcause : cause.code = pitchCode := by cases cause <;> rfl
    have hend : end_.code = endCode := by cases end_ <;> rfl
    have hearly : bit early ≤ 1 := by cases early <;> decide
    have noteWord : continuation (payload (field note 7 8 + field velocity 7 1 + bitField early 0)) =
        BitVec.ofNat 16 (2 ^ 8 * note + 2 * velocity + bit early) := by
      have hbit : (if early then 1 else 0) = bit early := rfl
      rw [field_eq 8 (by omega), field_eq 1 (by omega), bitField_eq, hbit, continuation_payload (by omega)]
      congr 1
      omega
    have bendHolds : continuation (payloadInt bend) = bendWord := continuation_payloadInt bend
    refine ⟨?_, ?_, ?_, ?_, ?_, fun h => ?_, fun h => ?_, fun reason h => ?_, fun ws h => ?_, fun ws h => ?_⟩
    · rw [message, ← hstart, ← noteWord, ← bendHolds]
      rfl
    · have : continuation (payload (field note 7 8)) = BitVec.ofNat 16 (2 ^ 8 * note) := by
        rw [field_eq 8 (by omega), continuation_payload (by omega), Nat.mul_comm]
      rw [message, ← hcause, ← this, ← bendHolds]
      rfl
    · have : continuation (payload (field velocity 7 1)) = BitVec.ofNat 16 (2 * velocity) := by
        rw [field_eq 1 (by omega), continuation_payload (by omega), Nat.mul_comm, Nat.pow_one]
      rw [message, ← this]
      rfl
    · rw [message, ← hend]
      rfl
    · have : continuation (payload (field pv 13 0)) = BitVec.ofNat 16 pv := by
        rw [field_eq 0 (by omega), continuation_payload (by omega), Nat.pow_zero, Nat.mul_one]
      rw [message, ← this]
      rfl
    · rw [reply.words_eq (by rw [h]; decide), h]
      rfl
    · rw [reply.words_eq (by rw [h]; decide), h]
      rfl
    · intro number
      have : reason.code = number := by cases reason <;> rfl
      rw [reply.words_eq (by rw [h]; exact reason.code_le), h, ← this]
      rfl
    · rw [reply.words_eq (by rw [h]; exact hdata ws (.inl h)), h]
      rfl
    · rw [reply.words_eq (by rw [h]; exact hdata ws (.inr h)), h]
      rfl
  case results =>
    intro i r o ho hcount outcome head words
    have hout : o.code = outcome := by cases o <;> rfl
    have result := resultWords_eq i r o ho hcount
    rw [hout] at result
    refine ⟨fun h => by rw [result, if_pos h], fun low high hpos hlow hhigh hmax hsum => ?_⟩
    have average : r.sum / r.count < 2 ^ 19 := by
      have : r.sum / r.count ≤ 524287 := Nat.div_le_of_le_mul hsum
      omega
    rw [result, if_neg (by omega), periodWords_eq average, periodWords_eq (by rw [hhigh, hlow]; simp; omega), hhigh, hlow]
    rfl

end Sys2Proof.Machine
end

section
/-!
PROOFS. The turns of the strings at a frame arrival, and the content of an upstream frame (O25).
-/

namespace Sys2Proof.Machine

open Sys2Proof.Safety

/-! ## The turns of the strings -/

theorem forStrings_append (before after : List StringNo) (event : StringNo → State → State) (s : State) :
    forStrings (before ++ after) event s = forStrings after event (forStrings before event s) :=
  List.foldl_append

/-- Among strings served one after another, each once, one string's turn comes after the turns of some others and before those of
the rest: what the others' turns relate holds up to the string's turn and from it on. -/
theorem forStrings_turn {R : State → State → Prop} (refl : ∀ s, R s s) (trans : ∀ s t u, R s t → R t u → R s u)
    (event : StringNo → State → State) (i : StringNo) (others : ∀ j s, j ≠ i → R s (event j s)) {strings : List StringNo}
    (hnodup : strings.Nodup) (hi : i ∈ strings) (s : State) :
    ∃ u, R s u ∧ R (event i u) (forStrings strings event s) := by
  have apart (strings : List StringNo) (hi : i ∉ strings) (s : State) : R s (forStrings strings event s) := by
    induction strings generalizing s with
    | nil => exact refl s
    | cons j rest ih =>
      rw [List.mem_cons, not_or] at hi
      exact trans _ _ _ (others j s (Ne.symm hi.1)) (ih hi.2 _)
  obtain ⟨before, after, rfl⟩ := List.append_of_mem hi
  obtain ⟨_, hafter, hdisjoint⟩ := List.nodup_append.mp hnodup
  refine ⟨forStrings before event s, apart before (fun h => hdisjoint i h i List.mem_cons_self rfl) s, ?_⟩
  rw [forStrings_append, forStrings_cons]
  exact apart after (List.nodup_cons.mp hafter).1 _

/-- What the turns of the other strings leave of a string's own at a frame arrival. -/
structure OwnKept (i : StringNo) (s t : State) : Prop where
  plu : t.plu = s.plu
  string : t.string i = s.string i
  handed : t.slu.handed.get i = s.slu.handed.get i

theorem OwnKept.refl (i : StringNo) (s : State) : OwnKept i s s := ⟨rfl, rfl, rfl⟩

theorem OwnKept.trans (i : StringNo) (s t u : State) (h : OwnKept i s t) (k : OwnKept i t u) : OwnKept i s u :=
  ⟨k.plu.trans h.plu, k.string.trans h.string, k.handed.trans h.handed⟩

theorem stringArrival_ownKept (samples : PerString Word) (i j : StringNo) (s : State) (h : j ≠ i) :
    OwnKept i s (stringArrival samples j s) := by
  obtain ⟨plu, slu, others, _⟩ := stringArrival_frame samples j s
  exact ⟨plu, others i h.symm, by rw [slu]; exact PerString.get_set_other _ _ h.symm⟩

/-- A string's turn at a frame arrival: at it the string stands as it stood before the arrival, and what the turn leaves of the
string is left by the arrival (R20). -/
theorem frameArrival_turn (samples : PerString Word) (order : List StringNo) (i : StringNo) (s : State) :
    ∃ u, OwnKept i { s with plu := { s.plu with frameNo := s.plu.frameNo + 1 } } u ∧
      OwnKept i (stringArrival samples i u) (frameArrival samples order s) :=
  forStrings_turn (OwnKept.refl i) (OwnKept.trans i) _ i (fun j s h => stringArrival_ownKept samples i j s h)
    (servedOrder_nodup order) (mem_servedOrder order i) _

/-- The sample a string's stage hands over at a frame arrival (R12). -/
theorem frameArrival_handed (samples : PerString Word) (order : List StringNo) (i : StringNo) (s : State) :
    (frameArrival samples order s).slu.handed.get i = (runStage samples (s.plu.frameNo + 1) i (s.string i)).handed := by
  obtain ⟨u, before, after⟩ := frameArrival_turn samples order i s
  rw [after.handed, (stringArrival_frame samples i u).2.1, PerString.get_set_self, before.plu, before.string]
  rfl

/-! ## The content of an upstream frame -/

theorem upstream_eq (s : State) (h : s.slu.link = .up) :
    upstream s = { afterLaneSlot (afterLaneSlot (s.doPart .upstream)) with
      slu := { (afterLaneSlot (afterLaneSlot (s.doPart .upstream))).slu with
        sent := some ⟨(s.slu.doPart .upstream).handedBefore, stateHalf (s.doPart .upstream), sideHalf (s.doPart .upstream),
          laneWord (s.doPart .upstream), laneWord (afterLaneSlot (s.doPart .upstream))⟩ } } :=
  if_pos h

/-- The EQ level, the reservation count and the other fields of the state half, in their places (R13). -/
theorem stateHalf_eq (s : State) (hlevel : s.eq.entries.length ≤ 64) (hreserved : s.eq.reserved ≤ 6) :
    stateHalf s = BitVec.ofNat 16 (2 ^ 14 * s.plu.link.code + 2 ^ 13 * (if s.cu.commandReady then 1 else 0) +
      2 ^ 12 * (if s.su.flagAny then 1 else 0) + 2 ^ 11 * (if s.slu.hold then 1 else 0) + 2 ^ 7 * (s.eq.entries.length / 8) +
      2 ^ 4 * s.eq.reserved) := by
  have hlink : s.plu.link.code < 4 := by cases s.plu.link <;> exact of_decide_eq_true rfl
  have hoccupied : s.eq.level = s.eq.entries.length / 8 := rfl
  rw [stateHalf, field_eq 14 hlink, field_eq 7 (by omega), field_eq 4 (by omega), bitField_eq, bitField_eq, bitField_eq, hoccupied]
  congr 1
  omega

/-- The side word with its unused bits sent as 0 (R13). -/
theorem sideHalf_eq (s : State) : sideHalf s = BitVec.ofNat 16 (s.plu.side.toNat / 64 * 64) := by
  apply BitVec.eq_of_getLsbD_eq
  intro k hk
  have mask : (0xFFC0 : Word).getLsbD k = decide (6 ≤ k) := by
    revert k; decide
  rw [sideHalf, BitVec.getLsbD_and, mask, BitVec.getLsbD_ofNat,
    show s.plu.side.toNat / 64 * 64 = s.plu.side.toNat / 2 ^ 6 * 2 ^ 6 from rfl,    Nat.testBit_mul_two_pow, Nat.testBit_div_two_pow]
  by_cases h6 : 6 ≤ k
  · simp [h6, hk, BitVec.getLsbD]
  · simp [h6]

theorem doPart_new (p : PeriodPart) (u : Slu) (h : u.done.has p = false) : u.doPart p = { u with done := u.done.mark p } := by
  simp [Slu.doPart, h]

theorem doPart_again (p : PeriodPart) (u : Slu) (h : u.done.has p = true) :
    u.doPart p = { u with handedBefore := u.handed, handed := .const 0, done := PartsDone.nothing.mark p } :=
  if_pos h

/-- An upstream frame leaves of the synth link's state its part done and the frame sent, with the samples of the period before. -/
theorem upstream_slu (s : State) (h : s.slu.link = .up) :
    ∃ frame : UpstreamFrame, frame.samples = (s.slu.doPart .upstream).handedBefore ∧
      (upstream s).slu = { s.slu.doPart .upstream with sent := some frame } := by
  have slu : (afterLaneSlot (afterLaneSlot (s.doPart .upstream))).slu = s.slu.doPart .upstream :=
    ((afterLaneSlot_wordsKeep (s.doPart .upstream)).trans (afterLaneSlot_wordsKeep _)).slu
  rw [upstream_eq s h]
  exact ⟨_, rfl, by rw [slu]⟩

/-- A good frame taken in a slot while both links are UP is delivered (R4). -/
theorem pickupSlot_delivers (f : PickupFrame) (order : List StringNo) (s : State) (hs : s.slu.link = .up) (hp : s.plu.link = .up)
    (hf : goodFrame f = true) : pickupSlot f order s = deliverGood (frameContent f) order (s.doPart .slot) := by
  have plu : (s.doPart .slot).plu.link = .up := hp
  rw [pickupSlot, if_pos hs, judgeSlot, if_pos hf, plu]

theorem pickupSlot_slu (f : PickupFrame) (order : List StringNo) (s : State) (hs : s.slu.link = .up) :
    (pickupSlot f order s).slu = { s.slu.doPart .slot with handed := (pickupSlot f order s).slu.handed } := by
  rw [pickupSlot, if_pos hs]
  exact (judgeSlot_keeps f order (s.doPart .slot)).slu

/-- A synced downstream frame with no command word, taken in UP. -/
theorem downstream_idle (f : DownstreamFrame) (s : State) (hs : s.slu.link = .up) (hsync : f.sync = true)
    (hidle : f.control.getLsbD 14 = false) :
    downstream f s = { s with slu := { Slu.doPart .words { s.slu with missing := 0 } with hold := holdBit f } } := by
  rw [downstream_synced f s hsync, syncedFrame_up f s hs, takeDownstream_idle f _ hidle]
  rfl

/-- The samples a slot's good frame hands over depend on the strings and the frame number alone. -/
theorem pickupSlot_handed_congr (f : PickupFrame) (order : List StringNo) {s t : State}
    (hs : s.slu.link = .up) (ht : t.slu.link = .up)
    (hp : s.plu.link = .up) (hf : goodFrame f = true) (plu : t.plu = s.plu) (strings : t.strings = s.strings) :
    (pickupSlot f order t).slu.handed = (pickupSlot f order s).slu.handed := by
  rw [pickupSlot_delivers f order s hs hp hf, pickupSlot_delivers f order t ht (by rwa [plu]) hf]
  refine PerString.eq_of_get fun i => ?_
  rw [deliverGood, deliverGood, frameArrival_handed, frameArrival_handed]
  simp only [State.string, State.doPart, plu, strings]

/-- Settles O25. -/
theorem upstreamFrameContent : Obligations.UpstreamFrameContent := by
  refine ⟨?parts, ?periods, ?frame⟩
  case parts =>
    intro p u marked already
    have has : u.done.has p = already := by cases p <;> rfl
    have mark (d : PartsDone) : d.mark p = marked d := by cases p <;> rfl
    exact ⟨fun h => (doPart_new p u (has.trans h)).trans (by rw [mark]),
      fun h => (doPart_again p u (has.trans h)).trans (by rw [mark]; rfl)⟩
  case periods =>
    intro s f g order hs hdone hsync hidle hgood hp sent up down slot
    have up_slu (t : State) (h : t.slu.link = .up) : ∃ frame : UpstreamFrame,
        frame.samples = (t.slu.doPart .upstream).handedBefore ∧ (up t).slu = { t.slu.doPart .upstream with sent := some frame } :=
      upstream_slu t h
    have down_eq (t : State) (h : t.slu.link = .up) :
        down t = { t with slu := { Slu.doPart .words { t.slu with missing := 0 } with hold := holdBit f } } :=
      downstream_idle f t h hsync hidle
    have slot_slu (t : State) (h : t.slu.link = .up) :
        (slot t).slu = { t.slu.doPart .slot with handed := (slot t).slu.handed } := pickupSlot_slu g order t h
    have sent_up (t : State) (h : t.slu.link = .up) : sent (up t) = some (t.slu.doPart .upstream).handedBefore := by
      obtain ⟨frame, samples, hup⟩ := up_slu t h
      simp [sent, hup, samples]
    have slot_down : (slot (down s)).slu.handed = (slot s).slu.handed := by
      have hd := down_eq s hs
      exact pickupSlot_handed_congr g order hs (by simp [hd, hs]) hp hgood (by rw [hd]) (by rw [hd])
    obtain ⟨frame, _, hup⟩ := up_slu s hs
    have hslot := slot_slu s hs
    have hdown := congrArg State.slu (down_eq s hs)
    have slot_link : (slot s).slu.link = .up := by rw [hslot]; simp [hs]
    have down_link : (down s).slu.link = .up := by rw [hdown]; simp [hs]
    have up_link : (up s).slu.link = .up := by rw [hup]; simp [hs]
    have slot_up := slot_slu (up s) up_link
    have down_up := congrArg State.slu (down_eq (up s) up_link)
    have down_slot := congrArg State.slu (down_eq (slot s) slot_link)
    have slot_down_slu := slot_slu (down s) down_link
    have slot_up_link : (slot (up s)).slu.link = .up := by rw [slot_up]; simp [up_link]
    have down_up_link : (down (up s)).slu.link = .up := by rw [down_up]; simp [up_link]
    have down_slot_link : (down (slot s)).slu.link = .up := by rw [down_slot]; simp [slot_link]
    have slot_down_link : (slot (down s)).slu.link = .up := by rw [slot_down_slu]; simp [down_link]
    refine ⟨?_, ?_, ?_, ?_, ?_, ?_, ?_, ?_, ?_⟩
    · rw [sent_up s hs, doPart_again _ _ (by rw [hdone]; rfl)]
    · rw [sent_up _ down_link, hdown]
      simp [Slu.doPart, PartsDone.has, PartsDone.mark, PartsDone.nothing, hdone]
    · rw [sent_up _ slot_link, hslot]
      simp [Slu.doPart, PartsDone.has, PartsDone.mark, PartsDone.nothing, hdone]
    · rw [sent_up _ down_slot_link, down_slot, hslot]
      simp [Slu.doPart, PartsDone.has, PartsDone.mark, PartsDone.nothing, hdone]
    · rw [sent_up _ slot_down_link, slot_down_slu, hdown]
      simp [Slu.doPart, PartsDone.has, PartsDone.mark, PartsDone.nothing, hdone]
    · rw [slot_slu _ down_up_link, down_up, hup]
      simp [Slu.doPart, PartsDone.has, PartsDone.mark, PartsDone.nothing, hdone]
    · rw [down_eq _ slot_up_link, slot_up, hup]
      simp [Slu.doPart, PartsDone.has, PartsDone.mark, PartsDone.nothing, hdone]
    · rw [down_eq _ slot_up_link, slot_up, hup]
      simp [Slu.doPart, PartsDone.has, PartsDone.mark, PartsDone.nothing, hdone]
    · obtain ⟨frame, _, hlast⟩ := up_slu _ slot_down_link
      rw [hlast, slot_down_slu, hdown, slot_down]
      simp [Slu.doPart, PartsDone.has, PartsDone.mark, PartsDone.nothing, hdone]
  case frame =>
    intro before s mid done linkCode ready anyFlag hold
    refine ⟨fun hl hlevel hreserved => ?_, fun hl => ?_⟩
    · have half : stateHalf s = BitVec.ofNat 16 (2 ^ 14 * linkCode + 2 ^ 13 * ready + 2 ^ 12 * anyFlag + 2 ^ 11 * hold +
          2 ^ 7 * (s.eq.entries.length / 8) + 2 ^ 4 * s.eq.reserved) := by
        have hlink : s.plu.link.code = linkCode := by cases h : s.plu.link <;> simp [linkCode, h, PickupLink.code]
        have hready : (if s.cu.commandReady then 1 else 0) = ready := by
          cases h : s.cu <;> simp [ready, h, CommandUnit.commandReady]
        have hany : (if s.su.flagAny then 1 else 0) = anyFlag := by
          simp [anyFlag, StatusUnit.flagAny]
        rw [stateHalf_eq s hlevel hreserved, hlink, hready, hany]
      have side : sideHalf s = BitVec.ofNat 16 (s.plu.side.toNat / 64 * 64) := sideHalf_eq s
      rw [← half, ← side]
      exact congrArg _ (upstream_eq before hl)
    · exact congrArg _ (if_neg (by simp [hl]))

end Sys2Proof.Machine
end

section
/-!
PROOFS. What an edge or an outcome taken by a tracker leaves of its string's validator and attack peak, and of the status unit.
-/

namespace Sys2Proof.Safety

open Sys2Proof.Machine

theorem StatusKept.refl (flags counters : List Nat) (su : StatusUnit) : StatusKept flags counters su su :=
  ⟨rfl, fun _ _ => rfl, fun _ _ => rfl⟩

theorem StatusKept.trans {flags counters : List Nat} {su sv sw : StatusUnit} (h : StatusKept flags counters su sv)
    (k : StatusKept flags counters sv sw) : StatusKept flags counters su sw :=
  ⟨k.mask.trans h.mask, fun n hn => (k.flag n hn).trans (h.flag n hn), fun n hn => (k.counter n hn).trans (h.counter n hn)⟩

/-- What is kept outside some flags and counters is kept outside more. -/
theorem StatusKept.mono {flags counters flags' counters' : List Nat} {su sv : StatusUnit} (h : StatusKept flags counters su sv)
    (hf : flags ⊆ flags') (hc : counters ⊆ counters') : StatusKept flags' counters' su sv :=
  ⟨h.mask, fun k hk => h.flag k fun m => hk (hf m), fun k hk => h.counter k fun m => hk (hc m)⟩

end Sys2Proof.Safety

namespace Sys2Proof.Machine

open Sys2Proof.Safety

/-! ## What the status unit keeps -/

theorem flagsAfter_other {bit k : Nat} (su : StatusUnit) (h : k ≠ bit) :
    (flagsAfter bit su).getLsbD k = su.flags.getLsbD k := by
  unfold flagsAfter
  split
  · rw [BitVec.getLsbD_or, BitVec.getLsbD_ofNat, Nat.testBit_two_pow_of_ne h.symm]
    simp
  · rfl

theorem flagsAfter_self {bit : Nat} (su : StatusUnit) (hbit : bit < 12) :
    (flagsAfter bit su).getLsbD bit = (su.mask.getLsbD bit || su.flags.getLsbD bit) := by
  unfold flagsAfter
  split
  · next h =>
    rw [h, BitVec.getLsbD_or, BitVec.getLsbD_ofNat, Nat.testBit_two_pow_self]
    simp [hbit]
  · next h => simp [h]

/-- A flag's cause touches that flag alone (R17). -/
theorem cause_statusKept (f : Flag) (su : StatusUnit) : StatusKept [f.bit] [] su (su.cause f) := by
  rw [StatusUnit.cause_eq]
  exact ⟨rfl, fun k hk => flagsAfter_other su fun e => hk (e ▸ List.mem_singleton_self _), fun _ _ => rfl⟩

/-- A counter's cause touches that counter alone (R19). -/
theorem bump_statusKept (c : StatusCounter) (su : StatusUnit) : StatusKept [] [c.index] su (su.bump c) := by
  refine ⟨rfl, fun _ _ => rfl, fun k hk => ?_⟩
  exact Vector.getElem?_setIfInBounds_ne fun e => hk (e ▸ List.mem_singleton_self _)

/-- A loss of the monitor queue touches MONITOR_LOST and its counter alone (R154). -/
theorem placeMonitor_statusKept (m : Message) (s : State) : StatusKept [7] [5] s.su (s.placeMonitor m).su := by
  unfold State.placeMonitor
  split
  · exact StatusKept.refl _ _ _
  · exact ((cause_statusKept .monitorLost s.su).mono (List.Subset.refl _) (List.nil_subset _)).trans
      ((bump_statusKept .monitorLost _).mono (List.nil_subset _) (List.Subset.refl _))

theorem routeStage_statusKept (v : Verdict) (index : Option Nat) (m : Message) (s : State) :
    StatusKept [7] [5] s.su (routeStage v index m s).su := by
  rw [routeStage_su]
  split
  · exact placeMonitor_statusKept _ s
  · exact StatusKept.refl _ _ _

/-- A refused start or PITCH touches START_LOST or UPDATE_LOST and its counter alone (R146, R149). -/
theorem admit_statusKept (reserves : Bool) (m : Message) (s : State) :
    StatusKept [5, 6] [3, 4] s.su (admitMessage reserves m s).state.su := by
  have kept := StatusKept.refl [5, 6] [3, 4] s.su
  have one : StatusKept [5, 6] [3, 4] s.su (admitOne m s).state.su := by
    unfold admitOne
    split <;> exact kept
  unfold admitMessage
  split
  · split
    · unfold admitReserving
      split
      · exact kept
      · exact ((cause_statusKept .startLost s.su).mono (by decide) (List.nil_subset _)).trans
          ((bump_statusKept .startsLost _).mono (List.nil_subset _) (by decide))
    · exact one
  · unfold admitPitch
    split
    · exact kept
    · split
      · exact kept
      · exact ((cause_statusKept .updateLost s.su).mono (by decide) (List.nil_subset _)).trans
          ((bump_statusKept .updatesLost _).mono (List.nil_subset _) (by decide))
  · exact one
  · split
    · exact one
    · exact kept
  · exact kept

theorem admitStage_su (reserves : Bool) (index : Option Nat) (m : Message) (s : State) :
    (admitStage reserves index m s).state.su = (admitMessage reserves m s).state.su := by
  unfold admitStage
  simp only
  split
  · exact countMessage_su _ _ _
  · rfl

theorem crossRoute_statusKept (verdict route : Verdict) (withheld reserves : Bool) (index : Option Nat) (m : Message) (s : State) :
    StatusKept [5, 6, 7] [3, 4, 5] s.su (crossRoute verdict route withheld reserves index m s).state.su := by
  have routed := (routeStage_statusKept (verdict.higher route) index m s).mono (flags' := [5, 6, 7]) (counters' := [3, 4, 5])
    (by decide) (by decide)
  unfold crossRoute
  simp only
  split
  · refine routed.trans ?_
    rw [admitStage_su]
    exact (admit_statusKept reserves m _).mono (by decide) (by decide)
  · exact routed

/-! ## What a tracker's event leaves -/

/-- The flags a tracker's event can cause: START_LOST, UPDATE_LOST, MONITOR_LOST, RANGE and TRACK_LOST. -/
def trackerFlags : List Nat := [5, 6, 7, 8, 9]

/-- The counters a tracker's event can cause: all but the bad frames and the two of the command unit. -/
def trackerCounters : List Nat := List.range' 3 21

/-- An event of a string's tracker that begins no attack: the validator and an attack's peak stay, and of the status unit only the
tracker's flags and counters change. -/
structure NoteEvent (i : StringNo) (s t : State) : Prop where
  validator : (t.string i).validator = (s.string i).validator
  attack : (t.string i).tracker.state = .attack →
    (s.string i).tracker.state = .attack ∧ (t.string i).tracker.attackPeak = (s.string i).tracker.attackPeak
  status : StatusKept trackerFlags trackerCounters s.su t.su

theorem NoteEvent.refl (i : StringNo) (s : State) : NoteEvent i s s := ⟨rfl, fun h => ⟨h, rfl⟩, StatusKept.refl _ _ _⟩

theorem NoteEvent.trans {i : StringNo} {s t u : State} (h : NoteEvent i s t) (k : NoteEvent i t u) : NoteEvent i s u where
  validator := k.validator.trans h.validator
  attack ha := ⟨(h.attack (k.attack ha).1).1, (k.attack ha).2.trans (h.attack (k.attack ha).1).2⟩
  status := h.status.trans k.status

/-- A change of the string's blocks that begins no attack. -/
theorem NoteEvent.modifyString (i : StringNo) (f : StringBlock → StringBlock) (s : State)
    (validator : ∀ b, (f b).validator = b.validator)
    (attack : ∀ b, (f b).tracker.state = .attack → b.tracker.state = .attack ∧ (f b).tracker.attackPeak = b.tracker.attackPeak) :
    NoteEvent i s (s.modifyString i f) where
  validator := by rw [State.modifyString_string]; exact validator _
  attack := by rw [State.modifyString_string]; exact attack _
  status := StatusKept.refl _ _ _

theorem NoteEvent.modifyContext (i : StringNo) (f : NoteContext → NoteContext) (s : State) : NoteEvent i s (s.modifyContext i f) :=
  .modifyString i _ s (fun _ => rfl) fun _ h => ⟨h, rfl⟩

theorem NoteEvent.setTracker (i : StringNo) (k : TrackerState) (s : State) (h : k ≠ .attack) : NoteEvent i s (s.setTracker i k) :=
  .modifyString i _ s (fun _ => rfl) fun _ e => absurd e h

theorem NoteEvent.causeFlag (i : StringNo) (f : Flag) (s : State) (h : f.bit ∈ trackerFlags) : NoteEvent i s (s.causeFlag f) :=
  ⟨rfl, fun h => ⟨h, rfl⟩, (cause_statusKept f s.su).mono (List.cons_subset.mpr ⟨h, List.nil_subset _⟩) (List.nil_subset _)⟩

theorem NoteEvent.bumpCounter (i : StringNo) (c : StatusCounter) (s : State) (h : c.index ∈ trackerCounters) :
    NoteEvent i s (s.bumpCounter c) :=
  ⟨rfl, fun h => ⟨h, rfl⟩, (bump_statusKept c s.su).mono (List.nil_subset _) (List.cons_subset.mpr ⟨h, List.nil_subset _⟩)⟩

/-- What leaves the string's blocks as they stand begins no attack. -/
theorem NoteEvent.ofQueuesOnly (i : StringNo) {s t : State} (h : QueuesOnly s t)
    (status : StatusKept trackerFlags trackerCounters s.su t.su) : NoteEvent i s t where
  validator := by rw [h.string]
  attack := by rw [h.string]; exact fun e => ⟨e, rfl⟩
  status := status

theorem NoteEvent.placeMonitor (i : StringNo) (m : Message) (s : State) : NoteEvent i s (s.placeMonitor m) :=
  .ofQueuesOnly i (placeMonitor_queuesOnly m s) ((placeMonitor_statusKept m s).mono (by decide) (by decide))

theorem NoteEvent.crossTracker (i : StringNo) (c : NoteContext) (w : Bool) (m : TrackerMessage) (s : State) :
    NoteEvent i s (crossTracker i c w m s).state :=
  .ofQueuesOnly i (crossTracker_queuesOnly i c w m s) ((crossRoute_statusKept _ _ _ _ _ _ s).mono (by decide) (by decide))

theorem offerStart_event (i : StringNo) (cause : StartCause) (s : State) : NoteEvent i s (offerStart i cause s) := by
  unfold offerStart
  split
  · exact .refl i s
  · have offered (c : NoteContext) (f : NoteContext → NoteContext) (m : TrackerMessage) :=
      (NoteEvent.crossTracker i c false m s).trans (.modifyContext i f _)
    simp only
    split
    · exact (offered _ _ _).trans (.modifyString i _ _ (fun _ => rfl) fun _ h => ⟨h, rfl⟩)
    · exact offered _ _ _

theorem laterMessage_event (i : StringNo) (m : TrackerMessage) (s : State) : NoteEvent i s (laterMessage i m s).state := by
  unfold laterMessage
  split
  · exact .refl i s
  · split
    · exact .crossTracker i _ _ _ s
    · exact .refl i s

theorem buildPitch_event (i : StringNo) (cause : PitchCause) (s : State) : NoteEvent i s (buildPitch i cause s) := by
  unfold buildPitch
  split
  · exact .refl i s
  · simp only
    split
    · split
      · exact (laterMessage_event i _ s).trans (.modifyContext i _ _)
      · exact laterMessage_event i _ s
    · exact .refl i s

theorem endNote_event (i : StringNo) (cause : EndCause) (s : State) : NoteEvent i s (endNote i cause s) := by
  have closes (t : State) : NoteEvent i t (t.modifyString i (·.closeContext)) :=
    .modifyString i _ t (fun _ => rfl) fun _ h => ⟨h, rfl⟩
  unfold endNote
  split
  · exact .refl i s
  · simp only
    split
    · exact (laterMessage_event i _ s).trans (closes _)
    · exact closes s

theorem startNote_event (i : StringNo) (pv : Nat) (cause : StartCause) (grade peak : Nat) (early : Bool) (s : State) :
    NoteEvent i s (startNote i pv cause grade peak early s) := by
  have opened (c : NoteContext) : NoteEvent i s (s.modifyString i (·.startNote c)) :=
    .modifyString i _ s (fun _ => rfl) fun _ h => by cases h
  have stored (t : State) : NoteEvent i t (storeLane i cause t) := .modifyContext i _ t
  exact ((opened _).trans (stored _)).trans (offerStart_event i cause _)

theorem endAttack_event (i : StringNo) (after : TrackerState) (s : State) (h : after ≠ .attack) :
    NoteEvent i s (endAttack i after s) :=
  .modifyString i _ s (fun _ => rfl) fun _ e => absurd e h

theorem backToSounding_event (i : StringNo) (s : State) : NoteEvent i s (backToSounding i s) :=
  .modifyString i _ s (fun _ => rfl) fun _ h => by cases h

theorem fallInSounding_event (i : StringNo) (s : State) : NoteEvent i s (fallInSounding i s) := by
  unfold fallInSounding
  simp only
  split
  · exact .modifyString i _ s (fun _ => rfl) fun _ h => by cases h
  · exact (endNote_event i _ s).trans (.setTracker i _ _ (by decide))

theorem recoveryStart_event (i : StringNo) (s : State) : NoteEvent i s (recoveryStart i s) :=
  (NoteEvent.modifyContext i _ s).trans (offerStart_event i _ _)

theorem restrikeNote_event (i : StringNo) (s : State) : NoteEvent i s (restrikeNote i s) := by
  unfold restrikeNote
  split
  · exact .refl i s
  · split
    · split
      · exact laterMessage_event i _ s
      · exact recoveryStart_event i s
    · exact .refl i s

/-- Every edge but an onset (R25 to R27). -/
theorem takeEdge_event (i : StringNo) (edge : Edge) (s : State) (h : edge ≠ .onset) : NoteEvent i s (takeEdge i edge s) := by
  unfold takeEdge
  split
  · exact absurd rfl h
  · exact endAttack_event i _ s (by decide)
  · exact fallInSounding_event i s
  · exact backToSounding_event i s
  · exact restrikeNote_event i s
  · exact (backToSounding_event i s).trans (restrikeNote_event i _)
  · exact .refl i s

theorem noteRange_event (i : StringNo) (o : GridOutcome) (s : State) : NoteEvent i s (noteRange o s) := by
  cases o
  · exact .causeFlag i _ s (by decide)
  · exact .refl i s
  · exact .causeFlag i _ s (by decide)

theorem clearEarly_event (i : StringNo) (pv note : Nat) (s : State) : NoteEvent i s (clearEarly i pv note s) := by
  unfold clearEarly
  simp only
  split
  · exact .modifyContext i _ s
  · exact (NoteEvent.modifyContext i _ s).trans (buildPitch_event i _ _)

theorem changeNote_event (i : StringNo) (mode : LegatoMode) (pv : Nat) (s : State) : NoteEvent i s (changeNote i mode pv s) := by
  cases mode
  · exact (NoteEvent.modifyContext i _ s).trans (buildPitch_event i _ _)
  · exact ((NoteEvent.modifyContext i _ s).trans (endNote_event i _ _)).trans (startNote_event i pv .legato _ _ false _)

theorem jumpReturns_event (i : StringNo) (o : LockOutcome) (s : State) : NoteEvent i s (jumpReturns i o s) := by
  unfold jumpReturns
  split
  · exact backToSounding_event i s
  · exact .refl i s

theorem pitchOutcome_event (i : StringNo) (o : LockOutcome) (pv : Nat) (c : NoteContext) (s : State) :
    NoteEvent i s (pitchOutcome i o pv c s) := by
  unfold pitchOutcome
  split
  · exact (jumpReturns_event i o s).trans (clearEarly_event i pv _ _)
  · split
    · exact (backToSounding_event i s).trans (changeNote_event i _ pv _)
    · exact (jumpReturns_event i o s).trans (.modifyContext i _ _)

theorem takePitch_event (i : StringNo) (o : LockOutcome) (found : GridOutcome × Nat) (s : State) :
    NoteEvent i s (takePitch i o found s) := by
  unfold takePitch
  split
  · split
    · exact startNote_event i _ .picked _ _ false s
    · exact .refl i s
  · exact pitchOutcome_event i o _ _ s
  · exact pitchOutcome_event i o _ _ s
  · exact .refl i s

theorem takeLocking_event (i : StringNo) (o : LockOutcome) (a : Nat) (s : State) : NoteEvent i s (takeLocking i o a s) := by
  unfold takeLocking
  simp only
  split
  · exact .refl i s
  · split
    · split
      · exact ((noteRange_event i _ s).trans (takePitch_event i o _ _)).trans (.placeMonitor i _ _)
      · exact (noteRange_event i _ s).trans (takePitch_event i o _ _)
    · exact .refl i s

/-- Every outcome (R90 to R99). -/
theorem takeOutcome_event (i : StringNo) (o : LockOutcome) (accepted : Option Nat) (s : State) :
    NoteEvent i s (takeOutcome i o accepted s) := by
  unfold takeOutcome
  split
  · split
    · exact (NoteEvent.causeFlag i _ s (by decide)).trans (.bumpCounter i _ _ (by cases i <;> decide))
    · exact .refl i s
  · split
    · exact takeLocking_event i o _ s
    · exact .refl i s
  · exact .refl i s

/-! ## Onsets -/

/-- An ONSET edge is chosen in SILENT alone (R25). -/
theorem silent_of_chooseEdge_onset {p : Profile} {state : TrackerState} {gate : OnsetGate} {trough : Option Nat} {e : Nat}
    (h : chooseEdge p state gate trough e = some .onset) : state = .silent := by
  cases state <;> simp only [chooseEdge] at h
  case silent => rfl
  all_goals (repeat' split at h) <;> cases h

/-- An onset of a SILENT tracker: the validator cleared, the attack begun at the envelope, and the onset counted (R90). -/
theorem takeEdge_onset (i : StringNo) (s : State) (h : (s.string i).tracker.state = .silent) :
    takeEdge i .onset s = takeOnset i s := by
  unfold takeEdge
  rw [h]

theorem takeOnset_string (i : StringNo) (s : State) : (takeOnset i s).string i = { s.string i with
    validator := .cleared
    timers := { (s.string i).timers with attack := ⟨true, 0, (s.string i).profile.earlyCommit, (s.string i).profile.giveUp⟩ }
    tracker := { (s.string i).tracker with state := .attack, attackPeak := (s.string i).stage.e } } := by
  rw [takeOnset, State.bumpCounter_string, State.modifyString_string]

theorem takeOnset_statusKept (i : StringNo) (s : State) : StatusKept trackerFlags trackerCounters s.su (takeOnset i s).su :=
  (bump_statusKept (.onsets i) s.su).mono (List.nil_subset _) (List.cons_subset.mpr ⟨by cases i <;> decide, List.nil_subset _⟩)

/-- A raw period after a cleared lock state is UNLOCKED (R39). -/
theorem take_cleared (profile : Profile) (p : Nat) :
    Validator.take profile p .cleared = ⟨⟨none, none, 0, [⟨p, .unlocked⟩]⟩, .unlocked, p⟩ := rfl

/-- An UNLOCKED outcome does nothing to a tracker (R88). -/
theorem takeOutcome_unlocked (i : StringNo) (accepted : Option Nat) (s : State) : takeOutcome i .unlocked accepted s = s := by
  cases accepted <;> rfl

end Sys2Proof.Machine
end

section
/-!
PROOFS. A string's turn at a frame arrival, and the slots of the pickup link (O36, O37).
-/

namespace Sys2Proof.Safety

open Sys2Proof.Machine

/-- What an arrival leaves of a string's stage speaks of its blocks and its sample handed over alone. -/
theorem StageRan.congr {samples : PerString Word} {n : BitVec 24} {i : StringNo} {s t u v : State} (h : StageRan samples n i s t)
    (before : u.string i = s.string i) (after : v.string i = t.string i) (handed : v.slu.handed.get i = t.slu.handed.get i) :
    StageRan samples n i u v := by
  constructor <;> rw [before]
  case handed => rw [handed]; exact h.handed
  all_goals rw [after]
  exacts [h.y, h.e, h.gate, h.detector, h.tentative, h.committed]

/-- The report of a turn speaks of the string's blocks alone. -/
theorem StringReported.congr {samples : PerString Word} {n : BitVec 24} {i : StringNo} {s t u v : State}
    (h : StringReported samples n i s t) (before : u.string i = s.string i) (after : v.string i = t.string i) :
    StringReported samples n i u v := by
  constructor <;> rw [before, after]
  exacts [h.validator, h.recordKept, h.recordGrown, h.peak, h.onset]

end Sys2Proof.Safety

namespace Sys2Proof.Machine

open Sys2Proof.Safety

/-! ## The filter value of a turn -/

@[simp] theorem lookForCrossing_y (n : BitVec 24) (a b : Int) (st : InputStage) : (lookForCrossing n a b st).y = st.y := by
  unfold lookForCrossing
  split <;> rfl

@[simp] theorem commitAndArm_y (halfBand : Nat) (y : Int) (st : InputStage) : (commitAndArm halfBand y st).y = st.y := by
  unfold commitAndArm
  simp only
  split <;> split <;> rfl

@[simp] theorem deliverPeriod_y (n : BitVec 24) (commit : Option Time) (st : InputStage) :
    (deliverPeriod n commit st).1.y = st.y := by
  unfold deliverPeriod
  simp only
  split
  · rfl
  · split <;> rfl
  · split <;> rfl
  · rfl

/-- The detector leaves the filter value (R28 to R30). -/
@[simp] theorem detect_y (n : BitVec 24) (halfBand : Nat) (before : Int) (st : InputStage) :
    (detect n halfBand before st).1.y = st.y := by
  simp [detect]

/-- The sample a stage's run hands over is the one its tap chooses (R12). -/
theorem runStage_handed (samples : PerString Word) (n : BitVec 24) (i : StringNo) (b : StringBlock) :
    (runStage samples n i b).handed = tapSample b.profile.tap (samples.get i) (correctedSample samples b.crosstalk i)
      (runStage samples n i b).stage.y := by
  simp [runStage]

/-! ## The reports of a turn -/

/-- The tracker's share of a turn's edge (R20, step 8). -/
def takeReportedEdge (i : StringNo) (edge : Option Edge) (s : State) : State := edge.elim s (takeEdge i · s)

theorem deliverReports_none (i : StringNo) (edge : Option Edge) (s : State) :
    deliverReports i edge none s = takeReportedEdge i edge s := by
  cases edge <;> rfl

theorem deliverReports_some (i : StringNo) (edge : Option Edge) (p : Nat) (s : State) :
    deliverReports i edge (some p) s = takePeriod i p (takeReportedEdge i edge s) := by
  cases edge <;> rfl

theorem takeReportedEdge_touches (i : StringNo) (edge : Option Edge) (s : State) : OneTracker i s (takeReportedEdge i edge s) := by
  cases edge
  · exact .refl i s
  · exact takeEdge_touches i _ s

theorem takeReportedEdge_event (i : StringNo) (edge : Option Edge) (s : State) (h : edge ≠ some .onset) :
    NoteEvent i s (takeReportedEdge i edge s) := by
  cases edge with
  | none => exact .refl i s
  | some edge => exact takeEdge_event i edge s fun e => h (congrArg some e)

theorem takeReportedEdge_onset (i : StringNo) (s : State) (h : (s.string i).tracker.state = .silent) :
    takeReportedEdge i (some .onset) s = takeOnset i s :=
  takeEdge_onset i s h

/-- The string's blocks when its stage has run and the attack peak has followed (R20, steps 1 to 7; R91). -/
theorem turnBegun_string (i : StringNo) (r : StageReport) (s : State) :
    (followPeak i (leaveStage i r s)).string i = { s.string i with
      stage := r.stage
      tracker := { (s.string i).tracker with attackPeak :=
        if (s.string i).tracker.state = .attack then max (s.string i).tracker.attackPeak r.stage.e
        else (s.string i).tracker.attackPeak } } := by
  rw [followPeak, State.modifyString_string, leaveStage_string]
  by_cases h : (s.string i).tracker.state = .attack <;> simp [h]

/-! ## The measurement record -/

theorem minWith_eq (p : Nat) (m : Option Nat) : minWith p m = (m.map (min · p)).getD p := by
  cases m <;> rfl

theorem maxWith_eq (p : Nat) (m : Option Nat) : maxWith p m = (m.map (max · p)).getD p := by
  cases m <;> rfl

/-- A period reaches a record that is not RUNNING: nothing (R184). -/
theorem recordPeriod_stays (i : StringNo) (p : Nat) (s : State) (h : (s.string i).record.state ≠ .running) :
    recordPeriod i p s = s :=
  if_neg h

/-- A period added below N (R186). -/
theorem recordPeriod_adds (i : StringNo) (p : Nat) (s : State) (h : (s.string i).record.state = .running)
    (hless : (s.string i).record.count + 1 < (s.string i).record.target) :
    recordPeriod i p s = s.modifyRecord i (·.add p) := by
  rw [recordPeriod, if_pos h, if_neg (Nat.not_le.mpr hless)]

/-- Of the status unit a record's period touches MEASURE_DONE alone (R189). -/
theorem seekSlot_statusKept (i : StringNo) (s : State) : StatusKept [10] [] s.su (seekSlot i s).su := by
  unfold seekSlot
  split
  · exact cause_statusKept .measureDone _
  · exact .refl _ _ _

theorem recordPeriod_statusKept (i : StringNo) (p : Nat) (s : State) : StatusKept [10] [] s.su (recordPeriod i p s).su := by
  unfold recordPeriod
  simp only
  split
  · split
    · exact seekSlot_statusKept i ((s.modifyRecord i (·.add p)).modifyRecord i (·.finish .complete))
    · exact .refl _ _ _
  · exact .refl _ _ _

/-! ## A string's turn -/

/-- The record after a raw period reached it: what StringReported says of it. -/
theorem takePeriod_record (i : StringNo) (p : Nat) (s : State) :
    ((s.string i).record.state ≠ .running → ((takePeriod i p s).string i).record = (s.string i).record) ∧
      ((s.string i).record.state = .running → (s.string i).record.count + 1 < (s.string i).record.target →
        ((takePeriod i p s).string i).record = (s.string i).record.add p) := by
  unfold takePeriod
  simp only
  set v := (s.string i).validator.take (s.string i).profile p
  set judged := s.modifyString i fun b => { b with validator := v.validator } with hjudged
  have record : ((takeOutcome i v.outcome v.validator.accepted judged).string i).record = (s.string i).record := by
    rw [(takeOutcome_touches i _ _ judged).record, hjudged, State.modifyString_string]
  refine ⟨fun h => ?_, fun h hless => ?_⟩
  · rw [recordPeriod_stays i p _ (by rwa [record]), record]
  · rw [recordPeriod_adds i p _ (by rwa [record]) (by rwa [record]), State.modifyRecord_string]
    exact congrArg (·.add p) record

/-- The validator after a raw period, and the tracker when it brings UNLOCKED (R45, R88). -/
theorem takePeriod_validator (i : StringNo) (p : Nat) (s : State) :
    ((takePeriod i p s).string i).validator = ((s.string i).validator.take (s.string i).profile p).validator := by
  unfold takePeriod
  simp only
  rw [(recordPeriod_touches i p _).block]
  simp only
  rw [(takeOutcome_event i _ _ _).validator, State.modifyString_string]

/-- A raw period begins no attack and keeps the peak of one that lasts. -/
theorem takePeriod_attack (i : StringNo) (p : Nat) (s : State) (h : ((takePeriod i p s).string i).tracker.state = .attack) :
    (s.string i).tracker.state = .attack ∧
      ((takePeriod i p s).string i).tracker.attackPeak = (s.string i).tracker.attackPeak := by
  unfold takePeriod at h ⊢
  simp only at h ⊢
  rw [(recordPeriod_touches i p _).block] at h ⊢
  have outcome := (takeOutcome_event i _ _ _).attack h
  rw [State.modifyString_string] at outcome
  exact outcome

/-- After a cleared lock state a raw period leaves the tracker as it stands (R39, R88). -/
theorem takePeriod_tracker_of_cleared (i : StringNo) (p : Nat) (s : State) (h : (s.string i).validator = .cleared) :
    ((takePeriod i p s).string i).tracker = (s.string i).tracker := by
  unfold takePeriod
  simp only
  rw [(recordPeriod_touches i p _).block, h, take_cleared]
  simp only
  rw [takeOutcome_unlocked, State.modifyString_string]

/-- What a string's turn makes of the reports of its stage (R45, R90, R91, R186). -/
theorem stringArrival_reported (samples : PerString Word) (i : StringNo) (s : State) :
    StringReported samples s.plu.frameNo i s (stringArrival samples i s) := by
  set r := runStage samples s.plu.frameNo i (s.string i) with hr
  set begun := followPeak i (leaveStage i r s) with hbegun
  set edged := takeReportedEdge i r.edge begun with hedged
  have block : begun.string i = _ := turnBegun_string i r s
  have arrives : stringArrival samples i s = deliverReports i r.edge r.period begun := rfl
  have touches := takeReportedEdge_touches i r.edge begun
  have record : (edged.string i).record = (s.string i).record := by rw [hedged, touches.record, block]
  have profile : (edged.string i).profile = (s.string i).profile := by rw [hedged, touches.profile, block]
  have silent (h : r.edge = some .onset) : (s.string i).tracker.state = .silent := silent_of_chooseEdge_onset h
  have onset (h : r.edge = some .onset) : (edged.string i).validator = .cleared ∧ (edged.string i).tracker.state = .attack ∧
      (edged.string i).tracker.attackPeak = r.stage.e := by
    rw [hedged, h, takeReportedEdge_onset i begun (by rw [block]; exact silent h), takeOnset_string, block]
    exact ⟨rfl, rfl, rfl⟩
  have validator : (edged.string i).validator = if r.edge = some .onset then ⟨none, none, 0, []⟩ else (s.string i).validator := by
    split
    · next h => exact (onset h).1
    · next h => rw [hedged, (takeReportedEdge_event i r.edge begun h).validator, block]
  have peak (hs : (s.string i).tracker.state = .attack) (ht : (edged.string i).tracker.state = .attack) :
      (edged.string i).tracker.attackPeak = max (s.string i).tracker.attackPeak r.stage.e := by
    have h : r.edge ≠ some .onset := fun h => by simp [silent h] at hs
    rw [((takeReportedEdge_event i r.edge begun h).attack ht).2, block]
    exact if_pos hs
  cases hp : r.period with
  | none =>
    rw [arrives, hp, deliverReports_none, ← hedged]
    refine ⟨?_, fun _ => record, fun p h => ?_, peak, fun h => (onset h).2⟩
    · simp only [← hr, hp]; exact validator
    · rw [← hr, hp] at h; cases h
  | some p =>
    rw [arrives, hp, deliverReports_some, ← hedged]
    obtain ⟨stays, adds⟩ := takePeriod_record i p edged
    refine ⟨?_, fun h => ?_, fun q h hrun hless => ?_, fun hs ht => ?_, fun h => ?_⟩
    · simp only [← hr, hp]
      rw [takePeriod_validator, validator, profile]
    · rw [← hr, hp] at h
      rw [stays (by rw [record]; simpa using h), record]
    · rw [← hr, hp] at h
      cases h
      rw [adds (by rwa [record]) (by rwa [record]), record, Measurement.add, minWith_eq, maxWith_eq]
    · obtain ⟨lasts, kept⟩ := takePeriod_attack i p edged ht
      rw [kept, peak hs lasts]
    · rw [takePeriod_tracker_of_cleared i p edged (onset h).1]
      exact (onset h).2

/-- The flags a frame arrival can cause: those of the trackers, and MEASURE_DONE. -/
def arrivalFlags : List Nat := 10 :: trackerFlags

theorem takeReportedEdge_statusKept (i : StringNo) (edge : Option Edge) (s : State) :
    StatusKept arrivalFlags trackerCounters s.su (takeReportedEdge i edge s).su := by
  by_cases h : edge = some .onset
  · subst h
    have kept : StatusKept arrivalFlags trackerCounters s.su (takeEdge i .onset s).su := by
      unfold takeEdge
      split
      · exact (takeOnset_statusKept i s).mono (List.subset_cons_self _ _) (List.Subset.refl _)
      all_goals first | contradiction | exact .refl _ _ _
    exact kept
  · exact (takeReportedEdge_event i edge s h).status.mono (List.subset_cons_self _ _) (List.Subset.refl _)

theorem takePeriod_statusKept (i : StringNo) (p : Nat) (s : State) :
    StatusKept arrivalFlags trackerCounters s.su (takePeriod i p s).su := by
  have outcome (o : LockOutcome) (a : Option Nat) (t : State) :
      StatusKept arrivalFlags trackerCounters t.su (takeOutcome i o a t).su :=
    (takeOutcome_event i o a t).status.mono (List.subset_cons_self _ _) (List.Subset.refl _)
  have record (t : State) : StatusKept arrivalFlags trackerCounters t.su (recordPeriod i p t).su :=
    (recordPeriod_statusKept i p t).mono (by decide) (List.nil_subset _)
  exact (outcome _ _ (s.modifyString i fun b => { b with validator := _ })).trans (record _)

theorem stringArrival_statusKept (samples : PerString Word) (i : StringNo) (s : State) :
    StatusKept arrivalFlags trackerCounters s.su (stringArrival samples i s).su := by
  set r := runStage samples s.plu.frameNo i (s.string i) with hr
  have arrives : stringArrival samples i s = deliverReports i r.edge r.period (followPeak i (leaveStage i r s)) := rfl
  have edged := takeReportedEdge_statusKept i r.edge (followPeak i (leaveStage i r s))
  rw [arrives]
  cases r.period with
  | none => rw [deliverReports_none]; exact edged
  | some p => rw [deliverReports_some]; exact edged.trans (takePeriod_statusKept i p _)

theorem frameArrival_statusKept (samples : PerString Word) (order : List StringNo) (s : State) :
    StatusKept arrivalFlags trackerCounters s.su (frameArrival samples order s).su :=
  forStrings_relates (R := fun s t => StatusKept arrivalFlags trackerCounters s.su t.su) (fun s => .refl _ _ s.su)
    (fun _ _ _ => .trans) (stringArrival samples) (stringArrival_statusKept samples) (servedOrder order allStrings)
    { s with plu := { s.plu with frameNo := s.plu.frameNo + 1 } }

/-! ## A frame arrival -/

/-- What a frame arrival makes of a string's reports (R45, R90, R91, R186). -/
theorem frameArrival_reported (samples : PerString Word) (order : List StringNo) (i : StringNo) (s : State) :
    StringReported samples (s.plu.frameNo + 1) i s (frameArrival samples order s) := by
  obtain ⟨u, before, after⟩ := frameArrival_turn samples order i s
  have n : u.plu.frameNo = s.plu.frameNo + 1 := by rw [before.plu]
  rw [← n]
  exact (stringArrival_reported samples i u).congr before.string.symm after.string

/-- What a frame arrival leaves of a string's stage (R20). -/
theorem frameArrival_ran (samples : PerString Word) (order : List StringNo) (i : StringNo) (s : State) :
    StageRan samples (s.plu.frameNo + 1) i s (frameArrival samples order s) := by
  have stage : ((frameArrival samples order s).string i).stage.withoutTrough =
      (runStage samples (s.plu.frameNo + 1) i (s.string i)).stage.withoutTrough := by
    obtain ⟨u, before, after⟩ := frameArrival_turn samples order i s
    have n : u.plu.frameNo = s.plu.frameNo + 1 := by rw [before.plu]
    have string : u.string i = s.string i := before.string
    rw [after.string, (stringArrival_frame samples i u).2.2.2, n, string]
  refine ⟨congrArg (·.y) stage, congrArg (·.e) stage, congrArg (·.gate) stage, congrArg (·.detector) stage,
    congrArg (·.tentative) stage, congrArg (·.committed) stage, ?_⟩
  rw [frameArrival_handed, runStage_handed]
  cases (s.string i).profile.tap <;> rfl

/-- A frame arrival in a part that a slot has prepared, the slot being a part of its frame period, is an arrival (R1, R4, R20). -/
theorem frameArrival_arrived (samples : PerString Word) (order : List StringNo) (s : State) (plu : Plu) (su : StatusUnit)
    (frameNo : plu.frameNo = s.plu.frameNo) (mask : su.mask = s.su.mask) :
    Arrived samples s (frameArrival samples order { s with plu := plu, slu := s.slu.doPart .slot, su := su }) := by
  set begun : State := { s with plu := plu, slu := s.slu.doPart .slot, su := su } with hbegun
  have shared := frameArrival_sharedKept samples order begun
  have n : begun.plu.frameNo + 1 = s.plu.frameNo + 1 := congrArg (· + 1) frameNo
  have ran (i : StringNo) := frameArrival_ran samples order i begun
  have reported (i : StringNo) := frameArrival_reported samples order i begun
  rw [n] at ran reported
  exact {
    ran := fun i => (ran i).congr rfl rfl rfl
    reported := fun i => (reported i).congr rfl rfl
    frameNo := by rw [shared.plu]; exact n
    settings := shared.settings
    slu := by rw [frameArrival_slu]
    divider := shared.divider
    tables := shared.tables
    numbering := shared.numbering
    countPoint := shared.countPoint
    lane := shared.lane
    cu := shared.cu
    mask := shared.mask.trans mask
    pending := shared.pending }

/-! ## The strings' turns -/

/-- A string's part of an arrival, in the terms of the statements (R20). -/
theorem stringArrival_eq (samples : PerString Word) (i : StringNo) (s : State) :
    stringArrival samples i s = stringTurn samples s i := by
  have turn (r : StageReport) : followPeak i (leaveStage i r s) = { s with
      strings := s.strings.set i { s.string i with
        stage := r.stage
        tracker := { (s.string i).tracker with attackPeak :=
          if (s.string i).tracker.state = .attack then max (s.string i).tracker.attackPeak r.stage.e
          else (s.string i).tracker.attackPeak } }
      slu := { s.slu with handed := s.slu.handed.set i r.handed } } := by
    rw [← turnBegun_string]
    simp [followPeak, leaveStage, State.modifyString, State.string]
  have arrives := turn (runStage samples s.plu.frameNo i (s.string i))
  unfold stringArrival stringTurn
  simp only
  rw [arrives]
  generalize runStage samples s.plu.frameNo i (s.string i) = r
  cases r.period with
  | none => rw [deliverReports_none]; cases r.edge <;> rfl
  | some p => rw [deliverReports_some]; cases r.edge <;> rfl

/-- Served in an order that names no string twice, those named come first, as named (R20). -/
theorem servedOrder_eq (named rest : List StringNo) (hnamed : named.Nodup) (hrest : rest.Nodup) (hsub : ∀ i ∈ named, i ∈ rest) :
    servedOrder named rest = named ++ rest.filter fun i => i ∉ named := by
  induction named generalizing rest with
  | nil => simp [servedOrder]
  | cons i named ih =>
    obtain ⟨hi, hnodup⟩ := List.nodup_cons.mp hnamed
    rw [servedOrder, if_pos (hsub i List.mem_cons_self), ih (rest.erase i) hnodup (hrest.erase i) fun j hj =>
      (List.mem_erase_of_ne (ne_of_mem_of_not_mem hj hi)).mpr (hsub j (List.mem_cons_of_mem i hj)), hrest.erase_eq_filter,
      List.filter_filter, List.cons_append]
    congr 2
    refine List.filter_congr fun j _ => ?_
    by_cases h : j = i <;> simp [h]

theorem frameArrival_inTurn (samples : PerString Word) (order : List StringNo) (s : State) :
    TakenInTurn samples order { s with plu := { s.plu with frameNo := s.plu.frameNo + 1 } } (frameArrival samples order s) := by
  refine ⟨servedOrder order allStrings, servedOrder_perm order allStrings,
    fun h => servedOrder_eq order allStrings h allStrings_nodup fun i _ => mem_allStrings i, ?_⟩
  have event : stringArrival samples = fun i s => stringTurn samples s i :=
    funext fun i => funext fun s => stringArrival_eq samples i s
  rw [frameArrival, event]
  rfl

/-! ## Slots -/

/-- What a delivered slot leaves, in the terms of the statements (R4, R12, R20). -/
theorem frameArrival_delivers (samples : PerString Word) (order : List StringNo) (s : State) (plu : Plu) (su : StatusUnit)
    (frameNo : plu.frameNo = s.plu.frameNo) (mask : su.mask = s.su.mask) :
    let t := frameArrival samples order { s with plu := plu, slu := s.slu.doPart .slot, su := su }
    Arrived samples s t ∧ t.plu = { plu with frameNo := s.plu.frameNo + 1 } ∧
      TakenInTurn samples order { s with plu := t.plu, slu := s.slu.doPart .slot, su := su } t := by
  intro t
  have hplu : t.plu = { plu with frameNo := plu.frameNo + 1 } := frameArrival_plu _ _ _
  refine ⟨frameArrival_arrived samples order s plu su frameNo mask, by rw [hplu, frameNo], ?_⟩
  rw [hplu]
  exact frameArrival_inTurn samples order _

theorem evenParity_iff (w : LinkWord) :
    evenParity w = true ↔ ((List.range 16).countP (w.word.getLsbD ·) + if w.parity then 1 else 0) % 2 = 0 := by
  simp [evenParity, onesIn]

theorem PerString.all_iff {α : Type} (p : PerString α) (q : α → Bool) : p.toList.all q = true ↔ ∀ i, q (p.get i) = true := by
  constructor
  · intro h i
    simp only [PerString.toList, List.all_cons, List.all_nil, Bool.and_true, Bool.and_eq_true] at h
    obtain ⟨h1, h2, h3, h4, h5, h6⟩ := h
    cases i <;> assumption
  · intro h
    simp only [PerString.toList, List.all_cons, List.all_nil, Bool.and_true, Bool.and_eq_true]
    exact ⟨h .s1, h .s2, h .s3, h .s4, h .s5, h .s6⟩

theorem exec_pickupFrameSlot (f : PickupFrame) (order : List StringNo) (s : State) (h : s.slu.link = .up) :
    exec (.pickupFrameSlot f order) s = .next (judgeSlot f order (s.doPart .slot)) :=
  congrArg _ (if_pos h)

theorem badFrame_searching (order : List StringNo) (s : State) (h : s.plu.link = .searching) :
    badFrame order s = { s with plu := { s.plu with goodRun := 0 } } := by
  unfold badFrame
  split
  · rfl
  · next hk => cases hk.symm.trans h
  · next hk => cases hk.symm.trans h

/-- The sixteenth good frame in a row takes the link to UP and is delivered (R3). -/
theorem goodWhileSearching_reaches (g : GoodFrame) (order : List StringNo) (s : State) (h : s.plu.goodRun = 15) :
    goodWhileSearching g order s =
      frameArrival g.samples order { s with plu := ⟨.up, 16, 0, some g, g.side, s.plu.frameNo⟩ } := by
  have reached : (⟨.up, s.plu.goodRun + 1, 0, some g, g.side, s.plu.frameNo⟩ : Plu) =
      ⟨.up, 16, 0, some g, g.side, s.plu.frameNo⟩ := by rw [h]
  rw [goodWhileSearching, if_neg (by simp [h, Config.pickupGoodRun]), ← reached]
  rfl

/-- Settles O36. -/
theorem pickupSlotsWhileSearching : Obligations.PickupSlotsWhileSearching := by
  refine ⟨?good, ?slots⟩
  case good =>
    intro f even
    simp only [goodFrame, Bool.and_eq_true, PerString.all_iff, evenParity_iff, and_assoc]
    exact Iff.rfl
  case slots =>
    intro f order s hl samples after
    have searching : (s.doPart .slot).plu.link = .searching := hl
    refine ⟨fun hs hf hrun => ?_, fun hs hf => ?_, fun hs hf hrun => ?_, fun hs => ?_⟩
    · refine (exec_pickupFrameSlot f order s hs).trans (congrArg _ ?_)
      rw [judgeSlot, if_pos hf, searching]
      exact if_pos (Nat.succ_lt_succ hrun)
    · refine (exec_pickupFrameSlot f order s hs).trans (congrArg _ ?_)
      rw [judgeSlot, if_neg (by simp [hf])]
      exact badFrame_searching order _ searching
    · have run : judgeSlot f order (s.doPart .slot) = frameArrival samples order
          { s with plu := ⟨.up, 16, 0, some ⟨samples, f.side.word⟩, f.side.word, s.plu.frameNo⟩, slu := s.slu.doPart .slot } := by
        rw [judgeSlot, if_pos hf, searching]
        exact goodWhileSearching_reaches (frameContent f) order (s.doPart .slot) hrun
      obtain ⟨arrived, plu, inTurn⟩ := frameArrival_delivers samples order s
        ⟨.up, 16, 0, some ⟨samples, f.side.word⟩, f.side.word, s.plu.frameNo⟩ s.su rfl rfl
      exact ⟨_, (exec_pickupFrameSlot f order s hs).trans (congrArg _ run), arrived, plu, inTurn⟩
    · exact congrArg _ (if_neg (by simp [hs]))

/-- A good frame taken in UP or HOLDING is delivered (R4, R5). -/
theorem judgeSlot_good (f : PickupFrame) (order : List StringNo) (s : State) (hl : s.plu.link = .up ∨ s.plu.link = .holding)
    (hf : goodFrame f = true) : judgeSlot f order s = deliverGood (frameContent f) order s := by
  rw [judgeSlot, if_pos hf]
  rcases hl with hl | hl <;> rw [hl]

/-- With a last good frame a bridged slot delivers it (R4, R5). -/
theorem repeatLast_delivers (badRun : Nat) (order : List StringNo) (s : State) (g : GoodFrame) (h : s.plu.lastGood = some g) :
    repeatLast badRun order s =
      frameArrival g.samples order { s with plu := { s.plu with link := .holding, badRun := badRun } } := by
  unfold repeatLast
  simp only
  split
  · next k hk => cases hk.symm.trans h; rfl
  · next hk => cases hk.symm.trans h

/-- A bad frame below the eighth in a row is counted, flagged and bridged by the last good frame (R2, R4, R5). -/
theorem judgeSlot_bad (f : PickupFrame) (order : List StringNo) (s : State) (g : GoodFrame)
    (hl : s.plu.link = .up ∨ s.plu.link = .holding) (hf : goodFrame f = false) (hlast : s.plu.lastGood = some g)
    (hrun : (if s.plu.link = .up then 1 else s.plu.badRun + 1) < 8) :
    judgeSlot f order s = frameArrival g.samples order { s with
      plu := { s.plu with link := .holding, badRun := if s.plu.link = .up then 1 else s.plu.badRun + 1 }
      su := { s.su with flags := flagsAfter 0 s.su, counters := countersAfter 0 1 s.su } } := by
  have noted : noteBadFrame s =
      { s with su := { s.su with flags := flagsAfter 0 s.su, counters := countersAfter 0 1 s.su } } := State.cause_bump_eq _ _ s
  have last : (noteBadFrame s).plu.lastGood = some g := hlast
  rw [judgeSlot, if_neg (by simp [hf]), badFrame]
  rcases hl with hl | hl
  · simp only [hl, if_true]
    rw [repeatLast_delivers 1 order _ g last, noted]
  · have below : s.plu.badRun + 1 < Config.pickupBadRun := by simpa [hl, Config.pickupBadRun] using hrun
    simp only [hl]
    rw [if_pos below, repeatLast_delivers _ order _ g last, noted]
    rfl

/-- Settles O37. -/
theorem pickupSlotsWhilePlaying : Obligations.PickupSlotsWhilePlaying := by
  intro f order s hs hl samples run
  refine ⟨fun hf => ?good, fun g hf hrun hlast => ?bad⟩
  case good =>
    obtain ⟨arrived, plu, inTurn⟩ := frameArrival_delivers samples order s
      { s.plu with link := .up, badRun := 0, lastGood := some ⟨samples, f.side.word⟩, side := f.side.word } s.su rfl rfl
    exact ⟨_, (exec_pickupFrameSlot f order s hs).trans (congrArg _ (judgeSlot_good f order _ hl hf)), arrived, plu, inTurn⟩
  case bad =>
    obtain ⟨arrived, plu, inTurn⟩ := frameArrival_delivers g.samples order s { s.plu with link := .holding, badRun := run }
      { s.su with flags := flagsAfter 0 s.su, counters := countersAfter 0 1 s.su } rfl rfl
    have slot := judgeSlot_bad f order (s.doPart .slot) g hl hf hlast hrun
    have kept := frameArrival_statusKept g.samples order { s with
      plu := { s.plu with link := .holding, badRun := run }, slu := s.slu.doPart .slot
      su := { s.su with flags := flagsAfter 0 s.su, counters := countersAfter 0 1 s.su } }
    refine ⟨_, (exec_pickupFrameSlot f order s hs).trans (congrArg _ slot), arrived, plu, inTurn, kept.counter 0 (by decide),
      fun h => (kept.flag 0 (by decide)).trans ?_⟩
    rw [flagsAfter_self s.su (by decide)]
    rcases h with h | h <;> simp [h]

end Sys2Proof.Machine
end

section
/-!
PROOFS. The rows of events inside a stimulus, while the event is not at hand (O46).
-/

namespace Sys2Proof.Machine

open Sys2Proof.Safety

/-! ## What occurs under a condition -/

theorem occurs_false (event : State → State) (s : State) : occurs false event s = s := rfl

/-- An event whose condition fails leaves the part as it stands. -/
theorem next_occurs_of_not {condition : Bool} (event : State → State) (s : State) (h : ¬condition = true) :
    (Host.Outcome.next (occurs condition event s) : Host.Outcome State Fault Refusal) = .next s := by
  rw [Bool.eq_false_iff.mpr h, occurs_false]

/-! ## RESULT_GRANT -/

theorem firstWaiting_isSome (s : State) : s.firstWaiting.isSome = true ↔ ∃ i, (s.string i).record.state = .waiting := by
  simp [State.firstWaiting, List.find?_isSome, State.isWaiting]

/-- Without a WAITING record no lane word slot grants one a slot (R157). -/
theorem grantsResult_iff (s : State) :
    grantsResult s = true ↔ s.lane.transmit = none ∧ s.chosenSource = some .rq ∧ ∃ i, (s.string i).record.state = .waiting := by
  simp [grantsResult, firstWaiting_isSome, and_assoc]

/-- A reply has a head word and a second word (R16), so it stays in transmission when its first word has gone. -/
theorem transmitAfterHead_reply (r : Reply) (source : Source) : transmitAfterHead r.words source ≠ none := by
  simp [transmitAfterHead, Reply.words]

theorem Measurement.drop_idle (r : Measurement) : r.drop.state = .idle := by
  rw [Measurement.drop_eq]
  split
  · assumption
  · rfl

/-- A command's run leaves the lane as it stands, or no record active and none to abort: RESTART's alone touches the lane (R9,
R183). -/
theorem runBuffer_lane (b : CommandBuffer) (s : State) :
    (runBuffer b s).state.lane = s.lane ∨
      (runBuffer b s).aborted = [] ∧ ∀ i, ((runBuffer b s).state.string i).record.state = .idle := by
  unfold runBuffer
  split
  · exact .inl rfl
  · next c hc =>
    split
    · exact .inl rfl
    · rcases eq_or_ne c .restart with rfl | hne
      · simp only [Command.run, runRestart]
        split
        · exact .inr ⟨rfl, fun i =>
            (congrArg (·.record.state) (State.modifyAll_string (·.linkLoss) _ i)).trans (Measurement.drop_idle _)⟩
        · exact .inl rfl
      · exact .inl (run_unitKept c hne _ s).lane

/-- An execution leaves the lane as it stands, or no record WAITING. -/
theorem execute_lane (b : CommandBuffer) (s : State) :
    (execute b s).lane = s.lane ∨ ∀ i, ((execute b s).string i).record.state ≠ .waiting := by
  rcases runBuffer_lane b { s with cu := .ready } with kept | ⟨aborted, idle⟩
  · left
    exact ((forStrings_unitKept seekSlot (fun i t => (seekSlot_touches i t).unitKept) _ _).lane).trans kept
  · right
    intro i
    rw [execute, aborted]
    exact fun h => by cases (idle i).symm.trans h

theorem afterLaneSlot_sending (s : State) (t : Transmit) (h : s.lane.transmit = some t) :
    afterLaneSlot s = { s with lane := { s.lane with transmit := t.advance } } := by
  simp only [afterLaneSlot, h]

theorem afterLaneSlot_begins (s : State) (source : Source) (h : s.lane.transmit = none) (hs : s.chosenSource = some source) :
    afterLaneSlot s = beginMessage source s := by
  simp only [afterLaneSlot, h, hs]

theorem afterLaneSlot_empty (s : State) (h : s.lane.transmit = none) (hs : s.chosenSource = none) : afterLaneSlot s = s := by
  simp only [afterLaneSlot, h, hs]

/-- A reply that the arbiter chooses is at the head of the reply queue (R160). -/
theorem rq_ne_nil_of_chosen (s : State) (h : s.chosenSource = some .rq) : ∃ r rest, s.rq = r :: rest := by
  have eligible : s.eligible .rq = true := List.find?_some h
  exact List.exists_cons_of_ne_nil fun e => by simp [State.eligible, e] at eligible

/-- With no record WAITING, a lane that begins a reply either goes on sending it or ends with no record WAITING (R157, R159). -/
theorem beginReply_lane (s : State) (h : ∀ i, (s.string i).record.state ≠ .waiting) (hs : s.chosenSource = some .rq) :
    (beginMessage .rq s).lane.transmit ≠ none ∨ ∀ i, ((beginMessage .rq s).string i).record.state ≠ .waiting := by
  obtain ⟨r, rest, hrq⟩ := rq_ne_nil_of_chosen s hs
  set begun : State := { s.dropHead .rq with lane := ⟨transmitAfterHead (s.headWords .rq) .rq, .rq⟩ } with hbegun
  have sending : begun.lane.transmit ≠ none := by
    have words : s.headWords .rq = r.words := by simp [State.headWords, hrq]
    simp only [hbegun, words]
    exact transmitAfterHead_reply r .rq
  have none_waiting : begun.firstWaiting = none := by
    rw [Option.eq_none_iff_forall_not_mem]
    intro i hi
    obtain ⟨j, hj⟩ := (firstWaiting_isSome begun).mp (Option.isSome_of_mem hi)
    exact h j hj
  have grant : beginMessage .rq s = grantSlot begun := rfl
  rw [grant, grantSlot, none_waiting]
  simp only
  cases begun.cu with
  | ready => exact .inl sending
  | collecting b => exact .inl sending
  | held b =>
    refine (execute_lane b begun).imp (fun kept => ?_) id
    simp only [kept]
    exact sending

/-- A lane word slot that finds no record WAITING leaves none that the next could grant a slot to (R157). -/
theorem not_grantsResult_afterLaneSlot (s : State) (h : ∀ i, (s.string i).record.state ≠ .waiting) :
    ¬grantsResult (afterLaneSlot s) = true := by
  rw [grantsResult_iff]
  rintro ⟨between, _, i, waiting⟩
  cases ht : s.lane.transmit with
  | some t => rw [afterLaneSlot_sending s t ht] at waiting; exact h i waiting
  | none =>
    cases hs : s.chosenSource with
    | none => rw [afterLaneSlot_empty s ht hs] at waiting; exact h i waiting
    | some source =>
      rw [afterLaneSlot_begins s source ht hs] at between waiting
      cases source with
      | eq => exact h i waiting
      | mq => exact h i waiting
      | rq => exact (beginReply_lane s h hs).elim (fun k => k between) fun k => k i waiting

/-! ## MEASURE_COMPLETE -/

/-- A slot delivers a good frame, or bridges a bad one with the last good frame (R3 to R5). -/
def Plu.Delivers (f : PickupFrame) (p : Plu) : Prop :=
  (goodFrame f = true ∧ (p.link = .searching → 16 ≤ p.goodRun + 1)) ∨
    (goodFrame f = false ∧ p.lastGood ≠ none ∧ (p.link = .up ∨ (p.link = .holding ∧ p.badRun + 1 < 8)))

/-- Only a slot that delivers a frame moves the frame number. -/
theorem Plu.delivers_of_moves (f : PickupFrame) (p : Plu) (h : p.frameNo ≠ (p.afterSlot f).frameNo) : p.Delivers f := by
  have last (badRun : Nat) (h : p.frameNo ≠ (p.bridged badRun).frameNo) : p.lastGood ≠ none := fun e => h (by simp [Plu.bridged, e])
  unfold Plu.afterSlot at h
  split at h
  case h_1 hf hl =>
    split at h
    · exact absurd rfl h
    · next hless => exact .inl ⟨hf, fun _ => Nat.le_of_not_lt hless⟩
  case h_2 hf hl => exact .inl ⟨hf, fun e => absurd e (by simpa using hl)⟩
  case h_3 => exact absurd rfl h
  case h_4 hf hl => exact .inr ⟨hf, last _ h, .inl hl⟩
  case h_5 hf hl =>
    split at h
    · next hless => exact .inr ⟨hf, last _ h, .inr ⟨hl, hless⟩⟩
    · exact absurd rfl h

/-- What t is, is a frame arrival in a part with the strings and the frame number of s. -/
def IsArrival (samples : PerString Word) (order : List StringNo) (s t : State) : Prop :=
  ∃ u : State, u.plu.frameNo = s.plu.frameNo ∧ u.strings = s.strings ∧ t = frameArrival samples order u

theorem deliverGood_isArrival (g : GoodFrame) (order : List StringNo) {s u : State} (frameNo : u.plu.frameNo = s.plu.frameNo)
    (strings : u.strings = s.strings) : IsArrival g.samples order s (deliverGood g order u) :=
  ⟨{ u with plu := { u.plu with link := .up, badRun := 0, lastGood := some g, side := g.side } }, frameNo, strings, rfl⟩

/-- The samples of the arrival a slot delivers: those of the last good frame when it is bad, its own when it is good (R3 to R5). -/
def arrivalSamples (f : PickupFrame) (s : State) : PerString Word :=
  if goodFrame f = false then (s.plu.lastGood.map (·.samples)).getD (.const 0) else f.samples.map (·.word)

theorem arrivalSamples_good {f : PickupFrame} (s : State) (h : goodFrame f = true) :
    arrivalSamples f s = (frameContent f).samples :=
  if_neg (by simp [h])

theorem arrivalSamples_bad {f : PickupFrame} {s : State} {g : GoodFrame} (h : goodFrame f = false) (hg : s.plu.lastGood = some g) :
    arrivalSamples f s = g.samples :=
  (if_pos h).trans (by rw [hg]; rfl)

/-- A slot that delivers a frame is its arrival (R3 to R5). -/
theorem pickupSlot_isArrival (f : PickupFrame) (order : List StringNo) (s : State) (hs : s.slu.link = .up)
    (h : s.plu.Delivers f) : IsArrival (arrivalSamples f s) order s (pickupSlot f order s) := by
  rw [pickupSlot, if_pos hs]
  rcases h with ⟨hf, reached⟩ | ⟨hf, hlast, playing⟩
  · rw [arrivalSamples_good s hf]
    by_cases hl : s.plu.link = .searching
    · have counted : judgeSlot f order (s.doPart .slot) = deliverGood (frameContent f) order
          { s.doPart .slot with plu := { s.plu with goodRun := s.plu.goodRun + 1 } } := by
        rw [judgeSlot, if_pos hf, show (s.doPart .slot).plu.link = .searching from hl]
        exact if_neg (Nat.not_lt.mpr (reached hl))
      rw [counted]
      exact deliverGood_isArrival _ _ rfl rfl
    · have playing : s.plu.link = .up ∨ s.plu.link = .holding := by cases h : s.plu.link <;> simp_all
      rw [judgeSlot_good f order (s.doPart .slot) playing hf]
      exact deliverGood_isArrival _ _ rfl rfl
  · obtain ⟨g, hg⟩ := Option.ne_none_iff_exists'.mp hlast
    have below : (if s.plu.link = .up then 1 else s.plu.badRun + 1) < 8 := by
      rcases playing with hl | ⟨hl, hless⟩ <;> simp [hl]
      exact hless
    have bridged := judgeSlot_bad f order (s.doPart .slot) g (playing.imp id (·.1)) hf hg below
    rw [arrivalSamples_bad hf hg]
    refine ⟨_, ?_, ?_, bridged⟩ <;> rfl

/-- A slot that completes a string's measurement delivers a raw period to the string and brings its count to N (R186, R187). -/
theorem completes_delivers (i : StringNo) (f : PickupFrame) (order : List StringNo) (s : State)
    (h : completesIn i s (pickupSlot f order s) = true) :
    s.slu.link = .up ∧ s.plu.Delivers f ∧ (s.string i).record.state = .running ∧
      (s.string i).record.target ≤ (s.string i).record.count + 1 ∧
      (runStage (arrivalSamples f s) (s.plu.frameNo + 1) i (s.string i)).period ≠ none := by
  simp only [completesIn, arrivesIn, Bool.and_eq_true, decide_eq_true_eq] at h
  obtain ⟨moves, running, ended⟩ := h
  have hs : s.slu.link = .up := by
    by_contra hs
    exact moves (by rw [pickupSlot, if_neg hs])
  have delivers : s.plu.Delivers f := Plu.delivers_of_moves f s.plu (by rwa [pickupSlot, if_pos hs, judgeSlot_plu] at moves)
  obtain ⟨u, frameNo, strings, arrival⟩ := pickupSlot_isArrival f order s hs delivers
  have string : u.string i = s.string i := by simp [State.string, strings]
  have reported := frameArrival_reported (arrivalSamples f s) order i u
  rw [← arrival, frameNo] at reported
  have stays (h : ((pickupSlot f order s).string i).record = (s.string i).record) : False := ended (by rw [h, running])
  have period : (runStage (arrivalSamples f s) (s.plu.frameNo + 1) i (s.string i)).period ≠ none := fun hp =>
    stays (by rw [reported.recordKept (.inl (by rw [string]; exact hp)), string])
  refine ⟨hs, delivers, running, ?_, period⟩
  by_contra hless
  obtain ⟨p, hp⟩ := Option.ne_none_iff_exists'.mp period
  rw [← string] at hp running hless
  refine ended ?_
  rw [reported.recordGrown p hp running (Nat.lt_of_not_le hless)]
  exact running

/-- Settles O46. -/
theorem innerEventsNotAtHand : Obligations.InnerEventsNotAtHand := by
  intro i s b a tick
  have tickAtHand (h : s.tickAtHand = true) : tick := of_decide_eq_true h
  refine ⟨fun h => ?teardown, fun h => ?loss, fun h => ?noneWaiting, ?noneBegins, fun f order => ?complete, fun h => ?early,
    fun h => ?giveUp, fun h => ?release, fun h => ?update, fun h => ?timeout⟩
  case teardown =>
    refine next_occurs_of_not _ s fun k => h ?_
    simpa [eighthBadAtHand, Config.pickupBadRun] using k
  case loss =>
    refine next_occurs_of_not _ s fun k => h ?_
    simpa [secondMissingAtHand, Config.synthMissingRun] using k
  case noneWaiting =>
    refine next_occurs_of_not _ s fun k => ?_
    simp only [resultGrantAtHand, Bool.and_eq_true, Bool.or_eq_true] at k
    rcases k.2 with first | second
    · obtain ⟨_, _, j, hj⟩ := (grantsResult_iff s).mp first
      exact h j hj
    · exact not_grantsResult_afterLaneSlot s h second
  case noneBegins =>
    intro begins h
    refine next_occurs_of_not _ s fun k => ?_
    simp only [resultGrantAtHand, Bool.and_eq_true, Bool.or_eq_true, decide_eq_true_eq] at k
    obtain ⟨hup, grants⟩ := k
    have begun (u : State) (h : grantsResult u = true) : begins u := by
      obtain ⟨between, chosen, _⟩ := (grantsResult_iff u).mp h
      exact ⟨between, chosen⟩
    rcases h with searching | ⟨first, second⟩
    · simp [hup] at searching
    · exact grants.elim (fun g => first (begun _ g)) fun g => second (begun _ g)
  case complete =>
    intro bad noArrival samples h
    refine next_occurs_of_not _ s fun k => ?_
    obtain ⟨hup, delivers, running, reaches, period⟩ := completes_delivers i f order s k
    rcases h with none | stopped | missing | below
    · rcases none with searching | ⟨searching, lacking⟩ | ⟨holding, hbad, eighth⟩ | ⟨hbad, hlast⟩ <;>
        rcases delivers with ⟨hf, reached⟩ | ⟨hf, hgood, playing⟩ <;> simp_all [bad] <;> omega
    · exact stopped running
    · exact period missing
    · exact absurd reaches (Nat.not_le.mpr below)
  case early =>
    refine next_occurs_of_not _ s fun k => h ?_
    simp only [earlyPointAtHand, AttackClock.reachesEarly, AttackClock.reachesGiveUp, Bool.and_eq_true, Bool.not_eq_true',
      decide_eq_true_eq] at k
    obtain ⟨⟨⟨hand, fresh⟩, running, early, below⟩, _⟩ := k
    exact ⟨tickAtHand hand, fresh, running, early, below⟩
  case giveUp =>
    refine next_occurs_of_not _ s fun k => h ?_
    simp only [giveUpAtHand, AttackClock.reachesGiveUp, Bool.and_eq_true, Bool.not_eq_true', decide_eq_true_eq] at k
    obtain ⟨⟨hand, fresh⟩, running, reached⟩ := k
    exact ⟨tickAtHand hand, fresh, running, reached⟩
  case release =>
    refine next_occurs_of_not _ s fun k => h ?_
    simp only [releaseAtHand, ReleaseCounter.reachesZero, Bool.and_eq_true, Bool.not_eq_true', decide_eq_true_eq] at k
    obtain ⟨⟨hand, fresh⟩, running, reached⟩ := k
    exact ⟨tickAtHand hand, fresh, running, reached⟩
  case update =>
    refine next_occurs_of_not _ s fun k => h ?_
    simp only [updateAtHand, UpdateScheduler.reachesZero, Bool.and_eq_true, Bool.not_eq_true', decide_eq_true_eq] at k
    obtain ⟨⟨hand, fresh⟩, running, reached⟩ := k
    exact ⟨tickAtHand hand, fresh, running, reached⟩
  case timeout =>
    refine next_occurs_of_not _ s fun k => h ?_
    simp only [timeoutAtHand, Measurement.reachesTimeout, Bool.and_eq_true, Bool.not_eq_true', decide_eq_true_eq] at k
    obtain ⟨⟨hand, fresh⟩, running, reached⟩ := k
    exact ⟨tickAtHand hand, fresh, running, reached⟩

end Sys2Proof.Machine
end

section
/-!
PROOFS. The end of every note at a link's end, and the pickup teardown (O38).
-/

namespace Sys2Proof.Machine

open Sys2Proof.Safety

/-! ## The end of a note in the event queue -/

theorem reservationHeld_iff (b : StringBlock) : reservationHeld b = true ↔
    ∃ c, b.tracker.context = some c ∧ c.announced = true ∧ c.latched.style.reserves = true := by
  unfold reservationHeld
  cases b.tracker.context <;> simp

/-- The event queue after a NOTE END of a string was admitted for an announced note: its PITCH gone, the end at the tail, and one
reservation used (R148). -/
def EndEnqueued (i : StringNo) (cause : EndCause) (q r : EventQueue) : Prop :=
  ∃ m : Message, m.string = i ∧ m.body = .noteEnd cause ∧
    r = ⟨(q.entries.filter fun k => !k.isPitchOf i) ++ [m], q.reserved - 1⟩

/-- The NOTE END of an announced note whose route reaches ADMIT is admitted (R86, R148). -/
theorem crossTracker_noteEnd (i : StringNo) (cause : EndCause) (c : NoteContext) (s : State)
    (route : c.latched.route.offers = true) :
    EndEnqueued i cause s.eq (crossTracker i c false (.noteEnd cause) s).state.eq := by
  set m := mapTracker s.tables i (s.string i) c (.noteEnd cause) with hm
  set routed := routeStage c.latched.route c.latched.counterIndex m s with hrouted
  have crossed : (crossTracker i c false (.noteEnd cause) s).state =
      (admitStage c.latched.style.reserves c.latched.counterIndex m routed).state := by
    simp only [crossTracker, crossRoute, Verdict.pass_higher, route, ← hm]
    rfl
  have admitted : (admitMessage c.latched.style.reserves m routed).state.eq =
      ⟨(s.eq.entries.filter fun k => !k.isPitchOf i) ++ [m], s.eq.reserved - 1⟩ := by
    rw [← routeStage_eq c.latched.route c.latched.counterIndex m s]
    rfl
  refine ⟨m, rfl, rfl, ?_⟩
  rw [crossed, (admitStage_eq _ _ m routed).2.1, admitted]

/-- The end of a note that holds a reservation (R84, R148). -/
theorem endNote_held (i : StringNo) (cause : EndCause) (s : State) (law : NoteLaw s)
    (held : reservationHeld (s.string i) = true) : EndEnqueued i cause s.eq (endNote i cause s).eq := by
  obtain ⟨c, hc, announced, reserves⟩ := (reservationHeld_iff _).mp held
  have crossed : (endNote i cause s).eq = (crossTracker i c false (.noteEnd cause) s).state.eq := by
    simp only [endNote, hc, reserves, if_true, laterMessage, announced, true_or, State.modifyString_eq]
    rfl
  rw [crossed]
  exact crossTracker_noteEnd i cause c s ((law i c hc).1 announced)

/-- A message withheld from ADMIT leaves the event queue as it stands (R86, R135). -/
theorem crossTracker_withheld_eq (i : StringNo) (c : NoteContext) (m : TrackerMessage) (s : State) :
    (crossTracker i c true m s).state.eq = s.eq := by
  simp [crossTracker, crossRoute]

/-- The end of a note that holds no reservation leaves the event queue as it stands (R86). -/
theorem endNote_unheld (i : StringNo) (cause : EndCause) (s : State) (held : ¬reservationHeld (s.string i) = true) :
    (endNote i cause s).eq = s.eq := by
  unfold endNote
  split
  · rfl
  · next c hc =>
    simp only [State.modifyString_eq]
    split
    · next reserves =>
      have unannounced : c.announced = false := by
        by_contra h
        exact held ((reservationHeld_iff _).mpr ⟨c, hc, by simpa using h, reserves⟩)
      simp only [laterMessage, hc, unannounced]
      split
      · exact crossTracker_withheld_eq i c _ s
      · rfl
    · rfl

/-- A NOTE END with cause LINK of a string is queued. -/
def LinkEndQueued (i : StringNo) (s : State) : Prop := ∃ m ∈ s.eq.entries, m.string = i ∧ m.body = .noteEnd .link

theorem linkEndQueued_of_endEnqueued {i j : StringNo} {s t : State} (h : EndEnqueued i .link s.eq t.eq)
    (queued : j = i ∨ LinkEndQueued j s) : LinkEndQueued j t := by
  obtain ⟨m, hstring, hbody, heq⟩ := h
  rw [LinkEndQueued, heq]
  rcases queued with rfl | ⟨k, hk, kstring, kbody⟩
  · exact ⟨m, by simp, hstring, hbody⟩
  · exact ⟨k, by simp [hk, Message.isPitchOf, Message.isPitch, kbody], kstring, kbody⟩

/-- The notes of the strings of a list ended one after another: each reservation is used, and each note that held one has its
NOTE END queued (R86, R148). -/
theorem forStrings_linkEnd_eq (strings : List StringNo) (hnodup : strings.Nodup) (s : State) (law : NoteLaw s) :
    (forStrings strings linkEnd s).eq.reserved =
        s.eq.reserved - (strings.filter fun i => reservationHeld (s.string i)).length ∧
      (∀ i, LinkEndQueued i s → LinkEndQueued i (forStrings strings linkEnd s)) ∧
      ∀ i ∈ strings, reservationHeld (s.string i) = true → LinkEndQueued i (forStrings strings linkEnd s) := by
  induction strings generalizing s with
  | nil => exact ⟨rfl, fun _ h => h, by simp⟩
  | cons i rest ih =>
    obtain ⟨hi, hrest⟩ := List.nodup_cons.mp hnodup
    have touches := endNote_touches i .link s
    have string (j : StringNo) (hj : j ∈ rest) : (linkEnd i s).string j = s.string j :=
      touches.others j fun e => hi (e ▸ hj)
    have law' : NoteLaw (linkEnd i s) := by
      intro j c hc
      rcases eq_or_ne j i with rfl | hj
      · cases (endNote_context j .link s).symm.trans hc
      · exact law j c (by rw [← touches.others j hj]; exact hc)
    obtain ⟨reserved, keeps, queues⟩ := ih hrest (linkEnd i s) law'
    have filtered : (rest.filter fun j => reservationHeld ((linkEnd i s).string j)) =
        rest.filter fun j => reservationHeld (s.string j) :=
      List.filter_congr fun j hj => by rw [string j hj]
    rw [forStrings_cons, reserved, filtered]
    by_cases held : reservationHeld (s.string i) = true
    · have ended := endNote_held i .link s law held
      obtain ⟨m, _, _, heq⟩ := id ended
      have used : (linkEnd i s).eq.reserved = s.eq.reserved - 1 := by rw [linkEnd, heq]
      refine ⟨?_, fun j hj => keeps j (linkEndQueued_of_endEnqueued ended (.inr hj)), fun j hj hheld => ?_⟩
      · rw [used, List.filter_cons_of_pos (p := fun j => reservationHeld (s.string j)) held, List.length_cons]
        omega
      · rcases List.mem_cons.mp hj with rfl | hj
        · exact keeps j (linkEndQueued_of_endEnqueued ended (.inl rfl))
        · exact queues j hj (by rwa [string j hj])
    · have unchanged : (linkEnd i s).eq = s.eq := endNote_unheld i .link s held
      refine ⟨?_, fun j hj => keeps j (by rwa [LinkEndQueued, unchanged]), fun j hj hheld => ?_⟩
      · rw [unchanged, List.filter_cons_of_neg (p := fun j => reservationHeld (s.string j)) held]
      · rcases List.mem_cons.mp hj with rfl | hj
        · exact absurd hheld held
        · exact queues j hj (by rwa [string j hj])

/-! ## What else the end of a note leaves -/

theorem laterMessage_queuesOnly (i : StringNo) (m : TrackerMessage) (s : State) : QueuesOnly s (laterMessage i m s).state := by
  unfold laterMessage
  split
  · exact .refl s
  · split
    · exact crossTracker_queuesOnly i _ _ m s
    · exact .refl s

theorem crossTracker_noteEnd_statusKept (i : StringNo) (c : NoteContext) (withheld : Bool) (cause : EndCause) (s : State) :
    StatusKept [7] [5] s.su (crossTracker i c withheld (.noteEnd cause) s).state.su := by
  unfold crossTracker crossRoute
  simp only
  split
  · rw [admitStage_su]
    exact routeStage_statusKept _ _ _ s
  · exact routeStage_statusKept _ _ _ s

/-- Of the status unit the end of a note touches MONITOR_LOST and its counter alone: its NOTE END is never refused (R148, R154). -/
theorem endNote_statusKept (i : StringNo) (cause : EndCause) (s : State) :
    StatusKept [7] [5] s.su (endNote i cause s).su := by
  unfold endNote
  split
  · exact .refl _ _ _
  · simp only [State.modifyString_su]
    split
    · unfold laterMessage
      split
      · exact .refl _ _ _
      · split
        · exact crossTracker_noteEnd_statusKept i _ _ cause s
        · exact .refl _ _ _
    · exact .refl _ _ _

/-- The end of a note closes its context, if one is open, and touches nothing else of the string (R84). -/
theorem endNote_string (i : StringNo) (cause : EndCause) (s : State) :
    (endNote i cause s).string i = s.string i ∨ (endNote i cause s).string i = (s.string i).closeContext := by
  unfold endNote
  split
  · exact .inl rfl
  · right
    simp only [State.modifyString_string]
    split
    · rw [(laterMessage_queuesOnly i _ s).string]
    · rfl

/-! ## The teardown, string by string -/

/-- A string's blocks after the teardown's first three stages (R6). -/
theorem silence_clearStage_eq (b : StringBlock) : b.silence.clearStage = { b with
    stage := ⟨0, 0, .opened, none, .disarmed, none, none⟩, validator := ⟨none, none, 0, []⟩
    tracker := ⟨if b.tracker.state = .muted then .muted else .silent, none, 0⟩
    timers := ⟨{ b.timers.attack with running := false }, { b.timers.release with running := false },
      { b.timers.update with running := false }⟩ } := rfl

/-- Whether the context was closed before makes no difference. -/
theorem closeContext_silence_clearStage (b : StringBlock) : b.closeContext.silence.clearStage = b.silence.clearStage := rfl

/-- What the other strings' ends leave of a string's blocks: all of them. -/
theorem forStrings_linkEnd_string (s : State) (i : StringNo) :
    (forStrings allStrings linkEnd s).string i = s.string i ∨
      (forStrings allStrings linkEnd s).string i = (s.string i).closeContext := by
  obtain ⟨u, before, after⟩ := forStrings_turn (R := fun s t => t.string i = s.string i) (fun _ => rfl)
    (fun _ _ _ h k => k.trans h) linkEnd i (fun j s h => (endNote_touches j .link s).others i h.symm) allStrings_nodup
    (mem_allStrings i) s
  rw [after, ← before]
  exact endNote_string i .link u

theorem teardownCleared_string (s : State) (i : StringNo) : (teardownCleared s).string i = (s.string i).silence.clearStage := by
  rw [teardownCleared, State.modifyAll_string, State.modifyAll_string]
  rcases forStrings_linkEnd_string s i with h | h <;> rw [h]
  exact closeContext_silence_clearStage _

/-- Aborting every record is aborting the active ones. -/
theorem forStrings_abortAndSeek_active (strings : List StringNo) (hnodup : strings.Nodup) (s : State) :
    forStrings strings abortAndSeek s =
      forStrings (strings.filter fun i => decide ((s.string i).record.state ≠ .idle)) abortAndSeek s := by
  induction strings generalizing s with
  | nil => rfl
  | cons i rest ih =>
    obtain ⟨hi, hrest⟩ := List.nodup_cons.mp hnodup
    have filtered : (rest.filter fun j => decide (((abortAndSeek i s).string j).record.state ≠ .idle)) =
        rest.filter fun j => decide ((s.string j).record.state ≠ .idle) :=
      List.filter_congr fun j hj => by rw [(abortAndSeek_touches i s).others j (ne_of_mem_of_not_mem hj hi)]
    rw [forStrings_cons, ih hrest, filtered]
    by_cases idle : (s.string i).record.state = .idle
    · rw [List.filter_cons_of_neg (by simp [idle]), abortAndSeek_idle i s idle]
    · rw [List.filter_cons_of_pos (by simp [idle]), forStrings_cons]

/-! ## The slot of the teardown -/

/-- The slot with the eighth bad frame in a row, whatever it brings (R5). -/
theorem judgeSlot_eighth (f : PickupFrame) (order : List StringNo) (s : State) (hl : s.plu.link = .holding) (hrun : s.plu.badRun = 7)
    (hf : goodFrame f = false) : judgeSlot f order s = endPickupLink (noteBadFrame s) := by
  rw [judgeSlot, if_neg (by simp [hf]), badFrame, hl]
  exact if_neg (by simp [hrun, Config.pickupBadRun])

/-- The part when the eighth bad frame has been noted, and the link has gone to SEARCHING (R2, R5). -/
def notedEighth (s : State) : State :=
  { s with
    plu := { s.plu with link := .searching, goodRun := 0, badRun := 0 }, slu := s.slu.doPart .slot
    su := { s.su with flags := flagsAfter 0 s.su, counters := countersAfter 0 1 s.su } }

theorem endPickupLink_noteBadFrame (s : State) :
    endPickupLink (noteBadFrame (s.doPart .slot)) = pickupTeardown (notedEighth s) := by
  have noted : noteBadFrame (s.doPart .slot) = { s with
      slu := s.slu.doPart .slot
      su := { s.su with flags := flagsAfter 0 s.su, counters := countersAfter 0 1 s.su } } := State.cause_bump_eq _ _ _
  rw [endPickupLink, noted]
  rfl

/-- The strings whose record is RUNNING or WAITING, in string order. -/
def measuring (s : State) : List StringNo := allStrings.filter fun i => decide ((s.string i).record.state ≠ .idle)

/-- The teardown: the notes ended, the blocks cleared, and then the active measurements aborted (R6). -/
theorem pickupTeardown_measuring (s : State) :
    ∃ u, MeasurementsAborted (measuring s) (teardownCleared s) u ∧ pickupTeardown s = teardownLast u := by
  have record (i : StringNo) : ((teardownCleared s).string i).record = (s.string i).record := by rw [teardownCleared_string]; rfl
  refine ⟨_, measurementsAborted (measuring s) (teardownCleared s) (allStrings_nodup.filter _) fun i hi => ?_, ?_⟩
  · rw [record]
    simpa [measuring] using hi
  · rw [pickupTeardown_eq, forStrings_abortAndSeek_active allStrings allStrings_nodup]
    simp only [record, measuring]

theorem forStrings_linkEnd_rq (s : State) : (forStrings allStrings linkEnd s).rq = s.rq :=
  forStrings_relates (R := fun s t => t.rq = s.rq) (fun _ => rfl) (fun _ _ _ h k => k.trans h) linkEnd
    (fun i s => (endNote_touches i .link s).rq) allStrings s

theorem forStrings_linkEnd_statusKept (s : State) : StatusKept [7] [5] s.su (forStrings allStrings linkEnd s).su :=
  forStrings_relates (R := fun s t => StatusKept [7] [5] s.su t.su) (fun s => .refl _ _ s.su) (fun _ _ _ => .trans) linkEnd
    (fun i s => endNote_statusKept i .link s) allStrings s

theorem teardownCleared_rq (s : State) : (teardownCleared s).rq = s.rq := by
  rw [teardownCleared, State.modifyAll_rq, State.modifyAll_rq, forStrings_linkEnd_rq]

/-- A flag that one of two causes touches, and the other does not. -/
theorem flagsAfter_statusKept (bit : Nat) (su : StatusUnit) : StatusKept [bit] [] su { su with flags := flagsAfter bit su } :=
  ⟨rfl, fun _ hk => flagsAfter_other su fun e => hk (e ▸ List.mem_singleton_self _), fun _ _ => rfl⟩

theorem countersAfter_other {index times k : Nat} (su : StatusUnit) (h : k ≠ index) :
    (countersAfter index times su)[k]? = su.counters[k]? :=
  Vector.getElem?_setIfInBounds_ne h.symm

theorem noted_statusKept (s : State) : StatusKept [0] [0] s.su (notedEighth s).su :=
  ⟨rfl, fun _ hk => flagsAfter_other s.su fun e => hk (e ▸ List.mem_singleton_self _),
    fun _ hk => countersAfter_other s.su fun e => hk (e ▸ List.mem_singleton_self _)⟩

/-- Settles O38. -/
theorem pickupTeardownHolds : Obligations.PickupTeardown := by
  intro s hs hl hrun
  have eighth (f : PickupFrame) (order : List StringNo) (hf : goodFrame f = false) :
      exec (.pickupFrameSlot f order) s = .next (pickupTeardown (notedEighth s)) := by
    rw [exec_pickupFrameSlot f order s hs, judgeSlot_eighth f order (s.doPart .slot) hl hrun hf, endPickupLink_noteBadFrame]
  have row : exec .pickupTeardown s = .next (pickupTeardown (notedEighth s)) := by
    rw [← eighth emptyPickupFrame [] rfl]
    have hand : eighthBadAtHand s = true := by simp [eighthBadAtHand, hs, hl, hrun, Config.pickupBadRun]
    exact congrArg (fun b => Host.Outcome.next (occurs b (pickupSlot emptyPickupFrame []) s)) hand
  refine ⟨fun f order hf => (eighth f order hf).trans row.symm, ?_⟩
  intro noted ended active placed result measured
  obtain ⟨u, aborted, last⟩ := pickupTeardown_measuring noted
  have shared := pickupTeardown_sharedKept noted
  have cleared_su : (teardownCleared noted).su = ended.su := rfl
  have cleared_rq : (teardownCleared noted).rq = s.rq := teardownCleared_rq noted
  have hplaced : (measuring noted).take (8 - (teardownCleared noted).rq.length) = placed := by rw [cleared_rq]; rfl
  have string (i : StringNo) : (teardownCleared noted).string i = (s.string i).silence.clearStage :=
    teardownCleared_string noted i
  have hresult : abortedResult (teardownCleared noted) = result := funext fun i => by rw [abortedResult, string i]; rfl
  obtain ⟨rq, su, isPlaced, waits, others, rest⟩ := aborted
  rw [hplaced] at rq su isPlaced waits
  rw [hresult, cleared_rq] at rq
  have hsu : u.su = measured := su
  have tsu : (pickupTeardown noted).su = { measured with flags := flagsAfter 1 measured } := by
    rw [last, ← hsu]
    exact StatusUnit.cause_eq _ _
  have ended_kept : StatusKept [0, 7] [0, 5] s.su ended.su :=
    ((noted_statusKept s).mono (by decide) (by decide)).trans
      ((forStrings_linkEnd_statusKept noted).mono (by decide) (by decide))
  have measured_kept : StatusKept [10] [] ended.su measured := by
    by_cases h : placed = []
    · simp only [measured, h, if_true]
      exact .refl _ _ _
    · simp only [measured, h, if_false]
      exact flagsAfter_statusKept 10 ended.su
  have last_kept : StatusKept [1] [] measured { measured with flags := flagsAfter 1 measured } := flagsAfter_statusKept 1 measured
  have kept : StatusKept [0, 1, 7, 10] [0, 5] s.su (pickupTeardown noted).su := by
    rw [tsu]
    exact ((ended_kept.mono (by decide) (by decide)).trans (measured_kept.mono (by decide) (by decide))).trans
      (last_kept.mono (by decide) (by decide))
  have block (i : StringNo) : (pickupTeardown noted).string i = u.string i := by rw [last]; rfl
  refine ⟨pickupTeardown noted, row, shared.plu, pickupTeardown_slu noted, shared.divider, shared.tables, shared.numbering,
    shared.lane, shared.cu, shared.countPoint, shared.mask, shared.pending, ?eq, ?mq, ?rc, tsu, ?rq, kept, fun h => ?lost,
    fun h hp => ?done, fun hp => ?undone, ?counter, fun i => ?block, fun laws notes => ?ends⟩
  case eq => rw [last, rest]; rfl
  case mq => rw [last, rest]; rfl
  case rc => rw [last, rest]; rfl
  case rq => rw [last]; exact rq
  case lost =>
    have mask : measured.mask.getLsbD 1 = true := by rw [measured_kept.mask, ended_kept.mask]; exact h
    rw [tsu]
    simp only [flagsAfter_self measured (bit := 1) (by decide), mask, Bool.true_or]
  case done =>
    have mask : ended.su.mask.getLsbD 10 = true := by rw [ended_kept.mask]; exact h
    have flag : measured.flags.getLsbD 10 = true := by
      simp only [measured, if_neg hp, flagsAfter_self ended.su (bit := 10) (by decide), mask, Bool.true_or]
    rw [tsu]
    exact (last_kept.flag 10 (by decide)).trans flag
  case undone =>
    have flag : measured.flags.getLsbD 10 = ended.su.flags.getLsbD 10 := by simp only [measured, if_pos hp]
    rw [tsu]
    exact ((last_kept.flag 10 (by decide)).trans flag).trans (ended_kept.flag 10 (by decide))
  case counter =>
    rw [tsu]
    exact (forStrings_linkEnd_statusKept noted).counter 0 (by decide)
  case block =>
    have mem : i ∈ active ↔ (s.string i).record.state ≠ .idle := by simp [active]
    intro b r
    refine ⟨shared.settings i, ?_⟩
    rw [block i]
    rcases eq_or_ne r.state .idle with idle | isActive
    · have hi : i ∉ active := fun h => mem.mp h idle
      rw [others i hi, string i, silence_clearStage_eq]
      exact ⟨rfl, fun _ => rfl, fun h => absurd (List.mem_of_mem_take h) hi, fun h => absurd h hi⟩
    · have hi : i ∈ active := mem.mpr isActive
      by_cases hp : i ∈ placed
      · rw [isPlaced i hp, string i, silence_clearStage_eq]
        exact ⟨rfl, fun h => absurd h isActive, fun _ => rfl, fun _ h => absurd hp h⟩
      · rw [waits i hi hp, string i, silence_clearStage_eq]
        exact ⟨rfl, fun h => absurd h isActive, fun h => absurd h hp, fun _ _ => rfl⟩
  case ends =>
    obtain ⟨reserved, _, queued⟩ := forStrings_linkEnd_eq allStrings allStrings_nodup noted notes
    have eq : (pickupTeardown noted).eq = (forStrings allStrings linkEnd noted).eq := by rw [last, rest]; rfl
    rw [eq]
    refine ⟨?_, fun i hi => queued i (mem_allStrings i) hi⟩
    rw [reserved]
    exact Nat.sub_eq_zero_of_le laws.reserved.le

end Sys2Proof.Machine
end

section
/-!
PROOFS. What a string's message, timers and record do does not meet another string's blocks (R20, R68).
-/

namespace Sys2Proof.Machine

open Sys2Proof.Safety

/-! ## Crossing the points -/

theorem placeMonitor_apart (j : StringNo) (m : Message) : ApartFrom j (·.placeMonitor m) :=
  .ite (fun _ _ => Iff.rfl) (fun _ _ => rfl) fun _ _ => rfl

theorem countMessage_apart (j : StringNo) (index : Option Nat) (m : Message) : ApartFrom j (·.countMessage index m) := by
  cases index <;> exact fun _ _ => rfl

/-- An admission's result with another part. -/
def Admission.mapState (f : State → State) (a : Admission) : Admission := ⟨f a.state, a.admitted⟩

/-- A crossing's results with another part. -/
def Crossing.mapState (f : State → State) (x : Crossing) : Crossing := ⟨f x.state, x.copied, x.offered, x.admitted⟩

theorem admitMessage_apart (j : StringNo) (f : StringBlock → StringBlock) (reserves : Bool) (m : Message) (s : State) :
    admitMessage reserves m (s.modifyString j f) = (admitMessage reserves m s).mapState (·.modifyString j f) := by
  have one : admitOne m (s.modifyString j f) = (admitOne m s).mapState (·.modifyString j f) := by
    unfold admitOne
    rw [apply_ite (Admission.mapState (·.modifyString j f))]
    rfl
  have reserving : admitReserving m (s.modifyString j f) = (admitReserving m s).mapState (·.modifyString j f) := by
    unfold admitReserving
    rw [apply_ite (Admission.mapState (·.modifyString j f))]
    rfl
  have pitch : admitPitch m (s.modifyString j f) = (admitPitch m s).mapState (·.modifyString j f) := by
    unfold admitPitch
    rw [apply_ite (Admission.mapState (·.modifyString j f)), apply_ite (Admission.mapState (·.modifyString j f))]
    rfl
  unfold admitMessage
  split
  · split
    · exact reserving
    · exact one
  · exact pitch
  · exact one
  · split
    · exact one
    · rfl
  · rfl

theorem admitStage_apart (j : StringNo) (f : StringBlock → StringBlock) (reserves : Bool) (index : Option Nat) (m : Message)
    (s : State) :
    admitStage reserves index m (s.modifyString j f) = (admitStage reserves index m s).mapState (·.modifyString j f) := by
  unfold admitStage
  simp only [admitMessage_apart]
  rw [apply_ite (Admission.mapState (·.modifyString j f))]
  simp only [Admission.mapState, State.modifyString_rc, countMessage_apart j index m f]

theorem routeStage_apart (j : StringNo) (v : Verdict) (index : Option Nat) (m : Message) : ApartFrom j (routeStage v index m) := by
  have copied : ApartFrom j fun s => if v.copies then s.placeMonitor { m with monitor := true } else s :=
    .ite (fun _ _ => Iff.rfl) (placeMonitor_apart j _) (.id j)
  have counted : ApartFrom j fun r => if v.offers ∧ r.rc.countPoint = .route then r.countMessage index m else r :=
    .ite (fun _ _ => Iff.rfl) (countMessage_apart j index m) (.id j)
  exact fun f s => (copied.comp counted) f s

theorem crossTracker_apart {i j : StringNo} (h : i ≠ j) (f : StringBlock → StringBlock) (c : NoteContext) (withheld : Bool)
    (m : TrackerMessage) (s : State) :
    crossTracker i c withheld m (s.modifyString j f) = (crossTracker i c withheld m s).mapState (·.modifyString j f) := by
  unfold crossTracker crossRoute
  simp only [State.modifyString_string_other f s h, State.modifyString_tables, routeStage_apart j _ _ _ f, admitStage_apart]
  rw [apply_ite (Crossing.mapState (·.modifyString j f))]
  rfl

/-! ## Messages of a note -/

theorem laterMessage_apart {i j : StringNo} (h : i ≠ j) (f : StringBlock → StringBlock) (m : TrackerMessage) (s : State) :
    laterMessage i m (s.modifyString j f) = (laterMessage i m s).mapState (·.modifyString j f) := by
  unfold laterMessage
  rw [State.modifyString_string_other f s h]
  split
  · rfl
  · rw [apply_ite (Admission.mapState (·.modifyString j f)), crossTracker_apart h]
    rfl

theorem offerStart_apart {i j : StringNo} (h : i ≠ j) (cause : StartCause) : ApartFrom j (offerStart i cause) := by
  intro f s
  unfold offerStart
  rw [State.modifyString_string_other f s h]
  split
  · rfl
  · next c hc =>
    have noted (g : NoteContext → NoteContext) := modifyContext_apart h g f
    simp only [crossTracker_apart h, Crossing.mapState, noted]
    split
    · exact modifyString_apart h _ f _
    · rfl

theorem buildPitch_apart {i j : StringNo} (h : i ≠ j) (cause : PitchCause) : ApartFrom j (buildPitch i cause) := by
  intro f s
  unfold buildPitch
  rw [State.modifyString_string_other f s h]
  split
  · rfl
  · simp only [laterMessage_apart h, Admission.mapState]
    split
    · split
      · exact modifyContext_apart h _ f _
      · rfl
    · rfl

theorem endNote_apart {i j : StringNo} (h : i ≠ j) (cause : EndCause) : ApartFrom j (endNote i cause) := by
  intro f s
  unfold endNote
  rw [State.modifyString_string_other f s h]
  split
  · rfl
  · simp only [laterMessage_apart h, Admission.mapState]
    split <;> exact modifyString_apart h _ f _

theorem storeLane_apart {i j : StringNo} (h : i ≠ j) (cause : StartCause) : ApartFrom j (storeLane i cause) := by
  intro f s
  unfold storeLane
  rw [State.modifyString_string_other f s h]
  exact modifyContext_apart h _ f s

theorem startNote_apart {i j : StringNo} (h : i ≠ j) (pv : Nat) (cause : StartCause) (grade peak : Nat) (early : Bool) :
    ApartFrom j (startNote i pv cause grade peak early) := by
  intro f s
  unfold startNote
  rw [State.modifyString_string_other f s h]
  exact (((modifyString_apart h _).comp (storeLane_apart h cause)).comp (offerStart_apart h cause)) f s

theorem startFromAttack_apart {i j : StringNo} (h : i ≠ j) (pv : Nat) (early : Bool) :
    ApartFrom j (startFromAttack i pv early) := by
  intro f s
  unfold startFromAttack
  rw [State.modifyString_string_other f s h]
  exact startNote_apart h _ _ _ _ _ f s

/-! ## Expiries -/

theorem takeEarlyPoint_apart {i j : StringNo} (h : i ≠ j) : ApartFrom j (takeEarlyPoint i) := by
  intro f s
  have noted : (if earlyOutside (s.string i).grid (s.string i).validator.ring then (s.modifyString j f).causeFlag .range
      else s.modifyString j f) =
      (if earlyOutside (s.string i).grid (s.string i).validator.ring then s.causeFlag .range else s).modifyString j f := by
    rw [apply_ite (State.modifyString j f)]
    rfl
  unfold takeEarlyPoint
  rw [State.modifyString_string_other f s h]
  simp only [noted]
  split
  · split
    · exact startFromAttack_apart h _ _ f _
    · rfl
  · rfl

theorem endAttack_apart {i j : StringNo} (h : i ≠ j) (after : TrackerState) : ApartFrom j (endAttack i after) :=
  modifyString_apart h _

theorem takeGiveUp_apart {i j : StringNo} (h : i ≠ j) : ApartFrom j (takeGiveUp i) := by
  intro f s
  unfold takeGiveUp
  rw [State.modifyString_string_other f s h]
  split
  · exact endAttack_apart h _ f (s.bumpCounter _)
  · rfl

theorem takeReleaseExpiry_apart {i j : StringNo} (h : i ≠ j) : ApartFrom j (takeReleaseExpiry i) := by
  intro f s
  unfold takeReleaseExpiry
  rw [State.modifyString_string_other f s h]
  split
  · exact ((endNote_apart h _).comp (setTracker_apart h _)) f s
  · rfl

theorem takeUpdateExpiry_apart {i j : StringNo} (h : i ≠ j) : ApartFrom j (takeUpdateExpiry i) := by
  intro f s
  unfold takeUpdateExpiry
  rw [State.modifyString_string_other f s h]
  split
  · exact buildPitch_apart h _ f s
  · rfl

/-! ## Ticks -/

theorem attackTick_apart {i j : StringNo} (h : i ≠ j) : ApartFrom j (attackTick i) := by
  intro f s
  have ticks := modifyTimers_apart h (fun t => { t with attack := t.attack.tick }) f s
  unfold attackTick
  simp only [State.modifyString_string_other f s h, ticks]
  split
  · exact takeGiveUp_apart h f _
  · split
    · exact takeEarlyPoint_apart h f _
    · rfl

theorem releaseTick_apart {i j : StringNo} (h : i ≠ j) : ApartFrom j (releaseTick i) := by
  intro f s
  have ticks := modifyTimers_apart h (fun t => { t with release := t.release.tick }) f s
  unfold releaseTick
  simp only [State.modifyString_string_other f s h, ticks]
  split
  · exact takeReleaseExpiry_apart h f _
  · rfl

theorem updateTick_apart {i j : StringNo} (h : i ≠ j) : ApartFrom j (updateTick i) := by
  intro f s
  have ticks := modifyTimers_apart h (fun t => { t with update := t.update.tick }) f s
  unfold updateTick
  simp only [State.modifyString_string_other f s h, ticks]
  split
  · exact takeUpdateExpiry_apart h f _
  · rfl

theorem attackOnce_apart {i j : StringNo} (h : i ≠ j) : ApartFrom j (attackOnce i) :=
  .ite (fun f s => by rw [State.modifyString_string_other f s h]) (.id j)
    ((modifyTicked_apart h _).comp (attackTick_apart h))

theorem releaseOnce_apart {i j : StringNo} (h : i ≠ j) : ApartFrom j (releaseOnce i) :=
  .ite (fun f s => by rw [State.modifyString_string_other f s h]) (.id j)
    ((modifyTicked_apart h _).comp (releaseTick_apart h))

theorem updateOnce_apart {i j : StringNo} (h : i ≠ j) : ApartFrom j (updateOnce i) :=
  .ite (fun f s => by rw [State.modifyString_string_other f s h]) (.id j)
    ((modifyTicked_apart h _).comp (updateTick_apart h))

theorem recordOnce_apart {i j : StringNo} (h : i ≠ j) : ApartFrom j (recordOnce i) :=
  .ite (fun f s => by rw [State.modifyString_string_other f s h]) (.id j)
    ((modifyTicked_apart h _).comp (recordTick_apart h))

theorem quietTimers_apart {i j : StringNo} (h : i ≠ j) : ApartFrom j (quietTimers i) := by
  intro f s
  unfold quietTimers
  simp only [State.modifyString_string_other f s h, attackOnce_apart h f, ← apply_ite (State.modifyString j f),
    releaseOnce_apart h f, updateOnce_apart h f]

end Sys2Proof.Machine
end

section
/-!
PROOFS. The delivery of a tick: what a receiver that reaches no point does, and why a point taken ahead leaves the tick the same
outcome (O42).
-/

namespace Sys2Proof.Machine

open Sys2Proof.Safety

/-! ## Receivers at a tick -/

/-- The attack clock has yet to take the tick, and reaches a point at it (R72, R73). -/
def StringBlock.attackDue (b : StringBlock) : Bool :=
  !b.ticked.attack && (b.timers.attack.reachesGiveUp || b.timers.attack.reachesEarly)

/-- The release counter has yet to take the tick, and reaches 0 at it (R75). -/
def StringBlock.releaseDue (b : StringBlock) : Bool := !b.ticked.release && b.timers.release.reachesZero

/-- The update scheduler has yet to take the tick, and reaches 0 at it (R78). -/
def StringBlock.updateDue (b : StringBlock) : Bool := !b.ticked.update && b.timers.update.reachesZero

/-- The record has yet to take the tick, and reaches its timeout at it (R187). -/
def StringBlock.recordDue (b : StringBlock) : Bool := !b.ticked.record && b.record.reachesTimeout

/-- The attack clock takes the tick and reaches no point, unless it has taken it. -/
def StringBlock.quietAttack (b : StringBlock) : StringBlock :=
  if b.ticked.attack then b
  else { b with timers := { b.timers with attack := b.timers.attack.tick }, ticked := { b.ticked with attack := true } }

/-- The release counter takes the tick and reaches no point, unless it has taken it. -/
def StringBlock.quietRelease (b : StringBlock) : StringBlock :=
  if b.ticked.release then b
  else { b with timers := { b.timers with release := b.timers.release.tick }, ticked := { b.ticked with release := true } }

/-- The update scheduler takes the tick and reaches no point, unless it has taken it. -/
def StringBlock.quietUpdate (b : StringBlock) : StringBlock :=
  if b.ticked.update then b
  else { b with timers := { b.timers with update := b.timers.update.tick }, ticked := { b.ticked with update := true } }

/-- The record takes the tick and reaches no timeout, unless it has taken it. -/
def StringBlock.quietRecord (b : StringBlock) : StringBlock :=
  if b.ticked.record then b
  else { b with
    record := if b.record.state = .running then { b.record with elapsed := b.record.elapsed + 1 } else b.record
    ticked := { b.ticked with record := true } }

/-- The attack clock takes the tick if it reaches no point at it. -/
def StringBlock.passAttack (b : StringBlock) : StringBlock := if b.attackDue then b else b.quietAttack

/-- The release counter takes the tick if it does not reach 0 at it. -/
def StringBlock.passRelease (b : StringBlock) : StringBlock := if b.releaseDue then b else b.quietRelease

/-- The update scheduler takes the tick if it does not reach 0 at it. -/
def StringBlock.passUpdate (b : StringBlock) : StringBlock := if b.updateDue then b else b.quietUpdate

/-- The three timers take the tick and reach no point. -/
def StringBlock.timersTick (b : StringBlock) : StringBlock := b.quietAttack.quietRelease.quietUpdate

/-- Every receiver takes the tick and reaches no point. -/
def StringBlock.quietTick (b : StringBlock) : StringBlock := b.timersTick.quietRecord

@[simp] theorem StringBlock.quietAttack_releaseDue (b : StringBlock) : b.quietAttack.releaseDue = b.releaseDue := by
  unfold StringBlock.quietAttack
  split <;> rfl

@[simp] theorem StringBlock.quietAttack_updateDue (b : StringBlock) : b.quietAttack.updateDue = b.updateDue := by
  unfold StringBlock.quietAttack
  split <;> rfl

@[simp] theorem StringBlock.quietRelease_updateDue (b : StringBlock) : b.quietRelease.updateDue = b.updateDue := by
  unfold StringBlock.quietRelease
  split <;> rfl

@[simp] theorem StringBlock.quietUpdate_releaseDue (b : StringBlock) : b.quietUpdate.releaseDue = b.releaseDue := by
  unfold StringBlock.quietUpdate
  split <;> rfl

@[simp] theorem StringBlock.timersTick_recordDue (b : StringBlock) : b.timersTick.recordDue = b.recordDue := by
  unfold StringBlock.timersTick StringBlock.quietUpdate StringBlock.quietRelease StringBlock.quietAttack
  split <;> split <;> split <;> rfl

@[simp] theorem StringBlock.quietAttack_ticked (b : StringBlock) : b.quietAttack.ticked = { b.ticked with attack := true } := by
  unfold StringBlock.quietAttack
  split
  · next taken => rw [← taken]
  · rfl

@[simp] theorem StringBlock.quietRelease_ticked (b : StringBlock) : b.quietRelease.ticked = { b.ticked with release := true } := by
  unfold StringBlock.quietRelease
  split
  · next taken => rw [← taken]
  · rfl

@[simp] theorem StringBlock.quietUpdate_ticked (b : StringBlock) : b.quietUpdate.ticked = { b.ticked with update := true } := by
  unfold StringBlock.quietUpdate
  split
  · next taken => rw [← taken]
  · rfl

@[simp] theorem StringBlock.quietUpdate_state (b : StringBlock) : b.quietUpdate.tracker = b.tracker := by
  unfold StringBlock.quietUpdate
  split <;> rfl

theorem StringBlock.passAttack_ticked (b : StringBlock) (h : b.attackDue = false) : b.passAttack.ticked.attack = true := by
  simp [StringBlock.passAttack, h]

theorem StringBlock.passRelease_ticked (b : StringBlock) (h : b.releaseDue = false) : b.passRelease.ticked.release = true := by
  simp [StringBlock.passRelease, h]

@[simp] theorem StringBlock.passAttack_releaseDue (b : StringBlock) : b.passAttack.releaseDue = b.releaseDue := by
  unfold StringBlock.passAttack
  split <;> simp

@[simp] theorem StringBlock.passRelease_ticked_attack (b : StringBlock) : b.passRelease.ticked.attack = b.ticked.attack := by
  unfold StringBlock.passRelease
  split <;> simp

@[simp] theorem StringBlock.passUpdate_ticked_attack (b : StringBlock) : b.passUpdate.ticked.attack = b.ticked.attack := by
  unfold StringBlock.passUpdate
  split <;> simp

@[simp] theorem StringBlock.passUpdate_ticked_release (b : StringBlock) : b.passUpdate.ticked.release = b.ticked.release := by
  unfold StringBlock.passUpdate
  split <;> simp

theorem StringBlock.quietUpdate_quietRelease (b : StringBlock) : b.quietUpdate.quietRelease = b.quietRelease.quietUpdate := by
  unfold StringBlock.quietUpdate StringBlock.quietRelease
  by_cases release : b.ticked.release = true <;> by_cases update : b.ticked.update = true <;> simp [release, update]

theorem quietAtTick_iff (b : StringBlock) :
    QuietAtTick b ↔ b.attackDue = false ∧ b.releaseDue = false ∧ b.updateDue = false ∧ b.recordDue = false := by
  have attack : b.attackDue = false ↔ (b.timers.attack.running = true → b.ticked.attack = false →
      b.timers.attack.value + 1 < b.timers.attack.giveUp ∧ (b.timers.attack.value + 1 ≠ b.timers.attack.earlyCommit ∨
        b.timers.attack.giveUp ≤ b.timers.attack.earlyCommit)) := by
    unfold StringBlock.attackDue AttackClock.reachesGiveUp AttackClock.reachesEarly
    cases b.ticked.attack <;> cases b.timers.attack.running <;> simp
    omega
  have release : b.releaseDue = false ↔
      (b.timers.release.running = true → b.ticked.release = false → 1 < b.timers.release.value) := by
    unfold StringBlock.releaseDue ReleaseCounter.reachesZero
    cases b.ticked.release <;> cases b.timers.release.running <;> simp
  have update : b.updateDue = false ↔
      (b.timers.update.running = true → b.ticked.update = false → 1 < b.timers.update.value) := by
    unfold StringBlock.updateDue UpdateScheduler.reachesZero
    cases b.ticked.update <;> cases b.timers.update.running <;> simp
  have record : b.recordDue = false ↔
      (b.record.state = .running → b.ticked.record = false → b.record.elapsed + 1 < b.record.timeout) := by
    unfold StringBlock.recordDue Measurement.reachesTimeout
    cases b.ticked.record <;> simp
  rw [attack, release, update, record]
  exact Iff.rfl

/-! ## A receiver that has taken the tick, or reaches no point -/

theorem attackOnce_taken (i : StringNo) (s : State) (h : (s.string i).ticked.attack = true) : attackOnce i s = s := if_pos h

theorem releaseOnce_taken (i : StringNo) (s : State) (h : (s.string i).ticked.release = true) : releaseOnce i s = s := if_pos h

theorem updateOnce_taken (i : StringNo) (s : State) (h : (s.string i).ticked.update = true) : updateOnce i s = s := if_pos h

theorem recordOnce_taken (i : StringNo) (s : State) (h : (s.string i).ticked.record = true) : recordOnce i s = s := if_pos h

/-- A mark and a timer's tick together, as one change of the string. -/
theorem modifyTicked_modifyTimers (i : StringNo) (mark : TickTaken → TickTaken) (tick : Timers → Timers) (s : State) :
    (s.modifyTicked i mark).modifyTimers i tick =
      s.modifyString i fun b => { b with timers := tick b.timers, ticked := mark b.ticked } :=
  State.modifyString_modifyString i _ _ s

theorem attackOnce_quiet (i : StringNo) (s : State) (h : (s.string i).attackDue = false) :
    attackOnce i s = s.modifyString i (·.quietAttack) := by
  by_cases taken : (s.string i).ticked.attack = true
  · exact (attackOnce_taken i s taken).trans (State.modifyString_same (f := (·.quietAttack)) (if_pos taken)).symm
  · simp only [StringBlock.attackDue, taken, Bool.not_false, Bool.true_and, Bool.or_eq_false_iff] at h
    rw [attackOnce, if_neg taken, attackTick, modifyTicked_modifyTimers]
    simp only [State.modifyTicked_string, h.1, h.2, if_false, Bool.false_eq_true]
    exact State.modifyString_congr (if_neg taken).symm

theorem releaseOnce_quiet (i : StringNo) (s : State) (h : (s.string i).releaseDue = false) :
    releaseOnce i s = s.modifyString i (·.quietRelease) := by
  by_cases taken : (s.string i).ticked.release = true
  · exact (releaseOnce_taken i s taken).trans (State.modifyString_same (f := (·.quietRelease)) (if_pos taken)).symm
  · simp only [StringBlock.releaseDue, taken, Bool.not_false, Bool.true_and] at h
    rw [releaseOnce, if_neg taken, releaseTick, modifyTicked_modifyTimers]
    simp only [State.modifyTicked_string, h, if_false, Bool.false_eq_true]
    exact State.modifyString_congr (if_neg taken).symm

/-- A release counter's point does nothing outside RELEASING (R104). -/
theorem releaseOnce_outside (i : StringNo) (s : State) (h : (s.string i).tracker.state ≠ .releasing) :
    releaseOnce i s = s.modifyString i (·.quietRelease) := by
  by_cases taken : (s.string i).ticked.release = true
  · exact (releaseOnce_taken i s taken).trans (State.modifyString_same (f := (·.quietRelease)) (if_pos taken)).symm
  · rw [releaseOnce, if_neg taken, releaseTick, modifyTicked_modifyTimers, takeReleaseExpiry, State.modifyString_string, if_neg h,
      ite_self]
    exact State.modifyString_congr (if_neg taken).symm

theorem updateOnce_quiet (i : StringNo) (s : State) (h : (s.string i).updateDue = false) :
    updateOnce i s = s.modifyString i (·.quietUpdate) := by
  by_cases taken : (s.string i).ticked.update = true
  · exact (updateOnce_taken i s taken).trans (State.modifyString_same (f := (·.quietUpdate)) (if_pos taken)).symm
  · simp only [StringBlock.updateDue, taken, Bool.not_false, Bool.true_and] at h
    rw [updateOnce, if_neg taken, updateTick, modifyTicked_modifyTimers]
    simp only [State.modifyTicked_string, h, if_false, Bool.false_eq_true]
    exact State.modifyString_congr (if_neg taken).symm

theorem recordOnce_quiet (i : StringNo) (s : State) (h : (s.string i).recordDue = false) :
    recordOnce i s = s.modifyString i (·.quietRecord) := by
  by_cases taken : (s.string i).ticked.record = true
  · exact (recordOnce_taken i s taken).trans (State.modifyString_same (f := (·.quietRecord)) (if_pos taken)).symm
  · simp only [StringBlock.recordDue, taken, Bool.not_false, Bool.true_and, Measurement.reachesTimeout, decide_eq_false_iff_not,
      not_and] at h
    rw [recordOnce, if_neg taken, recordTick]
    simp only [State.modifyTicked_string]
    split
    · next running =>
      rw [if_neg (h running)]
      refine (State.modifyString_modifyString i _ _ s).trans (State.modifyString_congr ?_)
      simp [StringBlock.quietRecord, taken, running]
    · next idle =>
      refine State.modifyString_congr ?_
      simp [StringBlock.quietRecord, taken, idle]

/-! ## The marks of the receivers -/

theorem attackTick_ticked (i : StringNo) (s : State) : ((attackTick i s).string i).ticked = (s.string i).ticked := by
  unfold attackTick
  simp only
  split
  · rw [(takeGiveUp_touches i _).ticked, State.modifyTimers_string]
  · split
    · rw [(takeEarlyPoint_touches i _).ticked, State.modifyTimers_string]
    · rw [State.modifyTimers_string]

theorem releaseTick_ticked (i : StringNo) (s : State) : ((releaseTick i s).string i).ticked = (s.string i).ticked := by
  unfold releaseTick
  simp only
  split
  · rw [(takeReleaseExpiry_touches i _).ticked, State.modifyTimers_string]
  · rw [State.modifyTimers_string]

theorem updateTick_ticked (i : StringNo) (s : State) : ((updateTick i s).string i).ticked = (s.string i).ticked := by
  unfold updateTick
  simp only
  split
  · rw [(takeUpdateExpiry_touches i _).ticked, State.modifyTimers_string]
  · rw [State.modifyTimers_string]

@[simp] theorem attackOnce_ticked (i : StringNo) (s : State) :
    ((attackOnce i s).string i).ticked = { (s.string i).ticked with attack := true } := by
  unfold attackOnce
  split
  · next taken => rw [← taken]
  · rw [attackTick_ticked, State.modifyTicked_string]

@[simp] theorem releaseOnce_ticked (i : StringNo) (s : State) :
    ((releaseOnce i s).string i).ticked = { (s.string i).ticked with release := true } := by
  unfold releaseOnce
  split
  · next taken => rw [← taken]
  · rw [releaseTick_ticked, State.modifyTicked_string]

@[simp] theorem updateOnce_ticked (i : StringNo) (s : State) :
    ((updateOnce i s).string i).ticked = { (s.string i).ticked with update := true } := by
  unfold updateOnce
  split
  · next taken => rw [← taken]
  · rw [updateTick_ticked, State.modifyTicked_string]

/-- Of a string's blocks a record's tick touches the record and its mark alone. -/
theorem recordOnce_block (i : StringNo) (s : State) : (recordOnce i s).string i = { s.string i with
    record := ((recordOnce i s).string i).record, ticked := { (s.string i).ticked with record := true } } := by
  unfold recordOnce
  split
  · next taken => rw [← taken]
  · rw [(recordTick_touches i _).block, State.modifyTicked_string]

/-! ## The timers that reach no point -/

/-- A timer that takes the tick unless its value is at a point, or unless it is due, does the same: at a point and not due it has
taken the tick. -/
theorem once_unless {i : StringNo} {s once : State} {taken reaches : Bool} {pass quiet : StringBlock → StringBlock}
    (hpass : pass (s.string i) = if !taken && reaches then s.string i else quiet (s.string i))
    (htaken : taken = true → once = s) (hquiet : (!taken && reaches) = false → once = s.modifyString i quiet) :
    (if reaches then s else once) = s.modifyString i pass := by
  cases due : !taken && reaches with
  | true =>
    obtain ⟨_, hreaches⟩ := Bool.and_eq_true_iff.mp due
    rw [if_pos hreaches, State.modifyString_same (hpass.trans (if_pos due))]
  | false =>
    have counts : s.modifyString i pass = once :=
      (State.modifyString_congr (hpass.trans (if_neg (by simp [due])))).trans (hquiet due).symm
    rw [counts]
    split
    · next hreaches => exact (htaken (by simpa [hreaches] using due)).symm
    · rfl

theorem attackOnce_unless (i : StringNo) (s : State) :
    (if (s.string i).timers.attack.reachesGiveUp || (s.string i).timers.attack.reachesEarly then s else attackOnce i s) =
      s.modifyString i (·.passAttack) :=
  once_unless rfl (attackOnce_taken i s) (attackOnce_quiet i s)

theorem releaseOnce_unless (i : StringNo) (s : State) :
    (if (s.string i).timers.release.reachesZero then s else releaseOnce i s) = s.modifyString i (·.passRelease) :=
  once_unless rfl (releaseOnce_taken i s) (releaseOnce_quiet i s)

theorem updateOnce_unless (i : StringNo) (s : State) :
    (if (s.string i).timers.update.reachesZero then s else updateOnce i s) = s.modifyString i (·.passUpdate) :=
  once_unless rfl (updateOnce_taken i s) (updateOnce_quiet i s)

/-- The timers of a string that reach no point take the tick, and nothing else happens (R72 to R78; log entry 5). -/
theorem quietTimers_eq (i : StringNo) (s : State) :
    quietTimers i s = s.modifyString i fun b => b.passAttack.passRelease.passUpdate := by
  have release : (s.string i).timers.release = ((s.modifyString i (·.passAttack)).string i).timers.release := by
    rw [State.modifyString_string]
    unfold StringBlock.passAttack StringBlock.quietAttack
    split
    · rfl
    · split <;> rfl
  have update : (s.string i).timers.update =
      (((s.modifyString i (·.passAttack)).modifyString i (·.passRelease)).string i).timers.update := by
    rw [State.modifyString_string, State.modifyString_string]
    unfold StringBlock.passAttack StringBlock.passRelease StringBlock.quietAttack StringBlock.quietRelease
    repeat' split
    all_goals rfl
  unfold quietTimers
  simp only
  rw [attackOnce_unless, release, releaseOnce_unless, update, updateOnce_unless, State.modifyString_modifyString,
    State.modifyString_modifyString]
  rfl

/-! ## A string's tick when some receivers have taken it -/

theorem passAttack_taken {b : StringBlock} (h : b.ticked.attack = true) : b.passAttack = b := by
  simp [StringBlock.passAttack, StringBlock.quietAttack, h]

theorem passRelease_taken {b : StringBlock} (h : b.ticked.release = true) : b.passRelease = b := by
  simp [StringBlock.passRelease, StringBlock.quietRelease, h]

theorem passUpdate_taken {b : StringBlock} (h : b.ticked.update = true) : b.passUpdate = b := by
  simp [StringBlock.passUpdate, StringBlock.quietUpdate, h]

/-- With the attack clock's and the release counter's tick taken, the scheduler's and the record's are left. -/
theorem stringTick_of_attack_release (i : StringNo) (s : State) (attack : (s.string i).ticked.attack = true)
    (release : (s.string i).ticked.release = true) : stringTick i s = recordOnce i (updateOnce i s) := by
  have quiet : quietTimers i s = s ∨ quietTimers i s = updateOnce i s := by
    rw [quietTimers_eq]
    cases due : (s.string i).updateDue with
    | true =>
      left
      refine State.modifyString_same ?_
      rw [passAttack_taken attack, passRelease_taken release]
      exact if_pos due
    | false =>
      right
      rw [updateOnce_quiet i s due]
      refine State.modifyString_congr ?_
      rw [passAttack_taken attack, passRelease_taken release]
      exact if_neg (by simp [due])
  unfold stringTick
  rcases quiet with quiet | quiet <;> rw [quiet]
  · rw [attackOnce_taken i s attack, releaseOnce_taken i s release]
  · rw [attackOnce_taken i _ (by simp [attack]), releaseOnce_taken i _ (by simp [release]),
      updateOnce_taken i (updateOnce i s) (by simp)]

/-- With the three timers' tick taken, the record's is left. -/
theorem stringTick_of_timers (i : StringNo) (s : State) (attack : (s.string i).ticked.attack = true)
    (release : (s.string i).ticked.release = true) (update : (s.string i).ticked.update = true) :
    stringTick i s = recordOnce i s := by
  rw [stringTick_of_attack_release i s attack release, updateOnce_taken i s update]

/-- With the attack clock's tick taken, the others' are left. A scheduler that an early start has just begun counts before or
after the release counter: the tracker is then not RELEASING, and the counter's point does nothing. -/
theorem stringTick_of_attack (i : StringNo) (s : State) (attack : (s.string i).ticked.attack = true)
    (fresh : (s.string i).updateDue = true ∨ (s.string i).ticked.update = true ∨ (s.string i).tracker.state ≠ .releasing) :
    stringTick i s = recordOnce i (updateOnce i (releaseOnce i s)) := by
  have quiet : quietTimers i s = s.modifyString i fun b => b.passRelease.passUpdate := by
    rw [quietTimers_eq]
    exact State.modifyString_congr (by rw [passAttack_taken attack])
  cases release : (s.string i).releaseDue with
  | false =>
    have counts := releaseOnce_quiet i s release
    have ahead : quietTimers i s = releaseOnce i s ∨ quietTimers i s = updateOnce i (releaseOnce i s) := by
      have passed : (s.string i).passRelease = (s.string i).quietRelease := if_neg (by simp [release])
      rw [quiet]
      cases update : (s.string i).updateDue with
      | true =>
        left
        rw [counts]
        refine State.modifyString_congr ?_
        rw [passed]
        exact if_pos (by simp [update])
      | false =>
        right
        rw [updateOnce_quiet i _ (by rw [counts, State.modifyString_string]; simp [update]), counts, State.modifyString_modifyString]
        refine State.modifyString_congr ?_
        rw [passed]
        exact if_neg (by simp [update])
    unfold stringTick
    rcases ahead with ahead | ahead <;> rw [ahead]
    · rw [attackOnce_taken i _ (by simp [attack]), releaseOnce_taken i (releaseOnce i s) (by simp)]
    · rw [attackOnce_taken i _ (by simp [attack]), releaseOnce_taken i (updateOnce i (releaseOnce i s)) (by simp),
        updateOnce_taken i (updateOnce i (releaseOnce i s)) (by simp)]
  | true =>
    have passed : (s.string i).passRelease = s.string i := if_pos release
    have nothing (h : (s.string i).passUpdate = s.string i) :
        stringTick i s = recordOnce i (updateOnce i (releaseOnce i s)) := by
      unfold stringTick
      rw [quiet, State.modifyString_same (by rw [passed, h]), attackOnce_taken i s attack]
    cases update : (s.string i).updateDue with
    | true => exact nothing (if_pos update)
    | false =>
      rcases fresh with due | taken | outside
      · cases update.symm.trans due
      · exact nothing (passUpdate_taken taken)
      · have ahead : quietTimers i s = updateOnce i s := by
          rw [quiet, updateOnce_quiet i s update]
          refine State.modifyString_congr ?_
          rw [passed]
          exact if_neg (by simp [update])
        have apart : releaseOnce i (updateOnce i s) = updateOnce i (releaseOnce i s) := by
          have before : ((s.modifyString i (·.quietUpdate)).string i).tracker.state ≠ .releasing := by
            rw [State.modifyString_string]; simpa using outside
          have after : ((s.modifyString i (·.quietRelease)).string i).updateDue = false := by
            rw [State.modifyString_string]; simpa using update
          rw [updateOnce_quiet i s update, releaseOnce_outside i s outside, releaseOnce_outside i _ before,
            updateOnce_quiet i _ after, State.modifyString_modifyString, State.modifyString_modifyString]
          exact State.modifyString_congr (s.string i).quietUpdate_quietRelease
        unfold stringTick
        rw [ahead, attackOnce_taken i _ (by simp [attack]), apart, updateOnce_taken i (updateOnce i (releaseOnce i s)) (by simp)]

/-! ## The scheduler of an early start -/

theorem offerStart_state (i : StringNo) (cause : StartCause) (s : State) :
    ((offerStart i cause s).string i).tracker.state = (s.string i).tracker.state := by
  have noted (c : NoteContext) (m : TrackerMessage) (f : NoteContext → NoteContext) :
      (((crossTracker i c false m s).state.modifyContext i f).string i).tracker.state = (s.string i).tracker.state := by
    rw [State.modifyContext_string, (crossTracker_queuesOnly i c false m s).string]
  unfold offerStart
  split
  · rfl
  · simp only
    split
    · rw [startScheduler, State.modifyString_string]
      exact noted _ _ _
    · exact noted _ _ _

theorem startNote_state (i : StringNo) (pv : Nat) (cause : StartCause) (grade peak : Nat) (early : Bool) (s : State) :
    ((startNote i pv cause grade peak early s).string i).tracker.state = .sounding := by
  unfold startNote
  rw [offerStart_state, storeLane, State.modifyContext_string, State.modifyString_string]
  rfl

/-- An attack clock's tick leaves the update scheduler as it stands, or has started a note. -/
theorem attackTick_update (i : StringNo) (s : State) :
    ((attackTick i s).string i).timers.update = (s.string i).timers.update ∨
      ((attackTick i s).string i).tracker.state = .sounding := by
  unfold attackTick
  simp only
  split
  · left
    unfold takeGiveUp
    simp only
    split
    · rw [endAttack, State.modifyString_string, State.bumpCounter_string, State.modifyTimers_string]
    · rw [State.bumpCounter_string, State.modifyTimers_string]
  · split
    · have noted (c : Bool) (t : State) : (if c then t.causeFlag .range else t).string i = t.string i := by
        split <;> rfl
      unfold takeEarlyPoint
      simp only
      split
      · split
        · exact .inr (startNote_state i _ _ _ _ _ _)
        · left
          rw [noted, State.modifyTimers_string]
      · left
        rw [State.modifyTimers_string]
    · left
      rw [State.modifyTimers_string]

/-- After the quiet timers every scheduler has taken the tick or is due. -/
theorem quietTimers_update (i : StringNo) (s : State) :
    ((quietTimers i s).string i).ticked.update = true ∨ ((quietTimers i s).string i).updateDue = true := by
  rw [quietTimers_eq, State.modifyString_string]
  generalize (s.string i).passAttack.passRelease = b
  unfold StringBlock.passUpdate
  split
  · next due => exact .inr due
  · left
    simp

/-- After the quiet timers an attack clock that is not due has taken the tick. -/
theorem quietTimers_attack (i : StringNo) (s : State) (h : (s.string i).attackDue = false) :
    ((quietTimers i s).string i).ticked.attack = true := by
  rw [quietTimers_eq, State.modifyString_string]
  simpa using (s.string i).passAttack_ticked h

theorem quietTimers_release (i : StringNo) (s : State) (h : (s.string i).releaseDue = false) :
    ((quietTimers i s).string i).ticked.release = true := by
  rw [quietTimers_eq, State.modifyString_string, StringBlock.passUpdate_ticked_release]
  exact StringBlock.passRelease_ticked _ (by simpa using h)

/-- After an attack clock's point, what `stringTick_of_attack` asks of the scheduler holds. -/
theorem attackOnce_fresh (i : StringNo) (s : State) (h : (s.string i).ticked.update = true ∨ (s.string i).updateDue = true) :
    ((attackOnce i s).string i).updateDue = true ∨ ((attackOnce i s).string i).ticked.update = true ∨
      ((attackOnce i s).string i).tracker.state ≠ .releasing := by
  rcases h with taken | due
  · exact .inr (.inl (by simp [taken]))
  · unfold attackOnce
    split
    · exact .inl due
    · rcases attackTick_update i (s.modifyTicked i fun k => { k with attack := true }) with kept | started
      · left
        rw [StringBlock.updateDue, kept, attackTick_ticked, State.modifyTicked_string]
        exact due
      · exact .inr (.inr (by rw [started]; decide))

/-! ## The rows of the points -/

/-- A tick stays at hand while a string's receivers take it. -/
theorem OneString.tickAtHand {i : StringNo} {s t : State} (h : OneString i s t) : t.tickAtHand = s.tickAtHand := by
  simp only [State.tickAtHand, h.slu, h.divider]

theorem occurs_true (event : State → State) (s : State) : occurs true event s = event s := rfl

theorem taken_attackRows (i : StringNo) (s : State) (h : s.tickAtHand = true) :
    taken (.earlyPoint i) (taken (.giveUp i) s) =
      if (s.string i).attackDue then attackOnce i (quietTimers i s) else s := by
  have giveUp : taken (.giveUp i) s =
      occurs (giveUpAtHand i s) (fun t => attackOnce i (quietTimers i t)) s := rfl
  have early (t : State) : taken (.earlyPoint i) t =
      occurs (earlyPointAtHand i t) (fun t => attackOnce i (quietTimers i t)) t := rfl
  rw [early, giveUp]
  cases gives : giveUpAtHand i s with
  | true =>
    have due : (s.string i).attackDue = true := by
      simp only [giveUpAtHand, h, Bool.true_and, Bool.and_eq_true] at gives
      simp [StringBlock.attackDue, gives.1, gives.2]
    have passed : earlyPointAtHand i (attackOnce i (quietTimers i s)) = false := by simp [earlyPointAtHand]
    rw [if_pos due, occurs_true, passed, occurs_false]
  | false =>
    have same : earlyPointAtHand i s = (s.string i).attackDue := by
      simp only [giveUpAtHand, h, Bool.true_and, Bool.and_eq_false_iff] at gives
      simp only [earlyPointAtHand, h, Bool.true_and, StringBlock.attackDue]
      rcases gives with taken | below
      · simp [taken]
      · simp [below]
    rw [occurs_false, same]
    rfl

theorem taken_releaseExpiry (i : StringNo) (s : State) (h : s.tickAtHand = true) :
    taken (.releaseExpiry i) s = if (s.string i).releaseDue then releaseOnce i (quietTimers i s) else s := by
  have same : releaseAtHand i s = (s.string i).releaseDue := by simp [releaseAtHand, h, StringBlock.releaseDue]
  rw [← same]
  rfl

theorem taken_updateExpiry (i : StringNo) (s : State) (h : s.tickAtHand = true) :
    taken (.updateExpiry i) s = if (s.string i).updateDue then updateOnce i (quietTimers i s) else s := by
  have same : updateAtHand i s = (s.string i).updateDue := by simp [updateAtHand, h, StringBlock.updateDue]
  rw [← same]
  rfl

theorem taken_measureTimeout (i : StringNo) (s : State) (h : s.tickAtHand = true) :
    taken (.measureTimeout i) s = if (s.string i).recordDue then recordOnce i s else s := by
  have same : timeoutAtHand i s = (s.string i).recordDue := by simp [timeoutAtHand, h, StringBlock.recordDue]
  rw [← same]
  rfl

/-- A row's share of a string's tick: it touches the string and the queues, and leaves the string's tick the same outcome. -/
structure TakenAhead (i : StringNo) (s t : State) : Prop where
  touches : OneString i s t
  outcome : stringTick i t = stringTick i s

theorem TakenAhead.refl (i : StringNo) (s : State) : TakenAhead i s s := ⟨.refl i s, rfl⟩

theorem TakenAhead.trans {i : StringNo} {s t u : State} (h : TakenAhead i s t) (k : TakenAhead i t u) : TakenAhead i s u :=
  ⟨h.touches.trans k.touches, k.outcome.trans h.outcome⟩

theorem attackDue_of_taken {b : StringBlock} (h : b.ticked.attack = true) : b.attackDue = false := by
  simp [StringBlock.attackDue, h]

theorem releaseDue_of_taken {b : StringBlock} (h : b.ticked.release = true) : b.releaseDue = false := by
  simp [StringBlock.releaseDue, h]

theorem updateDue_of_taken {b : StringBlock} (h : b.ticked.update = true) : b.updateDue = false := by
  simp [StringBlock.updateDue, h]

/-- The rows of the attack clock's points (R72, R73). -/
theorem attackRows_ahead (i : StringNo) (s : State) (h : s.tickAtHand = true) :
    TakenAhead i s (taken (.earlyPoint i) (taken (.giveUp i) s)) ∧
      ((taken (.earlyPoint i) (taken (.giveUp i) s)).string i).attackDue = false := by
  rw [taken_attackRows i s h]
  cases due : (s.string i).attackDue with
  | false => exact ⟨.refl i s, due⟩
  | true =>
    have taken : ((attackOnce i (quietTimers i s)).string i).ticked.attack = true := by simp
    have fresh := attackOnce_fresh i (quietTimers i s) (quietTimers_update i s)
    exact ⟨⟨(quietTimers_touches i s).trans (attackOnce_touches i _), stringTick_of_attack i _ taken fresh⟩,
      attackDue_of_taken taken⟩

/-- The row of the release expiry, when the attack clock is not due (R75). -/
theorem releaseRow_ahead (i : StringNo) (s : State) (h : s.tickAtHand = true) (attack : (s.string i).attackDue = false) :
    TakenAhead i s (taken (.releaseExpiry i) s) ∧ ((taken (.releaseExpiry i) s).string i).attackDue = false ∧
      ((taken (.releaseExpiry i) s).string i).releaseDue = false := by
  rw [taken_releaseExpiry i s h]
  cases due : (s.string i).releaseDue with
  | false => exact ⟨.refl i s, attack, due⟩
  | true =>
    have ahead := quietTimers_attack i s attack
    have takenAttack : ((releaseOnce i (quietTimers i s)).string i).ticked.attack = true := by simp [ahead]
    have takenRelease : ((releaseOnce i (quietTimers i s)).string i).ticked.release = true := by simp
    have outcome : stringTick i (releaseOnce i (quietTimers i s)) = stringTick i s := by
      rw [stringTick_of_attack_release i _ takenAttack takenRelease, stringTick, attackOnce_taken i _ ahead]
    exact ⟨⟨(quietTimers_touches i s).trans (releaseOnce_touches i _), outcome⟩, attackDue_of_taken takenAttack,
      releaseDue_of_taken takenRelease⟩

/-- The row of the update expiry, when the attack clock and the release counter are not due (R78). -/
theorem updateRow_ahead (i : StringNo) (s : State) (h : s.tickAtHand = true) (attack : (s.string i).attackDue = false)
    (release : (s.string i).releaseDue = false) :
    TakenAhead i s (taken (.updateExpiry i) s) ∧ ((taken (.updateExpiry i) s).string i).attackDue = false ∧
      ((taken (.updateExpiry i) s).string i).releaseDue = false ∧ ((taken (.updateExpiry i) s).string i).updateDue = false := by
  rw [taken_updateExpiry i s h]
  cases due : (s.string i).updateDue with
  | false => exact ⟨.refl i s, attack, release, due⟩
  | true =>
    have aheadAttack := quietTimers_attack i s attack
    have aheadRelease := quietTimers_release i s release
    have takenAttack : ((updateOnce i (quietTimers i s)).string i).ticked.attack = true := by simp [aheadAttack]
    have takenRelease : ((updateOnce i (quietTimers i s)).string i).ticked.release = true := by simp [aheadRelease]
    have takenUpdate : ((updateOnce i (quietTimers i s)).string i).ticked.update = true := by simp
    have outcome : stringTick i (updateOnce i (quietTimers i s)) = stringTick i s := by
      rw [stringTick_of_timers i _ takenAttack takenRelease takenUpdate, stringTick, attackOnce_taken i _ aheadAttack,
        releaseOnce_taken i _ aheadRelease]
    exact ⟨⟨(quietTimers_touches i s).trans (updateOnce_touches i _), outcome⟩, attackDue_of_taken takenAttack,
      releaseDue_of_taken takenRelease, updateDue_of_taken takenUpdate⟩

/-! ## A string whose timers reach no point -/

/-- A change of a string that meets neither the record nor its mark. -/
def RecordApart (g : StringBlock → StringBlock) : Prop :=
  ∀ (b : StringBlock) (r : Measurement) (k : Bool),
    g { b with record := r, ticked := { b.ticked with record := k } } =
      { g b with record := r, ticked := { (g b).ticked with record := k } }

theorem RecordApart.record {g : StringBlock → StringBlock} (h : RecordApart g) (b : StringBlock) : (g b).record = b.record :=
  congrArg (·.record) (h b b.record b.ticked.record)

theorem RecordApart.mark {g : StringBlock → StringBlock} (h : RecordApart g) (b : StringBlock) :
    (g b).ticked.record = b.ticked.record :=
  congrArg (·.ticked.record) (h b b.record b.ticked.record)

theorem RecordApart.setRecord {g : StringBlock → StringBlock} (h : RecordApart g) (b : StringBlock) (r : Measurement) :
    g { b with record := r } = { g b with record := r } :=
  (h b r b.ticked.record).trans (by rw [← h.mark b])

theorem RecordApart.setMark {g : StringBlock → StringBlock} (h : RecordApart g) (b : StringBlock) (k : Bool) :
    g { b with ticked := { b.ticked with record := k } } = { g b with ticked := { (g b).ticked with record := k } } :=
  (h b b.record k).trans (by rw [← h.record b])

theorem timersTick_recordApart : RecordApart (·.timersTick) := by
  intro b r k
  unfold StringBlock.timersTick StringBlock.quietUpdate StringBlock.quietRelease StringBlock.quietAttack
  by_cases attack : b.ticked.attack = true <;> by_cases release : b.ticked.release = true <;>
    by_cases update : b.ticked.update = true <;> simp [attack, release, update]

section
variable {i : StringNo} {g : StringBlock → StringBlock} (h : RecordApart g) (s : State)
include h

theorem modifyRecord_comm (f : Measurement → Measurement) :
    (s.modifyString i g).modifyRecord i f = (s.modifyRecord i f).modifyString i g := by
  refine (State.modifyString_modifyString i g _ s).trans (Eq.trans ?_ (State.modifyString_modifyString i _ g s).symm)
  refine State.modifyString_congr ?_
  simp only [Function.comp_apply, h.record]
  exact (h.setRecord _ _).symm

theorem markRecord_comm :
    (s.modifyString i g).modifyTicked i (fun k => { k with record := true }) =
      (s.modifyTicked i fun k => { k with record := true }).modifyString i g := by
  refine (State.modifyString_modifyString i g _ s).trans (Eq.trans ?_ (State.modifyString_modifyString i _ g s).symm)
  exact State.modifyString_congr (h.setMark _ _).symm

theorem seekSlot_comm : seekSlot i (s.modifyString i g) = (seekSlot i s).modifyString i g := by
  have placed : placeResult i (s.modifyString i g) = (placeResult i s).modifyString i g := by
    unfold placeResult
    rw [State.modifyString_string, h.record]
    exact congrArg (State.causeFlag .measureDone) (modifyRecord_comm h (s.placeReply _) (·.toIdle))
  unfold seekSlot
  rw [State.modifyString_string, h.record, placed, apply_ite (State.modifyString i g)]
  rfl

/-- A record's tick does not meet such a change. -/
theorem recordOnce_comm : recordOnce i (s.modifyString i g) = (recordOnce i s).modifyString i g := by
  have tick (s : State) : recordTick i (s.modifyString i g) = (recordTick i s).modifyString i g := by
    unfold recordTick endMeasurement
    simp only [State.modifyString_string, h.record, modifyRecord_comm h, seekSlot_comm h, apply_ite (State.modifyString i g)]
  unfold recordOnce
  rw [State.modifyString_string, h.mark, markRecord_comm h, tick, apply_ite (State.modifyString i g)]

end

/-- When no timer is due, all three take the tick and reach no point. -/
theorem stringTick_of_quietTimers (i : StringNo) (s : State) (attack : (s.string i).attackDue = false)
    (release : (s.string i).releaseDue = false) (update : (s.string i).updateDue = false) :
    stringTick i s = recordOnce i (s.modifyString i (·.timersTick)) := by
  have quiet : quietTimers i s = s.modifyString i (·.timersTick) := by
    rw [quietTimers_eq]
    refine State.modifyString_congr ?_
    rw [StringBlock.passAttack, if_neg (by simp [attack]), StringBlock.passRelease, if_neg (by simp [release]),
      StringBlock.passUpdate, if_neg (by simp [update])]
    rfl
  have takenAttack : ((s.modifyString i (·.timersTick)).string i).ticked.attack = true := by
    rw [State.modifyString_string]; simp [StringBlock.timersTick]
  have takenRelease : ((s.modifyString i (·.timersTick)).string i).ticked.release = true := by
    rw [State.modifyString_string]; simp [StringBlock.timersTick]
  have takenUpdate : ((s.modifyString i (·.timersTick)).string i).ticked.update = true := by
    rw [State.modifyString_string]; simp [StringBlock.timersTick]
  rw [stringTick, quiet, attackOnce_taken i _ takenAttack, releaseOnce_taken i _ takenRelease, updateOnce_taken i _ takenUpdate]

/-- The row of the measurement's timeout, when no timer is due (R187). -/
theorem timeoutRow_ahead (i : StringNo) (s : State) (h : s.tickAtHand = true) (attack : (s.string i).attackDue = false)
    (release : (s.string i).releaseDue = false) (update : (s.string i).updateDue = false) :
    TakenAhead i s (taken (.measureTimeout i) s) ∧ QuietAtTick ((taken (.measureTimeout i) s).string i) := by
  rw [taken_measureTimeout i s h, quietAtTick_iff]
  cases due : (s.string i).recordDue with
  | false => exact ⟨.refl i s, attack, release, update, due⟩
  | true =>
    have block := recordOnce_block i s
    have taken : ((recordOnce i s).string i).ticked.record = true := by rw [block]
    have attack' : ((recordOnce i s).string i).attackDue = false := by rw [block]; exact attack
    have release' : ((recordOnce i s).string i).releaseDue = false := by rw [block]; exact release
    have update' : ((recordOnce i s).string i).updateDue = false := by rw [block]; exact update
    have outcome : stringTick i (recordOnce i s) = stringTick i s := by
      rw [stringTick_of_quietTimers i _ attack' release' update', stringTick_of_quietTimers i s attack release update,
        recordOnce_comm timersTick_recordApart, recordOnce_comm timersTick_recordApart,
        recordOnce_taken i (recordOnce i s) taken]
    exact ⟨⟨recordOnce_touches i s, outcome⟩, attack', release', update', by simp [StringBlock.recordDue, taken]⟩

/-- The part after the rows of a string's points, in the order TICK serves them. -/
def expiryTaken (i : StringNo) (s : State) : State :=
  taken (.measureTimeout i) (taken (.updateExpiry i) (taken (.releaseExpiry i) (taken (.earlyPoint i) (taken (.giveUp i) s))))

theorem expiryRows_taken (i : StringNo) (s : State) : (expiryRows i).foldl (fun u c => taken c u) s = expiryTaken i s := by
  simp only [expiryRows, List.foldl_cons, List.foldl_nil, expiryTaken]

/-- Taking a string's points ahead leaves its tick the same outcome, and no receiver of it with a point to reach (R68). -/
theorem expiryTaken_ahead (i : StringNo) (s : State) (h : s.tickAtHand = true) :
    TakenAhead i s (expiryTaken i s) ∧ QuietAtTick ((expiryTaken i s).string i) := by
  rw [expiryTaken]
  obtain ⟨first, attack⟩ := attackRows_ahead i s h
  have hand := first.touches.tickAtHand.trans h
  obtain ⟨second, attack, release⟩ := releaseRow_ahead i _ hand attack
  have hand := second.touches.tickAtHand.trans hand
  obtain ⟨third, attack, release, update⟩ := updateRow_ahead i _ hand attack release
  have hand := third.touches.tickAtHand.trans hand
  obtain ⟨fourth, quiet⟩ := timeoutRow_ahead i _ hand attack release update
  exact ⟨((first.trans second).trans third).trans fourth, quiet⟩

/-! ## Every string -/

theorem taken_occurs_apart {j : StringNo} {c : Instr} {condition : State → Bool} {event : State → State}
    (hc : ∀ s, exec c s = .next (occurs (condition s) event s))
    (hcondition : ∀ f s, condition (s.modifyString j f) = condition s) (hevent : ApartFrom j event) : ApartFrom j (taken c) := by
  have row (s : State) : taken c s = if condition s then event s else s := by rw [taken, hc]; rfl
  intro f s
  rw [row, row, hcondition f s, hevent f s, apply_ite (State.modifyString j f)]

/-- The rows of a string's points do not meet another string's blocks. -/
theorem expiryTaken_apart {i j : StringNo} (h : i ≠ j) : ApartFrom j (expiryTaken i) := by
  have string (f : StringBlock → StringBlock) (s : State) := State.modifyString_string_other f s h
  have giveUp : ApartFrom j (taken (.giveUp i)) :=
    taken_occurs_apart (fun _ => rfl) (fun f s => by simp only [giveUpAtHand, string f s]; rfl)
      ((quietTimers_apart h).comp (attackOnce_apart h))
  have early : ApartFrom j (taken (.earlyPoint i)) :=
    taken_occurs_apart (fun _ => rfl) (fun f s => by simp only [earlyPointAtHand, string f s]; rfl)
      ((quietTimers_apart h).comp (attackOnce_apart h))
  have release : ApartFrom j (taken (.releaseExpiry i)) :=
    taken_occurs_apart (fun _ => rfl) (fun f s => by simp only [releaseAtHand, string f s]; rfl)
      ((quietTimers_apart h).comp (releaseOnce_apart h))
  have update : ApartFrom j (taken (.updateExpiry i)) :=
    taken_occurs_apart (fun _ => rfl) (fun f s => by simp only [updateAtHand, string f s]; rfl)
      ((quietTimers_apart h).comp (updateOnce_apart h))
  have timeout : ApartFrom j (taken (.measureTimeout i)) :=
    taken_occurs_apart (fun _ => rfl) (fun f s => by simp only [timeoutAtHand, string f s]; rfl) (recordOnce_apart h)
  intro f s
  simp only [expiryTaken]
  rw [giveUp f, early f, release f, update f, timeout f]

/-- A string none of whose receivers reaches a point takes the tick in its own blocks alone. -/
theorem stringTick_quiet (i : StringNo) (s : State) (h : QuietAtTick (s.string i)) :
    stringTick i s = s.modifyString i (·.quietTick) := by
  obtain ⟨attack, release, update, record⟩ := (quietAtTick_iff _).mp h
  have due : ((s.modifyString i (·.timersTick)).string i).recordDue = false := by
    rw [State.modifyString_string]; simpa using record
  rw [stringTick_of_quietTimers i s attack release update, recordOnce_quiet i _ due, State.modifyString_modifyString]
  rfl

/-- An event that does not meet a string's blocks leaves them as they stand. -/
theorem ApartFrom.string {j : StringNo} {event : State → State} (h : ApartFrom j event) (s : State) :
    (event s).string j = s.string j := by
  have set := h (fun _ => s.string j) s
  rw [State.modifyString_same (f := fun _ => s.string j) rfl] at set
  rw [set]
  exact State.modifyString_string j _ _

/-- Taking every point of a list of strings ahead leaves their ticks the same outcome, and none of them with a point to reach: a
string whose points are taken meets no other string's. -/
theorem forStrings_expiryTaken (strings : List StringNo) (hnodup : strings.Nodup) (s : State) (hand : s.tickAtHand = true) :
    forStrings strings stringTick (forStrings strings expiryTaken s) = forStrings strings stringTick s ∧
      ∀ i ∈ strings, QuietAtTick ((forStrings strings expiryTaken s).string i) := by
  induction strings generalizing s with
  | nil => exact ⟨rfl, by simp⟩
  | cons i rest ih =>
    obtain ⟨hi, hrest⟩ := List.nodup_cons.mp hnodup
    obtain ⟨ahead, quiet⟩ := expiryTaken_ahead i s hand
    have apart : ApartFrom i (forStrings rest expiryTaken) :=
      forStrings_apart expiryTaken rest fun j hj => expiryTaken_apart (ne_of_mem_of_not_mem hj hi)
    have still : QuietAtTick ((forStrings rest expiryTaken (expiryTaken i s)).string i) := by rwa [apart.string]
    have first : stringTick i (forStrings rest expiryTaken (expiryTaken i s)) = forStrings rest expiryTaken (stringTick i s) := by
      rw [stringTick_quiet i _ still, ← apart, ← stringTick_quiet i _ quiet, ahead.outcome]
    obtain ⟨outcome, _⟩ := ih hrest (stringTick i s) ((stringTick_touches i s).tickAtHand.trans hand)
    obtain ⟨_, quiets⟩ := ih hrest (expiryTaken i s) (ahead.touches.tickAtHand.trans hand)
    simp only [forStrings_cons]
    refine ⟨by rw [first, outcome], fun j hj => ?_⟩
    rcases List.mem_cons.mp hj with rfl | hj
    · exact still
    · exact quiets j hj

/-- Taking the points ahead touches neither the synth link nor the divider. -/
theorem forStrings_expiryTaken_clock (strings : List StringNo) (s : State) (hand : s.tickAtHand = true) :
    (forStrings strings expiryTaken s).slu = s.slu ∧ (forStrings strings expiryTaken s).divider = s.divider := by
  induction strings generalizing s with
  | nil => exact ⟨rfl, rfl⟩
  | cons i rest ih =>
    have touches := (expiryTaken_ahead i s hand).1.touches
    obtain ⟨slu, divider⟩ := ih (expiryTaken i s) (touches.tickAtHand.trans hand)
    rw [forStrings_cons]
    exact ⟨slu.trans touches.slu, divider.trans touches.divider⟩

/-- A tick that brings no string to a point touches the strings alone. -/
theorem forStrings_stringTick_quiet (strings : List StringNo) (hnodup : strings.Nodup) (s : State)
    (quiet : ∀ i ∈ strings, QuietAtTick (s.string i)) :
    forStrings strings stringTick s = { s with strings := (forStrings strings stringTick s).strings } := by
  induction strings generalizing s with
  | nil => rfl
  | cons i rest ih =>
    obtain ⟨hi, hrest⟩ := List.nodup_cons.mp hnodup
    have first := stringTick_quiet i s (quiet i List.mem_cons_self)
    have others := ih hrest (stringTick i s) fun j hj => by
      rw [(stringTick_touches i s).others j (ne_of_mem_of_not_mem hj hi)]
      exact quiet j (List.mem_cons_of_mem i hj)
    rw [forStrings_cons, others, first]
    rfl

/-- A string that reaches no point, after the tick's delivery. -/
theorem forStrings_stringTick_string (s : State) (i : StringNo) (quiet : QuietAtTick (s.string i)) :
    (forStrings allStrings stringTick s).string i = (s.string i).quietTick := by
  obtain ⟨u, before, after⟩ := forStrings_turn (R := fun s t => t.string i = s.string i) (fun _ => rfl)
    (fun _ _ _ h k => k.trans h) stringTick i (fun j s h => (stringTick_touches j s).others i h.symm) allStrings_nodup
    (mem_allStrings i) s
  rw [after, stringTick_quiet i u (by rwa [before]), State.modifyString_string, before]

/-- A receiver that has yet to take the tick takes it, in its own part of the blocks. -/
theorem StringBlock.quietTick_eq (b : StringBlock) : b.quietTick = { b with
    timers := ⟨if b.ticked.attack then b.timers.attack else b.timers.attack.tick,
      if b.ticked.release then b.timers.release else b.timers.release.tick,
      if b.ticked.update then b.timers.update else b.timers.update.tick⟩
    record := if b.ticked.record then b.record
      else if b.record.state = .running then { b.record with elapsed := b.record.elapsed + 1 } else b.record
    ticked := ⟨true, true, true, true⟩ } := by
  obtain ⟨_, _, _, _, _, ⟨_, _, _⟩, _, _, _, ⟨attack, release, update, record⟩⟩ := b
  unfold StringBlock.quietTick StringBlock.timersTick StringBlock.quietRecord StringBlock.quietUpdate StringBlock.quietRelease
    StringBlock.quietAttack
  cases attack <;> cases release <;> cases update <;> cases record <;> rfl

/-- A clock that does not reach its give-up point goes on running (R71, R73). -/
theorem attackClock_quiet (c : AttackClock) (taken : Bool) (h : c.running = true → taken = false → c.value + 1 < c.giveUp) :
    (if taken then c else c.tick) =
      { c with value := if c.running ∧ taken = false then min (c.value + 1) 1023 else c.value } := by
  obtain ⟨running, value, early, giveUp⟩ := c
  cases taken <;> cases running <;> simp_all [AttackClock.tick]

/-- A counter that does not reach 0 goes on running (R75). -/
theorem releaseCounter_quiet (c : ReleaseCounter) (taken : Bool) (h : c.running = true → taken = false → 1 < c.value) :
    (if taken then c else c.tick) = { c with value := if c.running ∧ taken = false then c.value - 1 else c.value } := by
  obtain ⟨running, value⟩ := c
  cases taken <;> cases running <;> simp_all [ReleaseCounter.tick]

/-- A scheduler that does not reach 0 counts down and is not reloaded (R78). -/
theorem updateScheduler_quiet (u : UpdateScheduler) (taken : Bool) (h : u.running = true → taken = false → 1 < u.value) :
    (if taken then u else u.tick) = { u with value := if u.running ∧ taken = false then u.value - 1 else u.value } := by
  obtain ⟨running, value, period, deadband⟩ := u
  cases taken <;> cases running <;> simp_all [UpdateScheduler.tick]

/-- A RUNNING record counts the tick (R187). -/
theorem record_quiet (r : Measurement) (taken : Bool) :
    (if taken then r else if r.state = .running then { r with elapsed := r.elapsed + 1 } else r) =
      { r with elapsed := if r.state = .running ∧ taken = false then r.elapsed + 1 else r.elapsed } := by
  obtain ⟨state, _⟩ := r
  cases taken <;> cases state <;> rfl

/-- The blocks of a string that reaches no point, once the marks are cleared (R71, R75, R78, R187). -/
theorem quietTick_cleared (b : StringBlock) (quiet : QuietAtTick b) : { b.quietTick with ticked := .clear } = { b with
    timers :=
      ⟨{ b.timers.attack with value :=
          if b.timers.attack.running ∧ b.ticked.attack = false then min (b.timers.attack.value + 1) 1023
          else b.timers.attack.value },
        { b.timers.release with value :=
          if b.timers.release.running ∧ b.ticked.release = false then b.timers.release.value - 1 else b.timers.release.value },
        { b.timers.update with value :=
          if b.timers.update.running ∧ b.ticked.update = false then b.timers.update.value - 1 else b.timers.update.value }⟩
    record := { b.record with elapsed :=
      if b.record.state = .running ∧ b.ticked.record = false then b.record.elapsed + 1 else b.record.elapsed }
    ticked := ⟨false, false, false, false⟩ } := by
  obtain ⟨attack, release, update, _⟩ := quiet
  rw [b.quietTick_eq, attackClock_quiet _ _ fun h k => (attack h k).1, releaseCounter_quiet _ _ release,
    updateScheduler_quiet _ _ update, record_quiet]
  rfl

/-! ## The divider -/

/-- The underflow when the tick has been delivered: the marks cleared, and the divider reloaded (R68). -/
def reloaded (s : State) : State :=
  { s.modifyAll (fun b => { b with ticked := .clear }) with divider := { s.divider with count := s.divider.tickBase } }

theorem underflow_eq (s : State) : underflow s = reloaded (forStrings allStrings stringTick s) := by
  simp only [underflow, reloaded]

theorem reloaded_string (s : State) (i : StringNo) : (reloaded s).string i = { s.string i with ticked := .clear } :=
  State.modifyAll_string _ s i

theorem exec_tick (s : State) : exec .tick s = .next (dividerPeriod s) := rfl

/-- A TICK at the divider's 0 (R68). -/
theorem exec_tick_underflow (s : State) (hs : s.slu.link = .up) (h0 : s.divider.count = 0) :
    exec .tick s = .next (reloaded (forStrings allStrings stringTick s)) := by
  rw [exec_tick, dividerPeriod, if_pos hs, if_neg (by omega), underflow_eq]

/-- Settles O42. -/
theorem tickDelivery : Obligations.TickDelivery := by
  intro s
  refine ⟨fun hs => ?searching, fun hs hpos => ?counts, fun hs h0 => ?ahead, fun hs h0 => ?delivers⟩
  case searching => rw [exec_tick, dividerPeriod, if_neg (by simp [hs])]
  case counts => rw [exec_tick, dividerPeriod, if_pos hs, if_pos hpos]
  case ahead =>
    have hand : s.tickAtHand = true := decide_eq_true ⟨hs, h0⟩
    intro due
    have taken : due = forStrings allStrings expiryTaken s := by
      simp only [due, List.foldl_flatMap, expiryRows_taken]
      rfl
    obtain ⟨outcome, quiet⟩ := forStrings_expiryTaken allStrings allStrings_nodup s hand
    obtain ⟨slu, divider⟩ := forStrings_expiryTaken_clock allStrings s hand
    rw [taken]
    refine ⟨?_, fun i => quiet i (mem_allStrings i), slu, divider⟩
    rw [exec_tick_underflow s hs h0, exec_tick_underflow _ (by rw [slu, hs]) (by rw [divider, h0]), outcome]
  case delivers =>
    have shared : SharedKept s (forStrings allStrings stringTick s) :=
      forStrings_sharedKept stringTick (fun i t => (stringTick_touches i t).sharedKept) allStrings s
    have slu : (forStrings allStrings stringTick s).slu = s.slu :=
      forStrings_slu stringTick (fun i t => (stringTick_touches i t).slu) allStrings s
    have still := forStrings_stringTick_quiet allStrings allStrings_nodup s
    have string := forStrings_stringTick_string s
    rw [exec_tick_underflow s hs h0]
    generalize forStrings allStrings stringTick s = delivered at shared slu still string
    have divider : (reloaded delivered).divider = ⟨s.divider.tickBase, s.divider.tickBase⟩ := by rw [← shared.divider]; rfl
    refine ⟨reloaded delivered, rfl, divider, shared.plu, slu, shared.tables, shared.numbering, shared.lane, shared.cu,
      shared.countPoint, shared.pending, fun i => ?_, fun quiet => ?_, fun i => ?_⟩
    · rw [reloaded_string]; rfl
    · rw [still fun i _ => quiet i]; rfl
    · intro b a u quiet
      rw [reloaded_string, string i quiet]
      exact quietTick_cleared b quiet

end Sys2Proof.Machine
end

section
/-!
PROOFS. The run of an input stage, part by part: correction, low-pass and envelope (O12), edge, gate and trough (O13), the
crossing detector and raw period delivery (O14).
-/

namespace Sys2Proof.Machine

open Sys2Proof.Safety

/-! ## Crosstalk correction -/

/-- A signed clamp between ordered bounds. -/
theorem clampInt_eq {lo hi : Int} (h : lo ≤ hi) (v : Int) : clampInt lo hi v = max lo (min hi v) := by
  unfold clampInt
  split
  · omega
  · split <;> omega

theorem saturateSample_eq (v : Int) : saturateSample v = max (-32768) (min 32767 v) := clampInt_eq (by decide) v

/-- A word's value is a sample (R21). -/
theorem sample_range (w : Word) : -32768 ≤ w.toInt ∧ w.toInt ≤ 32767 := by
  have low := w.le_toInt
  have high := w.toInt_lt
  norm_num at low high
  omega

/-- The correction in the terms of R21. -/
theorem correctedSample_eq (samples : PerString Word) (x : Crosstalk) (i : StringNo) :
    correctedSample samples x i = max (-32768) (min 32767 ((samples.get i).toInt -
      (x.kLo * neighbourSample samples i.lower + x.kHi * neighbourSample samples i.higher) / 256)) := by
  rw [correctedSample, saturateSample_eq, Int.fdiv_eq_ediv_of_nonneg _ (by decide)]

/-- A corrected sample is a sample (R21). -/
theorem correctedSample_range (samples : PerString Word) (x : Crosstalk) (i : StringNo) :
    -32768 ≤ correctedSample samples x i ∧ correctedSample samples x i ≤ 32767 := by
  rw [correctedSample_eq]
  omega

/-- With both coefficients 0 a sample goes through uncorrected (R21). -/
theorem correctedSample_uncoupled (samples : PerString Word) (i : StringNo) :
    correctedSample samples ⟨0, 0⟩ i = (samples.get i).toInt := by
  obtain ⟨low, high⟩ := sample_range (samples.get i)
  rw [correctedSample_eq]
  simp only [zero_mul, add_zero, Int.zero_ediv, sub_zero]
  omega

/-! ## Low-pass and envelope -/

theorem filterValue_eq (lowPass : Nat) (y c : Int) : filterValue lowPass y c = y + (c - y) / 2 ^ lowPass := by
  rw [filterValue, Int.fdiv_eq_ediv_of_nonneg _ (by positivity)]

/-- The low-pass moves from the filter value before towards the corrected sample, and never past it (R23). -/
theorem filterValue_between (lowPass : Nat) (y c : Int) :
    min c y ≤ filterValue lowPass y c ∧ filterValue lowPass y c ≤ max c y := by
  rw [filterValue_eq]
  have pos : (0 : Int) < 2 ^ lowPass := by positivity
  rcases le_total y c with up | down
  · have low : 0 ≤ (c - y) / 2 ^ lowPass := Int.ediv_nonneg (by omega) pos.le
    have high : (c - y) / 2 ^ lowPass ≤ c - y := Int.ediv_le_self _ (by omega)
    omega
  · have low : c - y ≤ (c - y) / 2 ^ lowPass := (Int.le_ediv_iff_mul_le pos).mpr (by nlinarith)
    have high : (c - y) / 2 ^ lowPass ≤ 0 := Int.ediv_nonpos_of_nonpos_of_neg (by omega) pos
    omega

/-- The envelope decays by its share, or follows the magnitude of the filter value (R24). -/
theorem envelopeValue_eq (decay : Nat) (y : Int) (e : Nat) :
    (envelopeValue decay y e : Int) = max |y| (e - e / 2 ^ decay) := by
  have share : e / 2 ^ decay ≤ e := Nat.div_le_self _ _
  rw [envelopeValue, Nat.cast_max, Nat.cast_sub share, Int.natCast_natAbs]
  push_cast
  rfl

/-! ## The detector -/

/-- The tentative time after the look for a rising zero crossing (R28). -/
def tentativeAfter (n : BitVec 24) (yBefore y : Int) (st : InputStage) : Option Time :=
  if st.detector = .armed ∧ yBefore < 0 ∧ 0 ≤ y then some (crossingTime n yBefore y) else st.tentative

/-- The look for a crossing touches the tentative time alone (R28). -/
theorem lookForCrossing_eq (n : BitVec 24) (yBefore y : Int) (st : InputStage) :
    lookForCrossing n yBefore y st = { st with tentative := tentativeAfter n yBefore y st } := by
  unfold lookForCrossing tentativeAfter
  split <;> rfl

/-- An ARMED detector commits at y ≥ H (R29). -/
def Commits (halfBand : Nat) (y : Int) (st : InputStage) : Prop := st.detector = .armed ∧ (halfBand : Int) ≤ y

/-- A commit leaves the detector DISARMED with no tentative time (R29). -/
theorem commitAndArm_commits {halfBand : Nat} {y : Int} {st : InputStage} (pos : 1 ≤ halfBand) (h : Commits halfBand y st) :
    commitAndArm halfBand y st = { st with tentative := none, detector := .disarmed } := by
  obtain ⟨armed, reached⟩ := h
  have positive : ¬ y ≤ -(halfBand : Int) := by omega
  simp [commitAndArm, armed, reached, positive]

/-- Without a commit the detector only looks whether to arm (R29). -/
theorem commitAndArm_uncommitted {halfBand : Nat} {y : Int} {st : InputStage} (h : ¬ Commits halfBand y st) :
    commitAndArm halfBand y st =
      if y ≤ -(halfBand : Int) ∧ st.detector = .disarmed then { st with detector := .armed, tentative := none } else st := by
  unfold Commits at h
  simp only [commitAndArm, if_neg h]

/-- At y ≤ −H a DISARMED detector is armed with no tentative time, and an ARMED one keeps its own (R29). -/
theorem commitAndArm_arms {halfBand : Nat} {y : Int} {st : InputStage} (h : ¬ Commits halfBand y st)
    (low : y ≤ -(halfBand : Int)) :
    commitAndArm halfBand y st =
      { st with detector := .armed, tentative := if st.detector = .armed then st.tentative else none } := by
  rw [commitAndArm_uncommitted h]
  cases st with | mk y' e gate trough detector tentative committed => cases detector <;> simp [low]

/-- Anywhere else the detector stays as it is (R29). -/
theorem commitAndArm_stays {halfBand : Nat} {y : Int} {st : InputStage} (h : ¬ Commits halfBand y st)
    (high : -(halfBand : Int) < y) : commitAndArm halfBand y st = st := by
  rw [commitAndArm_uncommitted h, if_neg (by omega)]

theorem committedNow_commits {halfBand : Nat} {y : Int} {st : InputStage} (h : Commits halfBand y st) :
    committedNow halfBand y st = st.tentative := if_pos h

theorem committedNow_none {halfBand : Nat} {y : Int} {st : InputStage} (h : ¬ Commits halfBand y st) :
    committedNow halfBand y st = none := if_neg h

/-- Raw period delivery touches the last committed crossing time alone (R30). -/
theorem deliverPeriod_stage (n : BitVec 24) (commit : Option Time) (st : InputStage) :
    (deliverPeriod n commit st).1 = { st with committed := (deliverPeriod n commit st).1.committed } := by
  unfold deliverPeriod
  split
  · rfl
  · simp only
    split <;> rfl
  · split <;> rfl
  · rfl

/-- The commit and the arming touch the detector and the tentative time alone (R29). -/
theorem commitAndArm_stage (halfBand : Nat) (y : Int) (st : InputStage) :
    commitAndArm halfBand y st = { st with
      detector := (commitAndArm halfBand y st).detector, tentative := (commitAndArm halfBand y st).tentative } := by
  unfold commitAndArm
  simp only
  split <;> split <;> rfl

/-- The detector's part of an arrival touches the detector and the two crossing times alone (R28 to R30). -/
theorem detect_stage (n : BitVec 24) (halfBand : Nat) (yBefore : Int) (st : InputStage) :
    (detect n halfBand yBefore st).1 = { st with
      detector := (detect n halfBand yBefore st).1.detector, tentative := (detect n halfBand yBefore st).1.tentative
      committed := (detect n halfBand yBefore st).1.committed } := by
  rw [detect, deliverPeriod_stage, commitAndArm_stage, lookForCrossing_eq]

/-! ## One run of the stage -/

@[simp] theorem runStage_y (samples : PerString Word) (n : BitVec 24) (i : StringNo) (b : StringBlock) :
    (runStage samples n i b).stage.y =
      filterValue b.profile.lowPass b.stage.y (correctedSample samples b.crosstalk i) := by
  simp [runStage]

/-- The run's new envelope (R24). -/
theorem runStage_e (samples : PerString Word) (n : BitVec 24) (i : StringNo) (b : StringBlock) :
    (runStage samples n i b).stage.e =
      envelopeValue b.profile.decay (runStage samples n i b).stage.y b.stage.e := by
  rw [runStage_y]
  simp only [runStage]
  rw [detect_stage]

/-- The run's edge is chosen on its new envelope (R25 to R27). -/
theorem runStage_edge (samples : PerString Word) (n : BitVec 24) (i : StringNo) (b : StringBlock) :
    (runStage samples n i b).edge =
      chooseEdge b.profile b.tracker.state b.stage.gate b.stage.trough (runStage samples n i b).stage.e := by
  rw [runStage_e, runStage_y]
  rfl

theorem runStage_gate (samples : PerString Word) (n : BitVec 24) (i : StringNo) (b : StringBlock) :
    (runStage samples n i b).stage.gate = gateAfter b.profile (runStage samples n i b).stage.e b.stage.gate := by
  rw [runStage_e, runStage_y]
  rfl

theorem runStage_trough (samples : PerString Word) (n : BitVec 24) (i : StringNo) (b : StringBlock) :
    (runStage samples n i b).stage.trough =
      troughAfter b.profile b.tracker.state (runStage samples n i b).stage.e b.stage.trough := by
  rw [runStage_e, runStage_y]
  rfl

/-- The stage in which a run judges the commit: the new filter value and envelope, the look for a crossing taken, and the rest as
it stood (R20). -/
def lookedStage (samples : PerString Word) (n : BitVec 24) (i : StringNo) (b : StringBlock) : InputStage :=
  { b.stage with
    y := (runStage samples n i b).stage.y
    e := (runStage samples n i b).stage.e
    tentative := tentativeAfter n b.stage.y (runStage samples n i b).stage.y b.stage }

/-- A run delivers the period its commit gives (R28 to R30). -/
theorem runStage_delivers (samples : PerString Word) (n : BitVec 24) (i : StringNo) (b : StringBlock) :
    let r := runStage samples n i b
    let delivered := deliverPeriod n (committedNow b.profile.halfBand r.stage.y (lookedStage samples n i b))
      (commitAndArm b.profile.halfBand r.stage.y (lookedStage samples n i b))
    r.stage.detector = delivered.1.detector ∧ r.stage.tentative = delivered.1.tentative ∧
      r.stage.committed = delivered.1.committed ∧ r.period = delivered.2 := by
  intro r delivered
  have detected : delivered = detect n b.profile.halfBand b.stage.y { b.stage with y := r.stage.y, e := r.stage.e } := by
    rw [detect, lookForCrossing_eq]
    rfl
  rw [detected, show r.stage.e = _ from runStage_e samples n i b, show r.stage.y = _ from runStage_y samples n i b]
  exact ⟨rfl, rfl, rfl, rfl⟩

/-- Settles O12. -/
theorem correctionLowPassAndEnvelope : Obligations.CorrectionLowPassAndEnvelope := by
  refine ⟨fun samples x => ?corrected, correctedSample_uncoupled, fun i => ?coefficients, fun _ _ _ => rfl,
    fun _ => ⟨rfl, rfl⟩, fun samples n i b => ?run⟩
  case corrected =>
    simp only [correctedSample_eq, StringNo.lower, StringNo.higher, neighbourSample, mul_zero, add_zero, zero_add,
      and_self]
  case coefficients => cases i <;> rfl
  case run =>
    intro c r
    have y : r.stage.y = filterValue b.profile.lowPass b.stage.y c := runStage_y samples n i b
    have e : (r.stage.e : Int) = max |r.stage.y| (b.stage.e - b.stage.e / 2 ^ b.profile.decay) := by
      rw [show r.stage.e = _ from runStage_e samples n i b]
      exact envelopeValue_eq _ _ _
    obtain ⟨low, high⟩ := filterValue_between b.profile.lowPass b.stage.y c
    refine ⟨y.trans (filterValue_eq _ _ _), y ▸ low, y ▸ high, fun unfiltered => ?_, e, fun small => ?_⟩
    · rw [y, filterValue_eq, unfiltered, pow_zero, Int.ediv_one]
      omega
    · have none : (b.stage.e : Int) / 2 ^ b.profile.decay = 0 := by exact_mod_cast Nat.div_eq_of_lt small
      rw [e, none, sub_zero]

/-! ## Edge, gate and trough -/

theorem restrikes_iff (restrikeRise e : Nat) (trough : Option Nat) :
    restrikes restrikeRise e trough = true ↔ ∃ low, trough = some low ∧ 0 < restrikeRise ∧ low + restrikeRise ≤ e := by
  cases trough <;> simp [restrikes]

/-- The onset gate shuts at Th_on, opens below Th_off, and stays as it is between them (R25). -/
theorem gateAfter_cases (p : Profile) (e : Nat) (gate : OnsetGate) :
    (p.thOn ≤ e → gateAfter p e gate = .shut) ∧ (e < p.thOff → e < p.thOn → gateAfter p e gate = .opened) ∧
      (p.thOff ≤ e → e < p.thOn → gateAfter p e gate = gate) := by
  unfold gateAfter
  refine ⟨fun h => if_pos h, fun fall below => ?_, fun kept below => ?_⟩
  · rw [if_neg (by omega), if_pos fall]
  · rw [if_neg (by omega), if_neg (by omega)]

/-- ONSET is chosen in SILENT alone (R25). -/
theorem chooseEdge_onset_iff (p : Profile) (state : TrackerState) (gate : OnsetGate) (trough : Option Nat) (e : Nat) :
    chooseEdge p state gate trough e = some .onset ↔ state = .silent ∧ gate = .opened ∧ p.thOn ≤ e := by
  constructor
  · intro h
    obtain rfl := silent_of_chooseEdge_onset h
    simpa [chooseEdge] using h
  · rintro ⟨rfl, opened, reached⟩
    exact if_pos ⟨opened, reached⟩

/-- RESTRIKE comes first in both states of an open note, and is chosen in no other (R27). -/
theorem chooseEdge_restrike_iff (p : Profile) (state : TrackerState) (gate : OnsetGate) (trough : Option Nat) (e : Nat) :
    chooseEdge p state gate trough e = some .restrike ↔
      (state = .sounding ∨ state = .releasing) ∧ restrikes p.restrikeRise e trough = true := by
  cases state
  case sounding => by_cases h : restrikes p.restrikeRise e trough = true <;> simp [chooseEdge, h]
  case releasing => by_cases h : restrikes p.restrikeRise e trough = true <;> simp [chooseEdge, h]
  all_goals simp [chooseEdge]

/-- FALL is chosen in ATTACK, and in SOUNDING where no restrike comes first (R26, R27). -/
theorem chooseEdge_fall_iff (p : Profile) (state : TrackerState) (gate : OnsetGate) (trough : Option Nat) (e : Nat) :
    chooseEdge p state gate trough e = some .fall ↔ (state = .attack ∧ e < p.thOff) ∨
      (state = .sounding ∧ e < p.thOff ∧ ¬ restrikes p.restrikeRise e trough = true) := by
  cases state
  case sounding => by_cases h : restrikes p.restrikeRise e trough = true <;> simp [chooseEdge, h]
  case releasing => by_cases h : restrikes p.restrikeRise e trough = true <;> simp [chooseEdge, h]
  all_goals simp [chooseEdge]

/-- RISE is chosen in RELEASING where no restrike comes first (R26, R27). -/
theorem chooseEdge_rise_iff (p : Profile) (state : TrackerState) (gate : OnsetGate) (trough : Option Nat) (e : Nat) :
    chooseEdge p state gate trough e = some .rise ↔
      state = .releasing ∧ p.thOn ≤ e ∧ ¬ restrikes p.restrikeRise e trough = true := by
  cases state
  case sounding => by_cases h : restrikes p.restrikeRise e trough = true <;> simp [chooseEdge, h]
  case releasing => by_cases h : restrikes p.restrikeRise e trough = true <;> simp [chooseEdge, h]
  all_goals simp [chooseEdge]

/-- The trough of an open note is set to e by a restrike and follows the envelope down otherwise; with no note open it is left
(R27). -/
theorem troughAfter_cases (p : Profile) (state : TrackerState) (e : Nat) (trough : Option Nat) :
    let open_ := state = .sounding ∨ state = .releasing
    (open_ → restrikes p.restrikeRise e trough = true → troughAfter p state e trough = some e) ∧
      (open_ → ¬ restrikes p.restrikeRise e trough = true → troughAfter p state e trough = trough.map (min · e)) ∧
      (¬ open_ → troughAfter p state e trough = trough) := by
  intro open_
  unfold troughAfter
  refine ⟨fun h restrike => ?_, fun h still => ?_, fun h => if_neg h⟩
  · rw [if_pos h, if_pos restrike]
  · rw [if_pos h, if_neg still]
    exact congrArg (trough.map ·) (funext fun low => Nat.min_comm e low)

/-- Settles O13. -/
theorem edgeGateAndTrough : Obligations.EdgeGateAndTrough := by
  intro samples n i b r p e restrike open_
  have gate : r.stage.gate = gateAfter p e b.stage.gate := runStage_gate samples n i b
  have edge : r.edge = chooseEdge p b.tracker.state b.stage.gate b.stage.trough e := runStage_edge samples n i b
  have trough : r.stage.trough = troughAfter p b.tracker.state e b.stage.trough := runStage_trough samples n i b
  have restrikes : restrikes p.restrikeRise e b.stage.trough = true ↔ restrike := restrikes_iff _ _ _
  obtain ⟨shut, opened, kept⟩ := gateAfter_cases p e b.stage.gate
  obtain ⟨raised, lowered, left⟩ := troughAfter_cases p b.tracker.state e b.stage.trough
  rw [restrikes] at raised lowered
  rw [gate, edge, trough]
  refine ⟨shut, opened, kept, chooseEdge_onset_iff _ _ _ _ _, ?_, ?_, ?_, raised, lowered, left⟩
  · rw [chooseEdge_restrike_iff, restrikes]
  · rw [chooseEdge_fall_iff, restrikes]
  · rw [chooseEdge_rise_iff, restrikes]

/-! ## Crossing times and raw periods -/

/-- The frame time as the integer 256·n (R28). -/
theorem frameTime_ofInt (n : BitVec 24) : frameTime n = BitVec.ofInt 32 (256 * (n.toNat : Int)) := by
  have small := n.isLt
  rw [show (256 * (n.toNat : Int)) = ((256 * n.toNat : Nat) : Int) from by push_cast; rfl, BitVec.ofInt_natCast]
  apply BitVec.eq_of_toNat_eq
  simp only [frameTime, BitVec.toNat_mul, BitVec.toNat_setWidth, BitVec.toNat_ofNat, BitVec.ofNat_eq_ofNat]
  omega

/-- The tentative time of a rising crossing in the terms of R28. -/
theorem crossingTime_eq (n : BitVec 24) {a b : Int} (below : a < 0) (above : 0 ≤ b) :
    crossingTime n a b = BitVec.ofInt 32 (256 * ((n.toNat : Int) - 1) + 256 * (-a) / (b - a)) := by
  have rise : ((b - a).natAbs : Int) = b - a := Int.natAbs_of_nonneg (by omega)
  have depth : (a.natAbs : Int) = -a := Int.ofNat_natAbs_of_nonpos below.le
  have share : 256 * (-a) / (b - a) = ((256 * a.natAbs / (b - a).natAbs : Nat) : Int) := by
    rw [Int.natCast_ediv, Nat.cast_mul, rise, depth]
    rfl
  have before : 256 * ((n.toNat : Int) - 1) = 256 * (n.toNat : Int) + -256 := by ring
  rw [share, before, BitVec.ofInt_add, BitVec.ofInt_add, BitVec.ofInt_natCast, ← frameTime_ofInt]
  exact congrArg (· + _) (BitVec.sub_eq_add_neg (frameTime n) 256)

/-- The frame time as the product of R28. -/
theorem frameTime_eq (n : BitVec 24) : frameTime n = 256 * n.setWidth 32 := mul_comm _ _

/-- Without a commit no raw period is delivered, and the last committed time goes once it is older than the longest valid
period (R30). -/
theorem deliverPeriod_uncommitted (n : BitVec 24) (st : InputStage) :
    let aged := ∃ prev, st.committed = some prev ∧ 524287 < (256 * n.setWidth 32 - prev).toNat
    (deliverPeriod n none st).2 = none ∧ (aged → (deliverPeriod n none st).1.committed = none) ∧
      (¬ aged → (deliverPeriod n none st).1.committed = st.committed) := by
  rw [← frameTime_eq]
  unfold deliverPeriod Config.maxPeriod
  cases h : st.committed with
  | none => simp [h]
  | some prev =>
    simp only [Option.some.injEq, exists_eq_left']
    split <;> simp_all

/-- The first commit delivers no raw period (R30). -/
theorem deliverPeriod_first (n : BitVec 24) (now : Time) {st : InputStage} (h : st.committed = none) :
    deliverPeriod n (some now) st = ({ st with committed := some now }, none) := by
  simp [deliverPeriod, h]

/-- A later commit, by the distance from the one before (R30). -/
theorem deliverPeriod_later (n : BitVec 24) (now prev : Time) {st : InputStage} (h : st.committed = some prev) :
    deliverPeriod n (some now) st =
      if (now - prev).toNat < 4096 then (st, none)
      else ({ st with committed := some now },
        if (now - prev).toNat ≤ 524287 then some (now - prev).toNat else none) := by
  simp only [deliverPeriod, h]
  rfl

/-- The tentative time in the terms of R28. -/
theorem tentativeAfter_eq (n : BitVec 24) (a b : Int) (st : InputStage) :
    tentativeAfter n a b st =
      if st.detector = .armed ∧ a < 0 ∧ 0 ≤ b then
        some (BitVec.ofInt 32 (256 * ((n.toNat : Int) - 1) + 256 * (-a) / (b - a)))
      else st.tentative := by
  unfold tentativeAfter
  split
  · next h => rw [crossingTime_eq n h.2.1 h.2.2]
  · rfl

/-- Settles O14. -/
theorem crossingAndRawPeriod : Obligations.CrossingAndRawPeriod := by
  intro samples n i b pos r old half time seen commits aged
  have looks : (lookedStage samples n i b).tentative = seen := tentativeAfter_eq _ _ _ _
  have held : (commitAndArm b.profile.halfBand r.stage.y (lookedStage samples n i b)).committed = old.committed := by
    rw [commitAndArm_stage]
    rfl
  have judged : commits = Commits b.profile.halfBand r.stage.y (lookedStage samples n i b) := rfl
  obtain ⟨detector, tentative, committed, period⟩ := runStage_delivers samples n i b
  rw [deliverPeriod_stage] at detector tentative
  rw [judged]
  refine ⟨fun c => ?commits, fun c low => ?arms, fun c high => ?stays, fun now c hseen absent => ?first,
    fun now prev c hseen last => ?later, fun c => ?uncommitted⟩
  case commits =>
    rw [commitAndArm_commits pos c] at detector tentative
    exact ⟨detector, tentative⟩
  case arms =>
    rw [commitAndArm_arms c low, looks] at detector tentative
    exact ⟨detector, tentative⟩
  case stays =>
    rw [commitAndArm_stays c high] at detector tentative
    exact ⟨detector, tentative.trans looks⟩
  case first =>
    rw [committedNow_commits c, looks, hseen, deliverPeriod_first n now (held.trans absent)] at committed period
    exact ⟨committed, period⟩
  case later =>
    rw [committedNow_commits c, looks, hseen, deliverPeriod_later n now prev (held.trans last)] at committed period
    refine ⟨fun short => ?_, fun low high => ?_, fun long => ?_⟩
    · rw [if_pos short] at committed period
      exact ⟨committed.trans (held.trans last), period⟩
    · rw [if_neg (by omega), if_pos high] at committed period
      exact ⟨committed, period⟩
    · rw [if_neg (by omega), if_neg (by omega)] at committed period
      exact ⟨committed, period⟩
  case uncommitted =>
    obtain ⟨undelivered, goes, stays⟩ :=
      deliverPeriod_uncommitted n (commitAndArm b.profile.halfBand r.stage.y (lookedStage samples n i b))
    rw [committedNow_none c] at committed period
    rw [held] at goes stays
    exact ⟨period.trans undelivered, fun h => committed.trans (goes h), fun h => committed.trans (stays h)⟩

end Sys2Proof.Machine
end

section
/-!
PROOFS. The loads of a string's settings: LOAD PROFILE with the abort of a measurement (O49), LOAD ACTION and LOAD CROSSTALK
(O50).
-/

namespace Sys2Proof.Machine

open Sys2Proof.Safety

/-! ## Words and their fields -/

theorem clamp_eq {lo hi : Nat} (h : lo ≤ hi) (v : Nat) : clamp lo hi v = max lo (min hi v) := by
  unfold clamp
  split
  · omega
  · split <;> omega

@[simp] theorem payload_toNat (w : Payload) : payload w.toNat = w := by simp [payload]

/-- A value a word can carry reads back as given only as itself. -/
theorem payload_eq_iff {v : Nat} (h : v < 2 ^ 15) (w : Payload) : payload v = w ↔ v = w.toNat := by
  rw [← BitVec.toNat_inj, payload, BitVec.toNat_ofNat, Nat.mod_eq_of_lt h]

/-- A word read back as given was not clamped from above. -/
theorem payload_min_iff (hi : Nat) (w : Payload) : payload (min hi w.toNat) = w ↔ ¬ hi < w.toNat := by
  have := w.isLt
  rw [payload_eq_iff (by omega)]
  omega

/-- A word read back as given was not clamped from either side. -/
theorem payload_clamped_iff {lo hi : Nat} (h : lo ≤ hi) (hlo : lo < 2 ^ 15) (w : Payload) :
    payload (max lo (min hi w.toNat)) = w ↔ ¬ w.toNat < lo ∧ ¬ hi < w.toNat := by
  have := w.isLt
  rw [payload_eq_iff (by omega)]
  omega

@[simp] theorem stringOf_stringWord (i : StringNo) : stringOf (stringWord i) = some i := by
  cases i <;> rfl

/-- A command that names a string runs for that string (R174). -/
@[simp] theorem withString_stringWord (i : StringNo) (run : StringNo → State → Executed) (s : State) :
    withString (stringWord i) run s = run i s := by
  simp [withString]

theorem acceptUnless_congr {p q : Prop} [Decidable p] [Decidable q] (h : p ↔ q) : acceptUnless p = acceptUnless q :=
  if_congr h rfl rfl

theorem playing_iff (k : TrackerState) : k.playing = true ↔ k = .attack ∨ k = .sounding ∨ k = .releasing := by
  cases k <;> simp [TrackerState.playing]

/-! ## LOAD PROFILE -/

theorem Tap.ofCode_eq (n : Nat) :
    Tap.ofCode n = if n = 0 then .raw else if n = 1 then .corrected else if n = 2 then .filtered else .zero := by
  rcases n with _ | _ | _ | n <;> rfl

/-- A tap code above 3 reads back as 3 (R34). -/
theorem Tap.code_ofCode (n : Nat) : (Tap.ofCode n).code = min 3 n := by
  rcases n with _ | _ | _ | n
  · rfl
  · rfl
  · rfl
  · simp [Tap.ofCode, Tap.code]

/-- The settings and the cleared stage LOAD PROFILE leaves in a string's blocks (R31, R34). -/
def StringBlock.loadProfile (p : Profile) (b : StringBlock) : StringBlock := { b.clearStage with profile := p }

/-- The execution of LOAD PROFILE where the tracker does not play: the fields replaced, the reply placed, and then the string's
measurement aborted, if one is active (R34, R158, R191). -/
theorem exec_loadProfile (i : StringNo) (fields : List Payload) (p : Profile) (s : State) (h : executesAtOnce s)
    (hlen : fields.length = 18) (hp : profileOfWords fields = some p) (quiet : (s.string i).tracker.state.playing = false) :
    exec (.loadProfile (stringWord i :: fields)) s = .next (abortAndSeek i
      (replied .loadProfile (acceptUnless (profileWords p ≠ fields)) (withBlock i ((s.string i).loadProfile p) s))) := by
  have run : Command.loadProfile.run (stringWord i :: fields) s = takeProfile i fields p s := by
    simp [Command.run, runLoadProfile, hp, quiet]
  have reply : (takeProfile i fields p s).reply = acceptUnless (profileWords p ≠ fields) := (ite_not _ _ _).symm
  have state : (takeProfile i fields p s).state = abortRecord i (withBlock i ((s.string i).loadProfile p) s) := rfl
  rw [show Instr.loadProfile (stringWord i :: fields) = row .loadProfile (stringWord i :: fields) from rfl,
    exec_runs _ _ s h (by simp [hlen]) (by simp [Command.countAllowed, hlen]), run, reply, state]
  have commutes := forStrings_abortRecord_replied .loadProfile (acceptUnless (profileWords p ≠ fields)) [i]
    (withBlock i ((s.string i).loadProfile p) s)
  rw [forStrings_cons, forStrings_cons, forStrings_nil, forStrings_nil] at commutes
  rw [commutes]
  set loaded := replied .loadProfile (acceptUnless (profileWords p ≠ fields)) (withBlock i ((s.string i).loadProfile p) s)
  have string : loaded.string i = (s.string i).loadProfile p := PerString.get_set_self s.strings i _
  have record : (loaded.string i).record = (s.string i).record := (congrArg StringBlock.record string).trans rfl
  rcases eq_or_ne (s.string i).record.state .idle with idle | active
  · have none : (takeProfile i fields p s).aborted = [] := by simp [takeProfile, Measurement.active_eq, idle]
    rw [← record] at idle
    rw [none, forStrings_nil, abortRecord_idle i loaded idle, abortAndSeek_idle i loaded idle]
  · have own : (takeProfile i fields p s).aborted = [i] := by simp [takeProfile, Measurement.active_eq, active]
    rw [own]
    rfl

/-- LOAD PROFILE is refused where the tracker plays (R34). -/
theorem exec_loadProfile_busy (i : StringNo) (fields : List Payload) (p : Profile) (s : State) (h : executesAtOnce s)
    (hlen : fields.length = 18) (hp : profileOfWords fields = some p) (plays : (s.string i).tracker.state.playing = true) :
    exec (.loadProfile (stringWord i :: fields)) s = .next (replied .loadProfile (.refused .busy) s) := by
  refine exec_replies (c := .loadProfile) h (by simp [hlen]) (by simp [Command.countAllowed, hlen]) ?_
  simp [Command.run, runLoadProfile, hp, plays, refuse]

/-- Settles O49. -/
theorem loadProfileCommand : Obligations.LoadProfileCommand := by
  intro i l d h on off re ag gl ln ec gu rt dc ar ex db tap mon s atOnce b r sent plays p clamped loaded aborted
  let fields := [l, d, h, on, off, re, ag, gl, ln, ec, gu, rt, dc, ar, ex, db, tap, mon]
  have taken : profileOfWords fields = some p := by
    have thOn : clamp 1 32768 (on.toNat + 1) = on.toNat + 1 := by
      rw [clamp_eq (by decide)]
      omega
    have rise : min 32767 re.toNat = re.toNat := by omega
    simp only [fields, profileOfWords, thOn, Nat.add_sub_cancel, clamp_zero_le, rise, clamp_eq (show 4 ≤ 12 by decide),
      clamp_eq (show 1 ≤ 8191 by decide), clamp_eq (show 3 ≤ 8 by decide), clamp_eq (show 2 ≤ 15 by decide),
      clamp_eq (show 1 ≤ 1023 by decide), Tap.ofCode_eq]
    rfl
  have reads : profileWords p ≠ fields ↔ clamped := by
    have tapCode : p.tap.code = min 3 tap.toNat := by rw [← Tap.code_ofCode, Tap.ofCode_eq]
    have monCode : (if p.monitorStream = true then 1 else 0) = min 1 mon.toNat := by
      simp only [p, decide_eq_true_eq]
      split <;> omega
    rw [profileWords, tapCode, monCode]
    simp only [fields, p, Nat.add_sub_cancel, List.map_cons, List.map_nil, List.cons.injEq, payload_toNat, payload_min_iff,
      payload_clamped_iff (show 4 ≤ 12 by decide) (by decide), payload_clamped_iff (show 1 ≤ 8191 by decide) (by decide),
      payload_clamped_iff (show 3 ≤ 8 by decide) (by decide), payload_clamped_iff (show 2 ≤ 15 by decide) (by decide),
      payload_clamped_iff (show 1 ≤ 1023 by decide) (by decide), true_and, and_true, ne_eq]
    omega
  have quiet (h : ¬ plays) : b.tracker.state.playing = false := by
    rwa [← Bool.not_eq_true, playing_iff]
  have course (h : ¬ plays) : sent = .next (abortAndSeek i
      (replied .loadProfile (acceptUnless clamped) (withBlock i loaded s))) := by
    rw [← acceptUnless_congr reads]
    exact exec_loadProfile i fields p s atOnce rfl taken (quiet h)
  have string : (replied .loadProfile (acceptUnless clamped) (withBlock i loaded s)).string i = loaded :=
    PerString.get_set_self _ _ _
  refine ⟨fun h => ?busy, fun h idle => ?idle, fun h active room => ?placed, fun h active full => ?waits⟩
  case busy =>
    exact exec_loadProfile_busy i fields p s atOnce rfl taken ((playing_iff _).mpr h)
  case idle =>
    rw [course h, abortAndSeek_idle _ _ (by rw [string]; exact idle)]
  case placed =>
    rw [course h, abortAndSeek_placed _ _ (by rw [string]; exact active) (by simp [replied, withBlock]; omega),
      abortedResult, string]
    simp [replied, withBlock, State.modifyRecord, State.modifyString, Measurement.toIdle, Command.code, loaded, r, aborted]
  case waits =>
    rw [course h, abortAndSeek_waits _ _ (by rw [string]; exact active) (by simp [replied, withBlock]; omega)]
    simp [replied, withBlock, State.modifyRecord, State.modifyString, Measurement.finish, loaded, r, aborted]

/-! ## LOAD ACTION and LOAD CROSSTALK -/

theorem Style.code_ofCode (n : Nat) : (Style.ofCode n).code = min 2 n := by
  rcases n with _ | _ | n
  · rfl
  · rfl
  · simp [Style.ofCode, Style.code]

theorem Verdict.code_ofCode (n : Nat) : (Verdict.ofCode n).code = min 3 n := by
  rcases n with _ | _ | _ | n
  · rfl
  · rfl
  · rfl
  · simp [Verdict.ofCode, Verdict.code]

theorem LegatoMode.code_ofCode (n : Nat) : (LegatoMode.ofCode n).code = min 1 n := by
  rcases n with _ | n
  · rfl
  · simp [LegatoMode.ofCode, LegatoMode.code]

theorem BankSelect.code_ofCode (n : Nat) : (BankSelect.ofCode n).code = min 2 n := by
  rcases n with _ | _ | n
  · rfl
  · rfl
  · simp [BankSelect.ofCode, BankSelect.code]

/-- A mode code of two bits reads back as given (R111). -/
theorem SelectorMode.code_ofCode (n : Nat) : (SelectorMode.ofCode n).code = min 3 n := by
  rcases n with _ | _ | _ | n
  · rfl
  · rfl
  · rfl
  · simp [SelectorMode.ofCode, SelectorMode.code]

/-- A selector reads back as its word with the ignored bits at 0, and its fixed value clamped (R111, R129). -/
theorem selectorOfWords_words (word fixed : Payload) (top : Nat) :
    (selectorOfWords word fixed top).words.map payload = [word &&& 63, payload (min top fixed.toNat)] := by
  have bits : (word &&& 63).toNat = word.toNat % 64 := Nat.and_two_pow_sub_one_eq_mod word.toNat 6
  have low := word.isLt
  simp only [Selector.words, selectorOfWords, SelectorMode.code_ofCode, clamp_zero_le, List.map_cons, List.map_nil,
    List.cons.injEq, and_true]
  rw [payload_eq_iff (by simp only [field]; omega), bits]
  simp only [field, fieldOf, Fin.ofNat]
  omega

/-- A coefficient is clamped to the range of R21 (R22). -/
theorem clampCoefficient_eq (w : Payload) : clampCoefficient w = max (-128) (min 127 w.toInt) := clampInt_eq (by decide) _

/-- Settles O50. -/
theorem loadActionAndCrosstalkCommands : Obligations.LoadActionAndCrosstalkCommands := by
  intro i style ns nf vs vf ls lf span route legato bank mb amb cb acb po lo io hi low s atOnce b selector a clamped coefficient
  refine ⟨?action, ?crosstalk⟩
  case action =>
    let fields := [style, ns, nf, vs, vf, ls, lf, span, route, legato, bank, mb, amb, cb, acb, po, lo, io]
    have hselector (w fixed : Payload) (top : Nat) : selectorOfWords w fixed top = selector w fixed top := by
      simp only [selectorOfWords, fieldOf, clamp_zero_le, selector, pow_zero, Nat.div_one]
      rfl
    have taken : actionOfWords fields = some a := by
      simp only [fields, actionOfWords, hselector, clamp_zero_le, clamp_eq (show 1 ≤ 24 by decide)]
      rfl
    have reads : actionWords a ≠ withoutIgnored fields ↔ clamped := by
      have hstyle : a.style.code = min 2 style.toNat := Style.code_ofCode _
      have hroute : a.route.code = min 3 route.toNat := Verdict.code_ofCode _
      have hlegato : a.legato.code = min 1 legato.toNat := LegatoMode.code_ofCode _
      have hbank : a.bankSelect.code = min 2 bank.toNat := BankSelect.code_ofCode _
      have words (w fixed : Payload) (top : Nat) :
          (selector w fixed top).words.map payload = [w &&& 63, payload (min top fixed.toNat)] := by
        rw [← hselector]
        exact selectorOfWords_words w fixed top
      rw [actionWords, hstyle, hroute, hlegato, hbank]
      simp only [a, fields, withoutIgnored, List.map_cons, List.map_append, words, List.map_nil, List.cons_append,
        List.nil_append, List.cons.injEq, payload_min_iff, payload_clamped_iff (show 1 ≤ 24 by decide) (by decide), true_and,
        and_true, ne_eq]
      omega
    refine exec_replies (c := .loadAction) atOnce (by simp) rfl ?_
    rw [← acceptUnless_congr reads, ← carriedOut_eq]
    simp only [Command.run, runLoadAction]
    rw [taken]
    exact withString_stringWord i _ s
  case crosstalk =>
    refine exec_replies (c := .loadCrosstalk) atOnce (by simp) rfl ?_
    have clampedIff : (clampCoefficient hi ≠ hi.toInt ∨ clampCoefficient low ≠ low.toInt) ↔
        (hi.toInt < -128 ∨ 127 < hi.toInt ∨ low.toInt < -128 ∨ 127 < low.toInt) := by
      rw [clampCoefficient_eq, clampCoefficient_eq]
      omega
    rw [← acceptUnless_congr clampedIff, ← carriedOut_eq]
    simp only [Command.run, runLoadCrosstalk, withString_stringWord, clampCoefficient_eq]
    rfl

end Sys2Proof.Machine
end

section
/-!
PROOFS. The invariants of the strings' blocks: a property of the strings and TB alone that every command's run keeps is kept by
the command unit and the lane (`KeptByCommands`); the grids, settings and stages of the strings (O8); and the laws at power-on
(O4).
-/

namespace Sys2Proof.Machine

open Sys2Proof.Safety

/-! ## Properties of the strings and TB -/

/-- The property speaks of the strings and TB alone. -/
def OfStrings (P : State → Prop) : Prop :=
  ∀ {s t : State}, P s → t.strings = s.strings → t.divider.tickBase = s.divider.tickBase → P t

/-- A property of the strings and TB alone that every command's run keeps, and every record's search for a reply slot. -/
structure KeptByCommands (P : State → Prop) : Prop where
  ofStrings : OfStrings P
  run : ∀ (c : Command) (params : List Payload) (s : State), P s → P (c.run params s).state
  seek : ∀ (i : StringNo) (s : State), P s → P (seekSlot i s)

section

variable {P : State → Prop}

theorem KeptByCommands.execute (h : KeptByCommands P) (b : CommandBuffer) (s : State) (hs : P s) : P (execute b s) := by
  have ready : P { s with cu := .ready } := h.ofStrings hs rfl rfl
  have ran : P (runBuffer b { s with cu := .ready }).state := by
    unfold runBuffer
    split
    · exact ready
    · split
      · exact ready
      · exact h.run _ _ _ ready
  exact forStrings_keeps seekSlot h.seek _ _ (h.ofStrings ran rfl rfl)

theorem KeptByCommands.takeCommand (h : KeptByCommands P) (b : CommandBuffer) (s : State) (hs : P s) : P (takeCommand b s) := by
  unfold Machine.takeCommand
  split
  · exact h.execute b s hs
  · exact h.ofStrings hs rfl rfl

theorem KeptByCommands.startCommand (h : KeptByCommands P) (code : BitVec 7) (declared : Nat) (s : State) (hs : P s) :
    P (startCommand code declared s) := by
  unfold Machine.startCommand
  simp only
  split
  · exact h.takeCommand _ s hs
  · exact h.ofStrings hs rfl rfl

theorem KeptByCommands.takeWord (h : KeptByCommands P) (w : Word) (s : State) (hs : P s) : P (takeWord w s) := by
  unfold Machine.takeWord
  split
  · split
    · exact h.startCommand _ _ s hs
    · exact h.ofStrings hs rfl rfl
  · split
    · exact h.startCommand _ _ _ (h.ofStrings hs rfl rfl)
    · simp only
      split
      · exact h.takeCommand _ s hs
      · exact h.ofStrings hs rfl rfl
  · exact h.ofStrings hs rfl rfl

theorem KeptByCommands.sendCommand (h : KeptByCommands P) (code : BitVec 7) (params : List Payload) (s : State) (hs : P s) :
    P (sendCommand code params s) := by
  unfold Machine.sendCommand
  split
  · exact List.foldlRecOn _ _ hs fun t ht w _ => h.takeWord w t ht
  · exact hs

theorem KeptByCommands.grantSlot (h : KeptByCommands P) (s : State) (hs : P s) : P (grantSlot s) := by
  unfold Machine.grantSlot
  split
  · exact h.seek _ s hs
  · split
    · exact h.execute _ s hs
    · exact hs
    · exact hs

/-- A lane word slot keeps the property (R157, R159). -/
theorem KeptByCommands.afterLaneSlot (h : KeptByCommands P) (s : State) (hs : P s) : P (afterLaneSlot s) := by
  have begun (source : Source) (lane : Lane) : P { s.dropHead source with lane := lane } := by
    cases source <;> exact h.ofStrings hs rfl rfl
  unfold Machine.afterLaneSlot
  split
  · exact h.ofStrings hs rfl rfl
  · split
    · next source _ =>
      cases source
      · exact h.grantSlot _ (begun .rq _)
      · exact begun .eq _
      · exact begun .mq _
    · exact hs

theorem KeptByCommands.upstream (h : KeptByCommands P) (s : State) (hs : P s) : P (upstream s) := by
  have begun : P (s.doPart .upstream) := h.ofStrings hs rfl rfl
  unfold Machine.upstream
  split
  · exact h.ofStrings (h.afterLaneSlot _ (h.afterLaneSlot _ begun)) rfl rfl
  · exact hs

theorem KeptByCommands.takeDownstream (h : KeptByCommands P) (f : DownstreamFrame) (s : State) (hs : P s) :
    P (takeDownstream f s) := by
  unfold Machine.takeDownstream
  simp only
  split
  · exact h.takeWord _ _ (h.ofStrings hs rfl rfl)
  · exact h.ofStrings hs rfl rfl

theorem KeptByCommands.synthLinkUp (h : KeptByCommands P) (s : State) (hs : P s) : P (synthLinkUp s) := by
  rw [synthLinkUp_eq]
  exact h.ofStrings hs rfl rfl

/-- The link-loss effect is that of RESTART (R9, R183). -/
theorem KeptByCommands.synthLoss (h : KeptByCommands P) (s : State) (hs : P s) : P (synthLoss s) :=
  h.ofStrings (h.run .restart [] s hs) rfl rfl

/-- A downstream frame keeps the property (R8, R11). -/
theorem KeptByCommands.downstream (h : KeptByCommands P) (f : DownstreamFrame) (s : State) (hs : P s) : P (downstream f s) := by
  have counted : P { s with slu := { s.slu with syncRun := s.slu.syncRun + 1 } } := h.ofStrings hs rfl rfl
  unfold Machine.downstream syncedFrame unsyncedFrame
  split
  · split
    · simp only
      split
      · exact counted
      · exact h.takeDownstream f _ (h.ofStrings (h.synthLinkUp _ counted) rfl rfl)
    · exact h.takeDownstream f _ (h.ofStrings hs rfl rfl)
  · split
    · exact h.ofStrings hs rfl rfl
    · split
      · exact h.ofStrings hs rfl rfl
      · exact h.synthLoss s hs

end

/-! ## The three laws of a string's blocks -/

/-- A loaded grid is well-formed, and a string that is not MUTED has one (R52, R53). -/
def GridLawful (b : StringBlock) : Prop :=
  (∀ g, b.grid = some g → LoadedGrid g) ∧ (b.tracker.state ≠ .muted → b.grid.isSome = true)

/-- The settings of a string lie in their ranges (R21, R33, R110). -/
def SettingsLawful (b : StringBlock) : Prop :=
  profileInRange b.profile = true ∧ actionInRange b.action = true ∧ -128 ≤ b.crosstalk.kHi ∧ b.crosstalk.kHi ≤ 127 ∧
    -128 ≤ b.crosstalk.kLo ∧ b.crosstalk.kLo ≤ 127

/-- The filter value is a sample and the envelope at most 32,768 (R23, R24). -/
def StageLawful (st : InputStage) : Prop := -32768 ≤ st.y ∧ st.y ≤ 32767 ∧ st.e ≤ 32768

/-- The blocks of a string change so that each of the three laws is kept. -/
structure BlockKeeps (b c : StringBlock) : Prop where
  grid : GridLawful b → GridLawful c
  settings : SettingsLawful b → SettingsLawful c
  stage : StageLawful b.stage → StageLawful c.stage

theorem BlockKeeps.refl (b : StringBlock) : BlockKeeps b b := ⟨id, id, id⟩

theorem BlockKeeps.trans {b c d : StringBlock} (h : BlockKeeps b c) (k : BlockKeeps c d) : BlockKeeps b d :=
  ⟨k.grid ∘ h.grid, k.settings ∘ h.settings, k.stage ∘ h.stage⟩

theorem SettingsLawful.congr {b c : StringBlock} (h : SettingsKept b c) (law : SettingsLawful b) : SettingsLawful c := by
  unfold SettingsLawful
  rw [h.profile, h.action, h.crosstalk]
  exact law

/-- A grid that stays, with a tracker that leaves MUTED nowhere. -/
theorem GridLawful.congr {b c : StringBlock} (grid : c.grid = b.grid)
    (muted : b.tracker.state = .muted → c.tracker.state = .muted) (law : GridLawful b) : GridLawful c := by
  unfold GridLawful
  rw [grid]
  exact ⟨law.1, fun h => law.2 (mt muted h)⟩

/-- Blocks that keep their settings, leave MUTED nowhere and keep their stage's law. -/
theorem BlockKeeps.ofSettingsKept {b c : StringBlock} (h : SettingsKept b c)
    (muted : b.tracker.state = .muted → c.tracker.state = .muted) (stage : StageLawful b.stage → StageLawful c.stage) :
    BlockKeeps b c :=
  ⟨.congr h.grid muted, .congr h, stage⟩

/-- A stage that differs in its trough alone meets its law alike. -/
theorem StageLawful.congr {a b : InputStage} (h : b.withoutTrough = a.withoutTrough) (law : StageLawful a) : StageLawful b := by
  obtain ⟨y, e⟩ : b.y = a.y ∧ b.e = a.e := by
    unfold InputStage.withoutTrough at h
    exact ⟨(InputStage.mk.inj h).1, (InputStage.mk.inj h).2.1⟩
  unfold StageLawful
  rw [y, e]
  exact law

/-- A cleared stage meets its law (R31). -/
theorem stageLawful_clear (b : StringBlock) : StageLawful b.clearStage.stage :=
  ⟨(by decide : (-32768 : Int) ≤ 0), (by decide : (0 : Int) ≤ 32767), Nat.zero_le _⟩

/-- A run of the stage keeps its law (R23, R24). -/
theorem stageLawful_run (samples : PerString Word) (n : BitVec 24) (i : StringNo) (b : StringBlock) (law : StageLawful b.stage) :
    StageLawful (runStage samples n i b).stage := by
  obtain ⟨low, high, envelope⟩ := law
  obtain ⟨clow, chigh⟩ := correctedSample_range samples b.crosstalk i
  have y := filterValue_between b.profile.lowPass b.stage.y (correctedSample samples b.crosstalk i)
  rw [← runStage_y samples n i b] at y
  have e : (runStage samples n i b).stage.e ≤ max (runStage samples n i b).stage.y.natAbs b.stage.e := by
    rw [runStage_e]
    exact max_le_max le_rfl (Nat.sub_le _ _)
  exact ⟨by omega, by omega, by omega⟩

/-! ## The three laws of the part -/

/-- The part changes so that TB and every string keep their laws. -/
structure StringsKeep (s t : State) : Prop where
  tickBase : s.divider.tickBase ≤ 255 → t.divider.tickBase ≤ 255
  string : ∀ i, BlockKeeps (s.string i) (t.string i)

theorem StringsKeep.refl (s : State) : StringsKeep s s := ⟨id, fun _ => .refl _⟩

theorem StringsKeep.trans {s t u : State} (h : StringsKeep s t) (k : StringsKeep t u) : StringsKeep s u :=
  ⟨k.tickBase ∘ h.tickBase, fun i => (h.string i).trans (k.string i)⟩

/-- What keeps the laws string by string keeps the three laws of the part. -/
theorem StringsKeep.laws {s t : State} (h : StringsKeep s t) :
    (GridLaw s → GridLaw t) ∧ (SettingsLaw s → SettingsLaw t) ∧ (StageLaw s → StageLaw t) :=
  ⟨fun law i => (h.string i).grid (law i), fun law => ⟨h.tickBase law.1, fun i => (h.string i).settings (law.2 i)⟩,
    fun law i => (h.string i).stage (law i)⟩

theorem stringsKeep_ofStrings (s : State) : OfStrings (StringsKeep s) := by
  intro t u h strings tickBase
  refine h.trans ⟨fun le => tickBase ▸ le, fun i => ?_⟩
  rw [show u.string i = t.string i from congrArg (PerString.get · i) strings]
  exact .refl _

/-- A change before the event that no string's blocks enter. -/
theorem StringsKeep.ofEqBefore {s t u : State} (h : StringsKeep t u) (strings : t.strings = s.strings)
    (tickBase : t.divider.tickBase = s.divider.tickBase) : StringsKeep s u :=
  (stringsKeep_ofStrings s (.refl s) strings tickBase).trans h

theorem StringsKeep.modifyString (i : StringNo) (f : StringBlock → StringBlock) (s : State)
    (h : BlockKeeps (s.string i) (f (s.string i))) : StringsKeep s (s.modifyString i f) := by
  refine ⟨id, fun j => ?_⟩
  rw [State.string_modifyString]
  split
  · next e => exact e ▸ h
  · exact .refl _

theorem StringsKeep.modifyAll (f : StringBlock → StringBlock) (s : State) (h : ∀ b, BlockKeeps b (f b)) :
    StringsKeep s (s.modifyAll f) :=
  ⟨id, fun i => by rw [State.modifyAll_string]; exact h _⟩

theorem forStrings_stringsKeep (event : StringNo → State → State) (h : ∀ i s, StringsKeep s (event i s))
    (strings : List StringNo) (s : State) : StringsKeep s (forStrings strings event s) :=
  forStrings_relates StringsKeep.refl (fun _ _ _ => .trans) event h strings s

/-- The tracker does not leave MUTED. -/
def StaysMuted (i : StringNo) (s t : State) : Prop :=
  (s.string i).tracker.state = .muted → (t.string i).tracker.state = .muted

theorem StaysMuted.refl (i : StringNo) (s : State) : StaysMuted i s s := id

theorem StaysMuted.trans {i : StringNo} {s t u : State} (h : StaysMuted i s t) (k : StaysMuted i t u) : StaysMuted i s u := k ∘ h

/-- An event that leaves the tracker's state leaves it MUTED. -/
theorem StaysMuted.of_state {i : StringNo} {s t : State} (h : (t.string i).tracker.state = (s.string i).tracker.state) :
    StaysMuted i s t := fun muted => h.trans muted

theorem OneRecord.staysMuted {i : StringNo} {s t : State} (h : OneRecord i s t) : StaysMuted i s t :=
  .of_state (by rw [h.block])

/-- An event of one string that does not leave MUTED keeps the three laws. -/
theorem OneString.stringsKeep {i : StringNo} {s t : State} (h : OneString i s t) (muted : StaysMuted i s t) : StringsKeep s t := by
  refine ⟨fun le => h.divider ▸ le, fun j => ?_⟩
  rcases eq_or_ne j i with rfl | hj
  · exact .ofSettingsKept ⟨h.profile, h.crosstalk, h.grid, h.action⟩ muted (.congr h.stage)
  · rw [h.others j hj]
    exact .refl _

theorem OneRecord.stringsKeep {i : StringNo} {s t : State} (h : OneRecord i s t) : StringsKeep s t :=
  h.oneString.stringsKeep h.staysMuted

/-! ## No event of a tracker leaves MUTED -/

theorem laterMessage_string (i j : StringNo) (m : TrackerMessage) (s : State) :
    (laterMessage i m s).state.string j = s.string j := by
  unfold laterMessage
  split
  · rfl
  · split
    · exact (crossTracker_queuesOnly i _ _ m s).string j
    · rfl

/-- Building a PITCH leaves the tracker's state (R84, R85). -/
theorem buildPitch_state (i : StringNo) (cause : PitchCause) (s : State) :
    ((buildPitch i cause s).string i).tracker.state = (s.string i).tracker.state := by
  unfold buildPitch
  split
  · rfl
  · simp only
    split
    · split
      · rw [State.modifyContext_string, laterMessage_string]
      · rw [laterMessage_string]
    · rfl

/-- A MUTED tracker takes no edge (R25 to R27). -/
theorem takeEdge_muted (i : StringNo) (edge : Edge) (s : State) (h : (s.string i).tracker.state = .muted) :
    takeEdge i edge s = s := by
  cases edge <;> simp only [takeEdge, h]

theorem takePitch_muted (i : StringNo) (o : LockOutcome) (found : GridOutcome × Nat) (s : State)
    (h : (s.string i).tracker.state = .muted) : takePitch i o found s = s := by
  simp only [takePitch, h]

theorem noteRange_string (o : GridOutcome) (s : State) (i : StringNo) : (noteRange o s).string i = s.string i := by
  cases o <;> rfl

theorem takeReportedEdge_staysMuted (i : StringNo) (edge : Option Edge) (s : State) :
    StaysMuted i s (takeReportedEdge i edge s) := by
  intro muted
  cases edge with
  | none => exact muted
  | some edge => rw [takeReportedEdge, Option.elim_some, takeEdge_muted i edge s muted, muted]

theorem takeLocking_staysMuted (i : StringNo) (o : LockOutcome) (a : Nat) (s : State) : StaysMuted i s (takeLocking i o a s) := by
  intro muted
  have pitched (found : GridOutcome × Nat) :
      ((takePitch i o found (noteRange found.1 s)).string i).tracker.state = .muted := by
    rw [takePitch_muted i o found _ (by rw [noteRange_string, muted]), noteRange_string, muted]
  unfold takeLocking
  simp only
  split
  · exact muted
  · split
    · split
      · exact (congrArg (·.tracker.state) ((placeMonitor_queuesOnly _ _).string i)).trans (pitched _)
      · exact pitched _
    · exact muted

theorem takeOutcome_staysMuted (i : StringNo) (o : LockOutcome) (accepted : Option Nat) (s : State) :
    StaysMuted i s (takeOutcome i o accepted s) := by
  unfold takeOutcome
  split
  · split
    · exact .of_state rfl
    · exact .refl i s
  · split
    · exact takeLocking_staysMuted i o _ s
    · exact .refl i s
  · exact .refl i s

theorem takePeriod_staysMuted (i : StringNo) (p : Nat) (s : State) : StaysMuted i s (takePeriod i p s) := by
  unfold takePeriod
  refine StaysMuted.trans (.of_state ?_)
    ((takeOutcome_staysMuted i _ _ _).trans (recordPeriod_touches i p _).staysMuted)
  rw [State.modifyString_string]

/-- The reports of a turn leave a MUTED tracker MUTED (R25 to R27, R92, R95). -/
theorem deliverReports_staysMuted (i : StringNo) (edge : Option Edge) (period : Option Nat) (s : State) :
    StaysMuted i s (deliverReports i edge period s) := by
  cases period with
  | none => rw [deliverReports_none]; exact takeReportedEdge_staysMuted i edge s
  | some p =>
    rw [deliverReports_some]
    exact (takeReportedEdge_staysMuted i edge s).trans (takePeriod_staysMuted i p _)

/-! ## No tick leaves MUTED -/

theorem modifyTimers_staysMuted (i : StringNo) (f : Timers → Timers) (s : State) : StaysMuted i s (s.modifyTimers i f) :=
  .of_state (by rw [State.modifyTimers_string])

theorem modifyTicked_staysMuted (i : StringNo) (f : TickTaken → TickTaken) (s : State) : StaysMuted i s (s.modifyTicked i f) :=
  .of_state (by rw [State.modifyTicked_string])

theorem takeGiveUp_staysMuted (i : StringNo) (s : State) : StaysMuted i s (takeGiveUp i s) := by
  intro muted
  rw [takeGiveUp, if_neg (by simp [muted])]
  exact muted

theorem takeEarlyPoint_staysMuted (i : StringNo) (s : State) : StaysMuted i s (takeEarlyPoint i s) := by
  intro muted
  rw [takeEarlyPoint, if_neg (by simp [muted])]
  exact muted

theorem takeReleaseExpiry_staysMuted (i : StringNo) (s : State) : StaysMuted i s (takeReleaseExpiry i s) := by
  intro muted
  rw [takeReleaseExpiry, if_neg (by simp [muted])]
  exact muted

theorem takeUpdateExpiry_staysMuted (i : StringNo) (s : State) : StaysMuted i s (takeUpdateExpiry i s) := by
  unfold takeUpdateExpiry
  split
  · exact .of_state (buildPitch_state i _ s)
  · exact .refl i s

theorem attackTick_staysMuted (i : StringNo) (s : State) : StaysMuted i s (attackTick i s) := by
  unfold attackTick
  simp only
  split
  · exact (modifyTimers_staysMuted i _ s).trans (takeGiveUp_staysMuted i _)
  · split
    · exact (modifyTimers_staysMuted i _ s).trans (takeEarlyPoint_staysMuted i _)
    · exact modifyTimers_staysMuted i _ s

theorem releaseTick_staysMuted (i : StringNo) (s : State) : StaysMuted i s (releaseTick i s) := by
  unfold releaseTick
  simp only
  split
  · exact (modifyTimers_staysMuted i _ s).trans (takeReleaseExpiry_staysMuted i _)
  · exact modifyTimers_staysMuted i _ s

theorem updateTick_staysMuted (i : StringNo) (s : State) : StaysMuted i s (updateTick i s) := by
  unfold updateTick
  simp only
  split
  · exact (modifyTimers_staysMuted i _ s).trans (takeUpdateExpiry_staysMuted i _)
  · exact modifyTimers_staysMuted i _ s

theorem attackOnce_stringsKeep (i : StringNo) (s : State) : StringsKeep s (attackOnce i s) := by
  refine (attackOnce_touches i s).stringsKeep ?_
  unfold attackOnce
  split
  · exact .refl i s
  · exact (modifyTicked_staysMuted i _ s).trans (attackTick_staysMuted i _)

theorem releaseOnce_stringsKeep (i : StringNo) (s : State) : StringsKeep s (releaseOnce i s) := by
  refine (releaseOnce_touches i s).stringsKeep ?_
  unfold releaseOnce
  split
  · exact .refl i s
  · exact (modifyTicked_staysMuted i _ s).trans (releaseTick_staysMuted i _)

theorem updateOnce_stringsKeep (i : StringNo) (s : State) : StringsKeep s (updateOnce i s) := by
  refine (updateOnce_touches i s).stringsKeep ?_
  unfold updateOnce
  split
  · exact .refl i s
  · exact (modifyTicked_staysMuted i _ s).trans (updateTick_staysMuted i _)

theorem recordOnce_stringsKeep (i : StringNo) (s : State) : StringsKeep s (recordOnce i s) := by
  refine (recordOnce_touches i s).stringsKeep ?_
  unfold recordOnce
  split
  · exact .refl i s
  · exact (modifyTicked_staysMuted i _ s).trans (recordTick_touches i _).staysMuted

theorem quietTimers_stringsKeep (i : StringNo) (s : State) : StringsKeep s (quietTimers i s) := by
  have skip (c : Bool) (f : State → State) (hf : ∀ r, StringsKeep r (f r)) (r : State) (h : StringsKeep s r) :
      StringsKeep s (if c = true then r else f r) := by
    split
    · exact h
    · exact h.trans (hf r)
  exact skip _ _ (updateOnce_stringsKeep i) _ (skip _ _ (releaseOnce_stringsKeep i) _
    (skip _ _ (attackOnce_stringsKeep i) _ (.refl s)))

/-- A tick's delivery to one string keeps the three laws (R68). -/
theorem stringTick_stringsKeep (i : StringNo) (s : State) : StringsKeep s (stringTick i s) :=
  ((((quietTimers_stringsKeep i s).trans (attackOnce_stringsKeep i _)).trans (releaseOnce_stringsKeep i _)).trans
    (updateOnce_stringsKeep i _)).trans (recordOnce_stringsKeep i _)

/-- Clearing the marks of the tick and reloading the divider count touches none of the three laws (R68). -/
theorem reloaded_stringsKeep (s : State) : StringsKeep s (reloaded s) :=
  ⟨id, fun i => by rw [reloaded_string]; exact .ofSettingsKept ⟨rfl, rfl, rfl, rfl⟩ id id⟩

theorem dividerPeriod_stringsKeep (s : State) : StringsKeep s (dividerPeriod s) := by
  unfold dividerPeriod
  split
  · split
    · exact stringsKeep_ofStrings s (.refl s) rfl rfl
    · rw [underflow_eq]
      exact (forStrings_stringsKeep stringTick stringTick_stringsKeep allStrings s).trans (reloaded_stringsKeep _)
  · exact .refl s

/-! ## Frame arrivals and the teardown -/

theorem leaveStage_stringsKeep (samples : PerString Word) (n : BitVec 24) (i : StringNo) (s : State) :
    StringsKeep s (leaveStage i (runStage samples n i (s.string i)) s) :=
  stringsKeep_ofStrings s
    (StringsKeep.modifyString i (fun b => { b with stage := (runStage samples n i (s.string i)).stage }) s
      (.ofSettingsKept ⟨rfl, rfl, rfl, rfl⟩ id (stageLawful_run samples n i _))) rfl rfl

theorem followPeak_staysMuted (i : StringNo) (s : State) : StaysMuted i s (followPeak i s) := by
  refine .of_state ?_
  rw [followPeak, State.modifyString_string]
  split <;> rfl

/-- One string's turn at an arrival keeps the three laws (R20). -/
theorem stringArrival_stringsKeep (samples : PerString Word) (i : StringNo) (s : State) :
    StringsKeep s (stringArrival samples i s) :=
  (leaveStage_stringsKeep samples s.plu.frameNo i s).trans
    ((stringArrival_reports samples i s).stringsKeep
      ((followPeak_staysMuted i _).trans (deliverReports_staysMuted i _ _ _)))

theorem frameArrival_stringsKeep (samples : PerString Word) (order : List StringNo) (s : State) :
    StringsKeep s (frameArrival samples order s) :=
  (forStrings_stringsKeep _ (stringArrival_stringsKeep samples) (servedOrder order allStrings)
    { s with plu := { s.plu with frameNo := s.plu.frameNo + 1 } }).ofEqBefore rfl rfl

theorem teardownLast_stringsKeep (s : State) : StringsKeep s (teardownLast s) := ⟨id, fun _ => .refl _⟩

/-- The teardown keeps the three laws: it mutes and unmutes no tracker, and a cleared stage is lawful (R6). -/
theorem pickupTeardown_stringsKeep (s : State) : StringsKeep s (pickupTeardown s) := by
  have ended : StringsKeep s (forStrings allStrings linkEnd s) :=
    forStrings_stringsKeep linkEnd (fun i t => (linkEnd_touches i t).stringsKeep (.of_state (endNote_state i .link t))) _ s
  have silence (b : StringBlock) : BlockKeeps b b.silence :=
    .ofSettingsKept ⟨rfl, rfl, rfl, rfl⟩ (fun h => by simp [h]) (StageLawful.congr rfl)
  have clear (b : StringBlock) : BlockKeeps b b.clearStage :=
    .ofSettingsKept ⟨rfl, rfl, rfl, rfl⟩ id fun _ => stageLawful_clear b
  have cleared : StringsKeep s (teardownCleared s) := (ended.trans (.modifyAll _ _ silence)).trans (.modifyAll _ _ clear)
  rw [pickupTeardown_eq]
  exact (cleared.trans
    (forStrings_stringsKeep abortAndSeek (fun i t => (abortAndSeek_touches i t).stringsKeep) _ _)).trans
    (teardownLast_stringsKeep _)

theorem repeatLast_stringsKeep (badRun : Nat) (order : List StringNo) (s : State) :
    StringsKeep s (repeatLast badRun order s) := by
  unfold repeatLast
  simp only
  split
  · exact (frameArrival_stringsKeep _ order _).ofEqBefore rfl rfl
  · exact stringsKeep_ofStrings s (.refl s) rfl rfl

/-- A slot of the pickup link keeps the three laws (R2 to R5). -/
theorem pickupSlot_stringsKeep (f : PickupFrame) (order : List StringNo) (s : State) : StringsKeep s (pickupSlot f order s) := by
  have good (g : GoodFrame) (t : State) (h : t.strings = s.strings) (hd : t.divider = s.divider) :
      StringsKeep s (deliverGood g order t) :=
    (frameArrival_stringsKeep _ order _).ofEqBefore h (congrArg Divider.tickBase hd)
  have noted : StringsKeep s (noteBadFrame (s.doPart .slot)) := stringsKeep_ofStrings s (.refl s) rfl rfl
  unfold pickupSlot judgeSlot
  split
  · split
    · split
      · unfold goodWhileSearching
        simp only
        split
        · exact stringsKeep_ofStrings s (.refl s) rfl rfl
        · exact good _ _ rfl rfl
      · exact good _ _ rfl rfl
      · exact good _ _ rfl rfl
    · unfold badFrame
      split
      · exact stringsKeep_ofStrings s (.refl s) rfl rfl
      · exact noted.trans (repeatLast_stringsKeep _ order _)
      · split
        · exact noted.trans (repeatLast_stringsKeep _ order _)
        · exact noted.trans ((pickupTeardown_stringsKeep _).ofEqBefore rfl rfl)
  · exact .refl s

/-! ## What the commands load -/

theorem strictlyDecreasing_iff (l : List Nat) : strictlyDecreasing l = true ↔ l.Pairwise (· > ·) := by
  rw [← List.isChain_iff_pairwise]
  induction l with
  | nil => simp [strictlyDecreasing]
  | cons a rest ih =>
    cases rest with
    | nil => simp [strictlyDecreasing]
    | cons b rest => rw [strictlyDecreasing, Bool.and_eq_true, ih, decide_eq_true_eq, List.isChain_cons_cons]

/-- The content checks pass exactly the grids of R52 (R56). -/
theorem gridValid_iff (g : Grid) : g.valid = true ↔ LoadedGrid g := by
  rw [Grid.valid, Bool.and_eq_true, Bool.and_eq_true, strictlyDecreasing_iff, List.all_eq_true, decide_eq_true_eq]
  constructor
  · rintro ⟨⟨⟨few, many, _, top⟩, range⟩, decreasing⟩
    exact ⟨⟨few, many⟩, by omega, fun p hp => of_decide_eq_true (range p hp), decreasing⟩
  · rintro ⟨⟨few, many⟩, top, range, decreasing⟩
    exact ⟨⟨⟨few, many, by omega, by omega⟩, fun p hp => decide_eq_true (range p hp)⟩, decreasing⟩

/-- A grid made of words has passed the content checks (R56). -/
theorem loadedGrid_of_words {base : Payload} {entries : List Payload} {g : Grid} (h : gridOfWords base entries = some g) :
    LoadedGrid g := by
  obtain ⟨gs, _, checked⟩ := Option.bind_eq_some_iff.mp h
  split at checked
  · next valid =>
    obtain rfl := Option.some.inj checked
    exact (gridValid_iff _).mp valid
  · cases checked

theorem clamp_range {lo hi : Nat} (h : lo ≤ hi) (v : Nat) : lo ≤ clamp lo hi v ∧ clamp lo hi v ≤ hi := by
  rw [clamp_eq h]
  omega

/-- A loaded profile lies in range (R33, R34). -/
theorem profileInRange_of_words {fields : List Payload} {p : Profile} (h : profileOfWords fields = some p) :
    profileInRange p = true := by
  unfold profileOfWords at h
  split at h
  · obtain rfl := Option.some.inj h
    have thOn := clamp_range (show 1 ≤ 32768 by decide)
    have thOff (v w : Nat) : clamp 0 (clamp 1 32768 v - 1) w < clamp 1 32768 v := by
      have := thOn v
      rw [clamp_zero_le]
      omega
    simp only [profileInRange, Bool.and_eq_true, decide_eq_true_eq, clamp_range, zero_le, thOff, Nat.reduceLeDiff, and_self]
  · cases h

/-- A loaded action entry lies in range (R110, R111). -/
theorem actionInRange_of_words {fields : List Payload} {a : Action} (h : actionOfWords fields = some a) :
    actionInRange a = true := by
  unfold actionOfWords at h
  split at h
  · obtain rfl := Option.some.inj h
    simp only [actionInRange, selectorOfWords, decide_eq_true_eq, clamp_range, zero_le, Nat.reduceLeDiff, and_self]
  · cases h

/-- A coefficient that is loaded lies in range (R21, R22). -/
theorem clampCoefficient_range (w : Payload) : -128 ≤ clampCoefficient w ∧ clampCoefficient w ≤ 127 := by
  rw [clampCoefficient_eq]
  omega

/-! ## The runs of the commands -/

theorem withString_keeps {P : State → Prop} (word : Payload) (run : StringNo → State → Executed) (s : State) (refused : P s)
    (named : ∀ i, P (run i s).state) : P (withString word run s).state := by
  unfold withString
  split
  · exact refused
  · exact named _

theorem withTable_keeps {P : State → Prop} (word : Payload) (run : Fin 4 → State → Executed) (s : State) (refused : P s)
    (named : ∀ n, P (run n s).state) : P (withTable word run s).state := by
  unfold withTable
  split
  · exact refused
  · exact named _

theorem carriedOut_stringsKeep {s t : State} (adjusted : Bool) (h : StringsKeep s t) :
    StringsKeep s (carriedOut adjusted t).state := h

theorem runLoadGrid_stringsKeep (params : List Payload) (s : State) : StringsKeep s (runLoadGrid params s).state := by
  unfold runLoadGrid
  split
  · refine withString_keeps _ _ _ (.refl s) fun i => ?_
    split
    · exact .refl s
    · split
      · exact .refl s
      · next g hg =>
        refine carriedOut_stringsKeep _ (.modifyString i _ s ⟨fun _ => ⟨fun g' h => ?_, fun _ => rfl⟩, id, id⟩)
        obtain rfl := Option.some.inj h
        exact loadedGrid_of_words hg
  · exact .refl s

theorem runLoadProfile_stringsKeep (params : List Payload) (s : State) : StringsKeep s (runLoadProfile params s).state := by
  unfold runLoadProfile
  split
  · split
    · exact .refl s
    · next p hp =>
      refine withString_keeps _ _ _ (.refl s) fun i => ?_
      split
      · exact .refl s
      · have loaded : StringsKeep s (s.modifyString i (·.loadProfile p)) :=
          .modifyString i _ s ⟨.congr rfl id, fun law => ⟨profileInRange_of_words hp, law.2⟩, fun _ => stageLawful_clear _⟩
        exact loaded.trans (abortRecord_touches i _).stringsKeep
  · exact .refl s

theorem runLoadAction_stringsKeep (params : List Payload) (s : State) : StringsKeep s (runLoadAction params s).state := by
  unfold runLoadAction
  split
  · split
    · exact .refl s
    · next a ha =>
      refine withString_keeps _ _ _ (.refl s) fun i => ?_
      exact carriedOut_stringsKeep _
        (.modifyString i _ s ⟨id, fun ⟨profile, _, crosstalk⟩ => ⟨profile, actionInRange_of_words ha, crosstalk⟩, id⟩)
  · exact .refl s

theorem runLoadCrosstalk_stringsKeep (params : List Payload) (s : State) : StringsKeep s (runLoadCrosstalk params s).state := by
  unfold runLoadCrosstalk
  split
  · next hi low =>
    refine withString_keeps _ _ _ (.refl s) fun i => carriedOut_stringsKeep _ (.modifyString i _ s ⟨id, ?_, id⟩)
    obtain ⟨least, most⟩ := clampCoefficient_range hi
    exact fun ⟨profile, action, _⟩ => ⟨profile, action, least, most, clampCoefficient_range low⟩
  · exact .refl s

theorem runSetTick_stringsKeep (params : List Payload) (s : State) : StringsKeep s (runSetTick params s).state := by
  unfold runSetTick
  split
  · exact ⟨fun _ => (clamp_range (show 0 ≤ 255 by decide) _).2, fun _ => .refl _⟩
  · exact .refl s

theorem runSetStyle_stringsKeep (params : List Payload) (s : State) : StringsKeep s (runSetStyle params s).state := by
  unfold runSetStyle
  split
  · exact forStrings_stringsKeep _ (fun i t => .modifyString i _ t ⟨id, id, id⟩) _ s
  · exact .refl s

/-- Strings that have a grid may leave MUTED (R53, R89). -/
theorem forStrings_onString_stringsKeep (strings : List StringNo) (s : State)
    (loaded : ∀ i ∈ strings, (s.string i).grid.isSome = true) : StringsKeep s (forStrings strings onString s) := by
  induction strings generalizing s with
  | nil => exact .refl s
  | cons i rest ih =>
    have on : StringsKeep s (onString i s) := by
      unfold onString
      split
      · exact .modifyString i _ s ⟨fun law => ⟨law.1, fun _ => loaded i List.mem_cons_self⟩, id, id⟩
      · exact .refl s
    refine on.trans (ih (onString i s) fun j hj => ?_)
    rw [((onString_touches i s).oneString.sharedKept.settings j).grid]
    exact loaded j (List.mem_cons_of_mem i hj)

theorem runStringOn_stringsKeep (params : List Payload) (s : State) : StringsKeep s (runStringOn params s).state := by
  unfold runStringOn
  split
  · split
    · exact .refl s
    · next loaded =>
      refine forStrings_onString_stringsKeep _ s fun i hi => ?_
      by_contra empty
      exact loaded (List.any_eq_true.mpr ⟨i, hi, by simpa using empty⟩)
  · exact .refl s

theorem offString_staysMuted (i : StringNo) (s : State) : StaysMuted i s (offString i s) := by
  intro muted
  simp only [offString, muted]

theorem panicString_staysMuted (i : StringNo) (s : State) : StaysMuted i s (panicString i s) := by
  intro muted
  simp only [panicString, muted]

theorem runStringOff_stringsKeep (params : List Payload) (s : State) : StringsKeep s (runStringOff params s).state := by
  unfold runStringOff
  split
  · exact forStrings_stringsKeep _ (fun i t => (offString_touches i t).oneString.stringsKeep (offString_staysMuted i t)) _ s
  · exact .refl s

theorem runAllNotesEnd_stringsKeep (params : List Payload) (s : State) : StringsKeep s (runAllNotesEnd params s).state := by
  unfold runAllNotesEnd
  split
  · exact forStrings_stringsKeep _ (fun i t => (panicString_touches i t).oneString.stringsKeep (panicString_staysMuted i t)) _ s
  · exact .refl s

theorem runMeasure_stringsKeep (params : List Payload) (s : State) : StringsKeep s (runMeasure params s).state := by
  unfold runMeasure
  split
  · refine withString_keeps _ _ _ (.refl s) fun i => ?_
    split
    · exact .refl s
    · exact carriedOut_stringsKeep _ (OneRecord.modifyRecord i _ s).stringsKeep
  · exact .refl s

theorem runMeasureCancel_stringsKeep (params : List Payload) (s : State) : StringsKeep s (runMeasureCancel params s).state := by
  unfold runMeasureCancel
  split
  · refine withString_keeps _ _ _ (.refl s) fun i => ?_
    split
    · exact (OneRecord.modifyRecord i _ s).stringsKeep
    · exact .refl s
  · exact .refl s

/-- INJECT touches no string's blocks (R128, R138). -/
theorem runInject_stringsKeep (params : List Payload) (s : State) : StringsKeep s (runInject params s).state := by
  have crossed (point : InjectPoint) (j : Injection) (clamped : Bool) :
      StringsKeep s (injectReply clamped (crossInjected point j s)).state := by
    have queues := crossInjected_queuesOnly point j s
    unfold injectReply
    split <;> exact stringsKeep_ofStrings s (.refl s) queues.strings (congrArg Divider.tickBase queues.divider)
  unfold runInject
  split
  · split
    · exact withString_keeps _ _ _ (.refl s) fun _ => crossed _ _ _
    · exact .refl s
  · exact .refl s

/-- The power-on settings lie in their ranges (R21, R33, R110). -/
theorem settingsLawful_powerOn : SettingsLawful .powerOn := by
  unfold SettingsLawful
  decide

/-- RESTORE DEFAULTS returns every setting to its power-on value and clears every stage (R35, R182). -/
theorem restoredSettings_stringsKeep (s : State) : StringsKeep s (restoredSettings s) := by
  refine ⟨fun _ => (by decide : Config.powerOnTickBase ≤ 255), fun i => ?_⟩
  rw [restoredSettings_string]
  exact ⟨.congr rfl id, fun _ => settingsLawful_powerOn, fun _ => stageLawful_clear _⟩

theorem runRestoreDefaults_stringsKeep (params : List Payload) (s : State) :
    StringsKeep s (runRestoreDefaults params s).state := by
  unfold runRestoreDefaults
  split
  · split
    · exact .refl s
    · exact (restoredSettings_stringsKeep s).trans
        (forStrings_stringsKeep _ (fun i t => (abortRecord_touches i t).stringsKeep) _ _)
  · exact .refl s

/-- RESTART silences the trackers and clears the stages (R9, R183). -/
theorem runRestart_stringsKeep (params : List Payload) (s : State) : StringsKeep s (runRestart params s).state := by
  unfold runRestart
  split
  · refine stringsKeep_ofStrings s (StringsKeep.modifyAll (·.linkLoss) s fun b => ?_) rfl rfl
    rw [StringBlock.linkLoss_eq]
    exact .ofSettingsKept ⟨rfl, rfl, rfl, rfl⟩ (fun h => by simp [h]) fun _ => stageLawful_clear b
  · exact .refl s

theorem ReadsOnly.stringsKeep {run : List Payload → State → Executed} (h : ReadsOnly run) (params : List Payload) (s : State) :
    StringsKeep s (run params s).state := by
  rw [h params s]
  exact .refl s

/-- Every command's run keeps the three laws. -/
theorem run_stringsKeep (c : Command) (params : List Payload) (s : State) : StringsKeep s (c.run params s).state := by
  have unchanged {t : State} (strings : t.strings = s.strings) (divider : t.divider = s.divider) : StringsKeep s t :=
    stringsKeep_ofStrings s (.refl s) strings (congrArg Divider.tickBase divider)
  cases c
  case loadGrid => exact runLoadGrid_stringsKeep params s
  case loadProfile => exact runLoadProfile_stringsKeep params s
  case loadAction => exact runLoadAction_stringsKeep params s
  case loadCrosstalk => exact runLoadCrosstalk_stringsKeep params s
  case setTick => exact runSetTick_stringsKeep params s
  case setStyle => exact runSetStyle_stringsKeep params s
  case stringOn => exact runStringOn_stringsKeep params s
  case stringOff => exact runStringOff_stringsKeep params s
  case allNotesEnd => exact runAllNotesEnd_stringsKeep params s
  case measure => exact runMeasure_stringsKeep params s
  case measureCancel => exact runMeasureCancel_stringsKeep params s
  case inject => exact runInject_stringsKeep params s
  case restoreDefaults => exact runRestoreDefaults_stringsKeep params s
  case restart => exact runRestart_stringsKeep params s
  case readStatus => exact runReadStatus_reads.stringsKeep params s
  case readString => exact runReadString_reads.stringsKeep params s
  case readGrid => exact runReadGrid_reads.stringsKeep params s
  case readMap => exact runReadMap_reads.stringsKeep params s
  case readAction => exact runReadAction_reads.stringsKeep params s
  case readProfile => exact runReadProfile_reads.stringsKeep params s
  case readCounters => exact runReadCounters_reads.stringsKeep params s
  case readStatusCounters => exact runReadStatusCounters_reads.stringsKeep params s
  case loadMap =>
    simp only [Command.run, runLoadMap]
    split
    · refine withTable_keeps _ _ _ (.refl s) fun n => ?_
      split
      · exact .refl s
      · exact unchanged rfl rfl
    · exact .refl s
  case clearMap =>
    simp only [Command.run, runClearMap]
    split
    · exact withTable_keeps _ _ _ (.refl s) fun n => unchanged rfl rfl
    · exact .refl s
  case clearCounters =>
    simp only [Command.run, runClearCounters]
    split
    · split
      · exact .refl s
      · exact unchanged rfl rfl
    · exact .refl s
  all_goals
    simp only [Command.run, runSetNumbering, runSetFlagMask, runSetCountPoint, runClearFlags]
    split
    · exact unchanged rfl rfl
    · exact .refl s

/-! ## O8 and O4 -/

/-- What the laws were from some state on, the commands keep. -/
theorem stringsKeep_keptByCommands (s : State) : KeptByCommands (StringsKeep s) where
  ofStrings := stringsKeep_ofStrings s
  run c params t h := h.trans (run_stringsKeep c params t)
  seek i t h := h.trans (seekSlot_touches i t).stringsKeep

/-- A string at power-on has no grid and is MUTED (R53, R107). -/
theorem gridLawful_powerOn : GridLawful .powerOn := ⟨fun _ h => (by cases h), fun h => absurd rfl h⟩

/-- The blocks of a string at power-on meet the three laws (R33, R53, R107). -/
theorem blockKeeps_powerOn (b : StringBlock) : BlockKeeps b .powerOn :=
  ⟨fun _ => gridLawful_powerOn, fun _ => settingsLawful_powerOn, fun _ => stageLawful_clear .powerOn⟩

theorem reset_string (i : StringNo) : State.reset.string i = .powerOn := PerString.get_const StringBlock.powerOn i

/-- Whatever happens, the three laws are kept. -/
theorem Happens.stringsKeep {s t : State} (h : Happens s t) : StringsKeep s t := by
  have commands := stringsKeep_keptByCommands s
  cases h with
  | nothing => exact .refl s
  | powerOn =>
    refine ⟨fun _ => (by decide : Config.powerOnTickBase ≤ 255), fun i => ?_⟩
    rw [show State.string { State.reset with pending := s.pending } i = .powerOn from reset_string i]
    exact blockKeeps_powerOn _
  | slot f order => exact pickupSlot_stringsKeep f order s
  | words f => exact commands.downstream f s (.refl s)
  | frame => exact commands.upstream s (.refl s)
  | period => exact dividerPeriod_stringsKeep s
  | command code params => exact commands.sendCommand code params s (.refl s)
  | attack i => exact (quietTimers_stringsKeep i s).trans (attackOnce_stringsKeep i _)
  | release i => exact (quietTimers_stringsKeep i s).trans (releaseOnce_stringsKeep i _)
  | update i => exact (quietTimers_stringsKeep i s).trans (updateOnce_stringsKeep i _)
  | record i => exact recordOnce_stringsKeep i s

/-- Settles O8: every step changes TB and each string's blocks so that the three laws are kept. -/
theorem stepKeepsTheGridSettingsAndStageLaws : Obligations.StepKeepsTheGridSettingsAndStageLaws := by
  intro s t h
  refine StringsKeep.laws (step_keeps (P := StringsKeep s) (fun u rest k => ?_) (fun u v happens k => ?_) h (.refl s))
  · exact stringsKeep_ofStrings s k rfl rfl
  · exact k.trans happens.stringsKeep

/-- Settles O4: at power-on the queues are empty, both links SEARCHING, and every string has the same blocks. -/
theorem resetMeetsTheLaws : Obligations.ResetMeetsTheLaws := by
  refine ⟨?queues, ?context, ?note, ?timer, ?slots, ⟨Nat.zero_le _, Nat.zero_le _⟩, ?grid, ?settings, ?validator, ?stage,
    ?record, ?noteRange, ?message, commandUnitLaw_of_ready rfl, ?link⟩
  case queues => exact ⟨Nat.zero_le _, rfl, fun _ => Nat.zero_le _⟩
  case context => intro i; rw [reset_string]; exact ⟨rfl, rfl⟩
  case note => intro i c h; rw [reset_string] at h; cases h
  case timer => intro i; rw [reset_string]; exact ⟨rfl, rfl, rfl⟩
  case slots =>
    refine ⟨Nat.zero_le _, fun i h => ?_, fun b h => ?_⟩
    · rw [reset_string] at h
      cases h
    · cases h
  case grid => intro i; rw [reset_string]; exact gridLawful_powerOn
  case settings => exact ⟨by decide, fun i => by rw [reset_string]; exact settingsLawful_powerOn⟩
  case validator => intro i; rw [reset_string]; decide
  case stage => intro i; rw [reset_string]; exact stageLawful_clear .powerOn
  case record => intro i; rw [reset_string]; decide
  case noteRange => intro i; rw [reset_string]; exact ⟨Nat.zero_le _, rfl⟩
  case message => exact ⟨fun _ h => (by cases h), fun _ h => (by cases h)⟩
  case link => simp [LinkLaw, State.reset, Plu.powerOn, Slu.powerOn]

end Sys2Proof.Machine
end

section
/-!
PROOFS. The period validator: the agreement test (O15), and the outcome, the lock state and the ring after a raw period (O16).
-/

namespace Sys2Proof.Machine

open Sys2Proof.Safety

/-! ## The agreement test -/

/-- The agreement test in the terms of R36. -/
theorem agree_iff (shift p q : Nat) : agree shift p q = true ↔ |(p : Int) - q| * 2 ^ shift ≤ q := by
  have distance : |(p : Int) - q| = ((p - q + (q - p) : Nat) : Int) := by rw [Int.abs_eq_natAbs]; omega
  rw [agree, decide_eq_true_eq, distance]
  norm_cast

/-- The largest product the test forms: a distance of 524,287 times 2^8 (R36). -/
theorem agreement_product_le {shift p q : Nat} (hs : shift ≤ 8) (hp : p ≤ 524287) (hq : q ≤ 524287) :
    |(p : Int) - q| * 2 ^ shift ≤ 134217472 := by
  have apart : |(p : Int) - q| ≤ 524287 := abs_le.mpr (by omega)
  have scale : (2 : Int) ^ shift ≤ 2 ^ 8 := pow_le_pow_right₀ (by decide) hs
  calc |(p : Int) - q| * 2 ^ shift ≤ 524287 * 2 ^ 8 := mul_le_mul apart scale (by positivity) (by decide)
    _ = 134217472 := by decide

/-- Settles O15. At S = 3 a distance of 513 is within an eighth of 4,609 and not of 4,096, so the test is not symmetric. -/
theorem agreementTest : Obligations.AgreementTest :=
  ⟨agree_iff, ⟨3, 4096, 4609, by decide⟩, fun _ _ _ => agreement_product_le, rfl, by decide, by decide⟩

/-! ## The outcome of a raw period -/

/-- A moved toward a period by its share of the distance, which it never passes (R40). -/
theorem moveToward_eq (glide a x : Nat) :
    moveToward glide a x = if x ≤ a then a - (a - x) / 2 ^ glide else a + (x - a) / 2 ^ glide := by
  have scale : (2 : Int) ^ glide = ((2 ^ glide : Nat) : Int) := by norm_cast
  unfold moveToward
  split
  · next below =>
    have share := Nat.div_le_self (a - x) (2 ^ glide)
    have distance : (x : Int) - a = -((a - x : Nat) : Int) := by omega
    rw [distance, scale, Int.neg_tdiv, ← Int.ofNat_tdiv]
    omega
  · next above =>
    have distance : (x : Int) - a = ((x - a : Nat) : Int) := by omega
    rw [distance, scale, ← Int.ofNat_tdiv]
    generalize (x - a) / 2 ^ glide = share
    omega

theorem mergeFits_iff (shift p a q : Nat) :
    mergeFits shift p a q = true ↔ p + q ≤ 524287 ∧ agree shift (p + q) a = true := by
  rw [mergeFits, Bool.and_eq_true, decide_eq_true_eq, Config.maxPeriod]

section

variable {shift glide lossN p a : Nat} {v : Validator}

/-- A partner that was UNLOCKED and agrees locks (R39). -/
theorem validateUnlocked_lock {q : Nat} {older : List RawRecord} (ring : v.ring = ⟨q, .unlocked⟩ :: older)
    (partner : agree shift p q = true) : validateUnlocked shift p v =
      ⟨{ v with accepted := some ((p + q) / 2), ring := placeRecord ⟨p, .lock⟩ v.ring }, .lock, p⟩ := by
  simp only [validateUnlocked, ring, partner, if_true]

/-- Without such a partner the period is UNLOCKED (R39). -/
theorem validateUnlocked_unlocked (none : ∀ q older, v.ring = ⟨q, .unlocked⟩ :: older → ¬agree shift p q = true) :
    validateUnlocked shift p v = ⟨{ v with ring := placeRecord ⟨p, .unlocked⟩ v.ring }, .unlocked, p⟩ := by
  unfold validateUnlocked
  split
  · next q older ring => exact if_neg (none q older ring)
  · rfl

/-- An agreeing period is GLIDE (R40). -/
theorem validateLocked_glide (agrees : agree shift p a = true) : validateLocked shift glide lossN p a v =
    ⟨⟨some (moveToward glide a p), none, 0, placeRecord ⟨p, .glide⟩ v.ring⟩, .glide, p⟩ :=
  if_pos agrees

/-- A MISS that the period completes is MERGE (R41). -/
theorem validateLocked_merge {q : Nat} {older : List RawRecord} (differs : ¬agree shift p a = true)
    (ring : v.ring = ⟨q, .miss⟩ :: older) (fits : mergeFits shift p a q = true) : validateLocked shift glide lossN p a v =
      ⟨⟨some (moveToward glide a (p + q)), none, 0, ⟨p + q, .merge⟩ :: older⟩, .merge, p + q⟩ := by
  simp only [validateLocked, differs, ring, fits, if_true, if_false, Bool.false_eq_true]

/-- Where neither holds the candidate decides (R42). -/
theorem validateLocked_jump (differs : ¬agree shift p a = true)
    (alone : ∀ q older, v.ring = ⟨q, .miss⟩ :: older → ¬mergeFits shift p a q = true) :
    validateLocked shift glide lossN p a v = validateJump shift lossN p v := by
  unfold validateLocked
  rw [if_neg differs]
  split
  · next q older ring => exact if_neg (alone q older ring)
  · rfl

/-- A period that agrees with the candidate is JUMP (R42). -/
theorem validateJump_candidate {c : Nat} (candidate : v.candidate = some c) (agrees : agree shift p c = true) :
    validateJump shift lossN p v = ⟨⟨some ((p + c) / 2), none, 0, placeRecord ⟨p, .jump⟩ v.ring⟩, .jump, p⟩ := by
  simp only [validateJump, candidate, agrees, if_true]

/-- A period that agrees with no candidate misses (R43). -/
theorem validateJump_miss (none : ∀ c, v.candidate = some c → ¬agree shift p c = true) :
    validateJump shift lossN p v = validateMiss lossN p v := by
  unfold validateJump
  split
  · next c candidate => exact if_neg (none c candidate)
  · rfl

end

theorem take_of_unlocked {f : Profile} {p : Nat} {v : Validator} (h : v.accepted = none) :
    v.take f p = validateUnlocked f.agreement p v := by
  simp only [Validator.take, h]

theorem take_of_locked {f : Profile} {p a : Nat} {v : Validator} (h : v.accepted = some a) :
    v.take f p = validateLocked f.agreement f.glide f.lossN p a v := by
  simp only [Validator.take, h]

/-- Settles O16: the branch of the model for each outcome, in the order in which they are tried. -/
theorem validatorTakesARawPeriod : Obligations.ValidatorTakesARawPeriod := by
  refine ⟨fun f p v absent => ?_, fun f p a v present => ?_⟩ <;> simp only [← agree_iff]
  · rw [take_of_unlocked absent]
    exact ⟨fun q older ring partner => validateUnlocked_lock ring partner, validateUnlocked_unlocked⟩
  · rw [take_of_locked present]
    simp only [← moveToward_eq, ← mergeFits_iff]
    have candidate (differs : ¬agree f.agreement p a = true)
        (alone : ∀ q older, ¬(v.ring = ⟨q, .miss⟩ :: older ∧ mergeFits f.agreement p a q = true)) :
        validateLocked f.agreement f.glide f.lossN p a v = validateJump f.agreement f.lossN p v :=
      validateLocked_jump differs fun q older ring fits => alone q older ⟨ring, fits⟩
    have missed (differs : ¬agree f.agreement p a = true)
        (alone : ∀ q older, ¬(v.ring = ⟨q, .miss⟩ :: older ∧ mergeFits f.agreement p a q = true))
        (stays : ¬∃ c, v.candidate = some c ∧ agree f.agreement p c = true) :
        validateLocked f.agreement f.glide f.lossN p a v = validateMiss f.lossN p v :=
      (candidate differs alone).trans (validateJump_miss fun c held agrees => stays ⟨c, held, agrees⟩)
    refine ⟨validateLocked_glide, ?merge, ?jump, ?miss, ?lost⟩
    case merge => exact fun q older differs ⟨ring, fits⟩ => validateLocked_merge differs ring fits
    case jump => exact fun c differs alone held agrees => (candidate differs alone).trans (validateJump_candidate held agrees)
    case miss =>
      intro differs alone stays below
      rw [missed differs alone stays, validateMiss, if_pos below, present]
      rfl
    case lost =>
      intro differs alone stays reached
      rw [missed differs alone stays, validateMiss, if_neg (Nat.not_lt.mpr reached)]
      rfl

end Sys2Proof.Machine
end

section
/-!
PROOFS. The words of READ STATUS and READ STRING (O55).
-/

namespace Sys2Proof.Machine

open Sys2Proof.Safety

/-! ## Codes and fields -/

theorem PickupLink.code_lt (l : PickupLink) : l.code < 2 ^ 2 := by cases l <;> decide

theorem Source.code_lt (source : Source) : source.code < 2 ^ 2 := by cases source <;> decide

theorem TrackerState.code_lt (k : TrackerState) : k.code < 2 ^ 3 := by cases k <;> decide

theorem RecordState.code_lt (k : RecordState) : k.code < 2 ^ 2 := by cases k <;> decide

theorem LockOutcome.code_lt (o : LockOutcome) : o.code < 2 ^ 3 := by cases o <;> decide

theorem Style.code_lt (x : Style) : x.code < 2 ^ 2 := by cases x <;> decide

theorem StartCause.code_lt (x : StartCause) : x.code < 2 ^ 2 := by cases x <;> decide

theorem Verdict.code_lt (v : Verdict) : v.code < 2 ^ 2 := by cases v <;> decide

theorem LegatoMode.code_lt (m : LegatoMode) : m.code < 2 ^ 1 := by cases m <;> decide

theorem NumberingForm.code_lt (f : NumberingForm) : f.code < 2 ^ 1 := by cases f <;> decide

theorem CountPoint.code_eq (c : CountPoint) : c.code = if c = .atAdmit then 1 else 0 := by cases c <;> rfl

theorem NumberingForm.code_eq (f : NumberingForm) : f.code = if f = .position then 1 else 0 := by cases f <;> rfl

/-- A field of a word at bit 0. -/
@[simp] theorem field_low (value width : Nat) : field value width 0 = value % 2 ^ width := by simp [field]

@[simp] theorem field_zero (width low : Nat) : field 0 width low = 0 := by simp [field]

theorem field_scaled (value width low : Nat) : field value width low = 2 ^ low * (value % 2 ^ width) := Nat.mul_comm _ _

/-- The low bits of a value. -/
@[simp] theorem fieldOf_low (value width : Nat) : fieldOf value width 0 = value % 2 ^ width := by simp [fieldOf]

/-! ## READ STATUS -/

/-- The tracker state of a string in its three bits of words 7 and 8 (R179). -/
theorem trackerField_eq (s : State) (i : StringNo) (low : Nat) :
    trackerField s i low = (s.string i).tracker.state.code * 2 ^ low :=
  field_eq low (TrackerState.code_lt _)

/-- The bits of word 8 that show which grids are loaded (R179). -/
theorem gridBits_eq (s : State) :
    let loaded := fun i => if (s.string i).grid.isSome then 1 else 0
    gridBits s = loaded .s1 + 2 * loaded .s2 + 2 ^ 2 * loaded .s3 + 2 ^ 3 * loaded .s4 + 2 ^ 4 * loaded .s5 +
      2 ^ 5 * loaded .s6 := by
  simp only [gridBits, allStrings, List.map_cons, List.map_nil, List.sum_cons, List.sum_nil, StringNo.number, bitField_eq]
  ring

/-- Word 9: the states of the records, two bits for each string (R179). -/
theorem recordBits_eq (s : State) :
    let record := fun i => (s.string i).record.state.code
    recordBits s = record .s1 + 2 ^ 2 * record .s2 + 2 ^ 4 * record .s3 + 2 ^ 6 * record .s4 + 2 ^ 8 * record .s5 +
      2 ^ 10 * record .s6 := by
  simp only [recordBits, allStrings, List.map_cons, List.map_nil, List.sum_cons, List.sum_nil, StringNo.number,
    field_eq _ (RecordState.code_lt _)]
  ring

/-- The words of READ STATUS with their fields written out (R179). -/
theorem statusWords_eq (s : State) (htb : s.divider.tickBase ≤ 255) (hcount : s.divider.count ≤ 255)
    (heq : s.eq.entries.length ≤ 64) (hreserved : s.eq.reserved ≤ 6) (hmq : s.mq.length ≤ 16) (hrq : s.rq.length < 8) :
    let word := fun n : Nat => (BitVec.ofNat 15 n : Payload)
    let tracker := fun i => (s.string i).tracker.state.code
    let loaded := fun i => if (s.string i).grid.isSome then 1 else 0
    let record := fun i => (s.string i).record.state.code
    statusWords s =
      [ s.su.flags.setWidth 15, s.su.mask.setWidth 15
      , word (2 ^ 13 * s.plu.link.code + 2 ^ 12 * (if s.rc.countPoint = .atAdmit then 1 else 0) +
          2 ^ 11 * (if s.numbering = .position then 1 else 0) + 2 ^ 10 * (if s.slu.hold then 1 else 0) + s.divider.tickBase)
      , word s.divider.count
      , word (2 ^ 8 * s.eq.entries.length + 2 ^ 4 * s.eq.reserved)
      , word (2 ^ 10 * s.mq.length + 2 ^ 6 * s.rq.length + s.lane.lastServed.code)
      , word (2 ^ 12 * tracker .s1 + 2 ^ 9 * tracker .s2 + 2 ^ 6 * tracker .s3 + 2 ^ 3 * tracker .s4 + tracker .s5)
      , word (2 ^ 12 * tracker .s6 + 2 ^ 5 * loaded .s6 + 2 ^ 4 * loaded .s5 + 2 ^ 3 * loaded .s4 + 2 ^ 2 * loaded .s3 +
          2 * loaded .s2 + loaded .s1)
      , word (2 ^ 10 * record .s6 + 2 ^ 8 * record .s5 + 2 ^ 6 * record .s4 + 2 ^ 4 * record .s3 + 2 ^ 2 * record .s2 +
          record .s1)
      , word (s.plu.frameNo.toNat / 2 ^ 15), word (s.plu.frameNo.toNat % 2 ^ 15) ] := by
  intro word tracker loaded record
  have source := Source.code_lt s.lane.lastServed
  have frame := s.plu.frameNo.isLt
  have high : fieldOf s.plu.frameNo.toNat 9 15 = s.plu.frameNo.toNat / 2 ^ 15 := by unfold fieldOf; omega
  unfold statusWords
  rw [high, gridBits_eq, recordBits_eq, CountPoint.code_eq, NumberingForm.code_eq, field_eq 13 (PickupLink.code_lt _),
    field_eq (width := 1) 12 (by split <;> decide), field_eq (width := 1) 11 (by split <;> decide), bitField_eq,
    field_eq 8 (by omega), field_eq 4 (by omega), field_eq 10 (by omega), field_eq 6 (by omega)]
  simp only [trackerField_eq, field_low, fieldOf_low, payload]
  have words {a b : Nat} {rest rest' : List Payload} (value : a = b) (tail : rest = rest') :
      BitVec.ofNat 15 a :: rest = word b :: rest' := by rw [value, tail]
  rw [BitVec.ofNat_toNat, BitVec.ofNat_toNat]
  refine congrArg _ (congrArg _ ?_)
  refine words (by omega) (words (by omega) (words (by omega) (words (by omega) (words ?_ (words ?_ (words ?_ (words rfl
    (words rfl rfl))))))))
  · simp only [tracker]; omega
  · simp only [tracker, loaded]; omega
  · simp only [record]; omega

/-! ## READ STRING -/

/-- A timer's word: its run state and the low bits of its value (R108). -/
theorem timerWord_eq (running : Bool) (value width : Nat) :
    timerWord running value width = BitVec.ofNat 15 (2 ^ 14 * (if running then 1 else 0) + value % 2 ^ width) := by
  rw [timerWord, bitField_eq, field_low, Nat.mul_comm]
  rfl

/-- The words of the three timers (R108). -/
def timerSection (k : Timers) : List Payload :=
  [timerWord k.attack.running k.attack.value 10, timerWord k.release.running k.release.value 10,
    timerWord k.update.running k.update.value 7]

theorem timerSection_eq (k : Timers) :
    let timer := fun (running : Bool) (value : Nat) => (BitVec.ofNat 15 (2 ^ 14 * (if running then 1 else 0) + value) : Payload)
    timerSection k = [timer k.attack.running (k.attack.value % 2 ^ 10), timer k.release.running (k.release.value % 2 ^ 10),
      timer k.update.running (k.update.value % 2 ^ 7)] := by
  simp only [timerSection, timerWord_eq]

/-- The fields of T1 an open note shows (R108). -/
theorem contextBits_eq (c : NoteContext) :
    contextBits c = 2 ^ 11 + 2 ^ 9 * c.latched.style.code + 2 ^ 8 * (if c.early then 1 else 0) +
      2 ^ 7 * (if c.announced then 1 else 0) + 2 ^ 6 * (if c.monitored then 1 else 0) + 2 ^ 4 * c.cause.code +
      2 ^ 3 * (if c.bankB then 1 else 0) + 2 ^ 2 * c.latched.legato.code + 2 * c.form.code +
      (if c.pvQueued.isSome then 1 else 0) := by
  simp only [contextBits, bitField_eq, field_eq _ (Style.code_lt _), field_eq _ (StartCause.code_lt _),
    field_eq _ (LegatoMode.code_lt _), field_eq _ (NumberingForm.code_lt _), if_true]
  ring

/-- The tracker's section while no note is open: the state, the trough and an attack's peak alone (R108). -/
theorem trackerWords_closed (b : StringBlock) (closed : b.tracker.context = none) :
    let word := fun n : Nat => (BitVec.ofNat 15 n : Payload)
    let trough := b.stage.trough.getD 0
    let peak := if b.tracker.state = .attack then b.tracker.attackPeak else 0
    trackerWords b = [word (2 ^ 12 * b.tracker.state.code), 0, 0,
      word (2 ^ 14 * (trough / 2 ^ 15 % 2) + 2 ^ 13 * (peak / 2 ^ 15 % 2)), 0, 0,
      word (trough % 2 ^ 15), word (peak % 2 ^ 15)] ++ timerSection b.timers := by
  intro word trough peak
  have shown : shownPeak b.tracker = peak := by simp only [shownPeak, closed, peak]
  simp only [trackerWords, contextField, closed, shown, Option.map_none, Option.getD_none, field_eq _ (TrackerState.code_lt _),
    field_low, field_zero, Nat.add_zero]
  simp only [field_scaled, pow_one, Nat.mul_comm _ (2 ^ 12)]
  rfl

/-- The tracker's section while a note is open (R108). -/
theorem trackerWords_open (b : StringBlock) (c : NoteContext) (opened : b.tracker.context = some c) :
    let word := fun n : Nat => (BitVec.ofNat 15 n : Payload)
    let trough := b.stage.trough.getD 0
    trackerWords b = [ word (2 ^ 12 * b.tracker.state.code + contextBits c)
      , word (2 ^ 7 * (c.note % 2 ^ 7) + c.grade % 2 ^ 6)
      , word (2 ^ 13 * c.latched.route.code + c.pvComputed % 2 ^ 13)
      , word (2 ^ 14 * (trough / 2 ^ 15 % 2) + 2 ^ 13 * (c.peak / 2 ^ 15 % 2) + c.pvQueued.getD 0 % 2 ^ 13)
      , word (2 ^ 10 * (c.latched.bendSpan % 2 ^ 5) + 2 ^ 6 * (c.latched.lane.getD 0 % 2 ^ 4) +
          2 ^ 5 * (if c.latched.counterIndex.isSome then 1 else 0))
      , word (2 ^ 8 * (c.latched.counterIndex.getD 0 % 2 ^ 7) + c.latched.mapBase % 2 ^ 8)
      , word (trough % 2 ^ 15), word (c.peak % 2 ^ 15) ] ++ timerSection b.timers := by
  intro word trough
  have shown : shownPeak b.tracker = c.peak := by simp only [shownPeak, opened]
  have counted : field (if c.latched.counterIndex.isSome then 1 else 0) 1 5 =
      (if c.latched.counterIndex.isSome then 1 else 0) * 2 ^ 5 := field_eq 5 (by split <;> decide)
  simp only [trackerWords, contextField, opened, shown, Option.map_some, Option.getD_some, field_eq _ (TrackerState.code_lt _),
    field_eq _ (Verdict.code_lt _), counted, field_low]
  simp only [field_scaled, pow_one, Nat.mul_comm _ (2 ^ _)]
  rfl

/-- The outcome code and period of a ring slot; outcome code 7 and period 0 in a slot that holds no record (R50). -/
theorem ringWords_eq (r : Option RawRecord) :
    ringWords r = match r with
      | none => [BitVec.ofNat 15 (2 ^ 12 * 7), BitVec.ofNat 15 0]
      | some r =>
        [BitVec.ofNat 15 (2 ^ 12 * r.outcome.code + r.period / 2 ^ 15 % 2 ^ 4), BitVec.ofNat 15 (r.period % 2 ^ 15)] := by
  cases r with
  | none => rfl
  | some r =>
    simp only [ringWords, field_eq _ (LockOutcome.code_lt _), Nat.mul_comm _ (2 ^ 12), fieldOf_low]
    rfl

theorem periodWords_fields (p : Nat) : periodWords p = [BitVec.ofNat 15 (p / 2 ^ 15 % 2 ^ 4), BitVec.ofNat 15 (p % 2 ^ 15)] := by
  simp only [periodWords, fieldOf_low]
  rfl

/-- The validator's section (R50). -/
theorem validatorWords_eq (v : Validator) :
    validatorWords v =
      BitVec.ofNat 15 (2 ^ 14 * (if v.accepted.isSome then 1 else 0) + 2 ^ 13 * (if v.candidate.isSome then 1 else 0) +
        2 ^ 9 * (v.misses % 16) + v.ring.length % 16) ::
        (periodWords (v.accepted.getD 0) ++ periodWords (v.candidate.getD 0) ++ ringWords v.ring[0]? ++ ringWords v.ring[1]? ++
          ringWords v.ring[2]? ++ ringWords v.ring[3]? ++ ringWords v.ring[4]? ++ ringWords v.ring[5]? ++ ringWords v.ring[6]? ++
          ringWords v.ring[7]?) := by
  have slots : ((List.range Config.ringSize).map fun k => ringWords v.ring[k]?).flatten =
      ringWords v.ring[0]? ++ (ringWords v.ring[1]? ++ (ringWords v.ring[2]? ++ (ringWords v.ring[3]? ++ (ringWords v.ring[4]? ++
        (ringWords v.ring[5]? ++ (ringWords v.ring[6]? ++ (ringWords v.ring[7]? ++ []))))))) := rfl
  simp only [validatorWords, slots, bitField_eq, field_low, List.append_assoc, List.append_nil]
  simp only [field_scaled, Nat.mul_comm _ (2 ^ _)]
  rfl

theorem exec_readString (i : StringNo) (s : State) (h : executesAtOnce s) {words : List Payload}
    (tracker : trackerWords (s.string i) = words) :
    exec (.readString [stringWord i]) s =
      .next (replied .readString (.data (words ++ validatorWords (s.string i).validator)) s) := by
  refine exec_replies (c := .readString) h (by simp) rfl ?_
  rw [← tracker]
  simp only [Command.run, runReadString, withString_stringWord]
  rfl

/-- Settles O55. -/
theorem readStatusAndStringCommands : Obligations.ReadStatusAndStringCommands := by
  refine ⟨fun s h htb hcount heq hreserved hmq => ?status, fun i s h => ?string⟩
  case status =>
    refine exec_replies (c := .readStatus) h (by simp) rfl ?_
    exact congrArg (fun words => answer words s) (statusWords_eq s htb hcount heq hreserved hmq h.2.2)
  case string =>
    have validator := validatorWords_eq (s.string i).validator
    simp only [periodWords_fields, ringWords_eq] at validator
    refine ⟨fun closed => ?closed, fun c opened => ?opened⟩
    case closed =>
      have answered := exec_readString i s h (trackerWords_closed _ closed)
      rw [timerSection_eq, validator] at answered
      exact answered
    case opened =>
      have answered := exec_readString i s h (trackerWords_open _ c opened)
      rw [timerSection_eq, validator, contextBits_eq] at answered
      simp only [← Nat.add_assoc] at answered
      exact answered

end Sys2Proof.Machine
end

section
/-!
PROOFS. The law of a validator kept by each raw period, and the law of a measurement record kept by each of its events.
-/

namespace Sys2Proof.Machine

open Sys2Proof.Safety

/-! ## Valid periods -/

theorem validPeriod_iff (p : Nat) : validPeriod p = true ↔ 4096 ≤ p ∧ p ≤ 524287 := decide_eq_true_iff

theorem validPeriod_mean {p q : Nat} (hp : validPeriod p = true) (hq : validPeriod q = true) :
    validPeriod ((p + q) / 2) = true := by
  rw [validPeriod_iff] at *
  omega

/-- A period moved toward another stays between the two (R40). -/
theorem validPeriod_moveToward {a p : Nat} (glide : Nat) (ha : validPeriod a = true) (hp : validPeriod p = true) :
    validPeriod (moveToward glide a p) = true := by
  rw [validPeriod_iff] at *
  rw [moveToward_eq]
  split
  · have share := Nat.div_le_self (a - p) (2 ^ glide)
    generalize (a - p) / 2 ^ glide = moved at share ⊢
    omega
  · have share := Nat.div_le_self (p - a) (2 ^ glide)
    generalize (p - a) / 2 ^ glide = moved at share ⊢
    omega

/-- A merged period is valid (R41). -/
theorem validPeriod_merged {shift p a q : Nat} (hp : validPeriod p = true) (fits : mergeFits shift p a q = true) :
    validPeriod (p + q) = true := by
  rw [validPeriod_iff] at *
  have := ((mergeFits_iff shift p a q).mp fits).1
  omega

/-- A raw period delivered at an arrival is valid (R30). -/
theorem validPeriod_delivered {n : BitVec 24} {commit : Option Time} {st : InputStage} {p : Nat}
    (h : (deliverPeriod n commit st).2 = some p) : validPeriod p = true := by
  cases commit with
  | none =>
    rw [(deliverPeriod_uncommitted n st).1] at h
    cases h
  | some now =>
    cases last : st.committed with
    | none =>
      rw [deliverPeriod_first n now last] at h
      cases h
    | some prev =>
      rw [deliverPeriod_later n now prev last] at h
      split at h
      · cases h
      · simp only [Option.ite_none_right_eq_some, Option.some.injEq] at h
        rw [validPeriod_iff]
        omega

theorem validPeriod_runStage {samples : PerString Word} {n : BitVec 24} {i : StringNo} {b : StringBlock} {p : Nat}
    (h : (runStage samples n i b).period = some p) : validPeriod p = true :=
  validPeriod_delivered h

/-! ## The validator's law -/

/-- The ring's part of the validator's law (R37). -/
def RingLawful (ring : List RawRecord) : Prop := ring.length ≤ 8 ∧ ∀ r ∈ ring, validPeriod r.period = true

/-- The validator's law clause by clause (R37 to R44). -/
structure LockLawful (lossN : Nat) (v : Validator) : Prop where
  ring : RingLawful v.ring
  misses : v.misses < lossN
  accepted : ∀ a, v.accepted = some a → validPeriod a = true
  candidate : ∀ c, v.candidate = some c → validPeriod c = true
  absent : v.accepted = none → v.candidate = none ∧ v.misses = 0

theorem validatorLawful_iff (f : Profile) (v : Validator) : validatorLawful f v = true ↔ LockLawful f.lossN v := by
  obtain ⟨accepted, candidate, misses, ring⟩ := v
  have clauses : validatorLawful f ⟨accepted, candidate, misses, ring⟩ = true ↔
      ((((ring.length ≤ 8 ∧ misses < f.lossN) ∧ ∀ r ∈ ring, validPeriod r.period = true) ∧
        ∀ a, accepted = some a → validPeriod a = true) ∧ ∀ c, candidate = some c → validPeriod c = true) ∧
        (accepted = none → candidate = none ∧ misses = 0) := by
    cases accepted <;> cases candidate <;> simp [validatorLawful]
  rw [clauses]
  exact ⟨fun ⟨⟨⟨⟨⟨size, below⟩, valid⟩, ha⟩, hc⟩, absent⟩ => ⟨⟨size, valid⟩, below, ha, hc, absent⟩,
    fun law => ⟨⟨⟨⟨⟨law.ring.1, law.misses⟩, law.ring.2⟩, law.accepted⟩, law.candidate⟩, law.absent⟩⟩

theorem RingLawful.place {ring : List RawRecord} {p : Nat} (law : RingLawful ring) (hp : validPeriod p = true)
    (o : LockOutcome) : RingLawful (placeRecord ⟨p, o⟩ ring) := by
  refine ⟨List.length_take_le _ _, fun r hr => ?_⟩
  rcases List.mem_cons.mp (List.mem_of_mem_take hr) with rfl | old
  · exact hp
  · exact law.2 r old

/-- The newest record replaced by a merged one (R41). -/
theorem RingLawful.replace {r : RawRecord} {older : List RawRecord} {p : Nat} (law : RingLawful (r :: older))
    (hp : validPeriod p = true) (o : LockOutcome) : RingLawful (⟨p, o⟩ :: older) :=
  ⟨law.1, List.forall_mem_cons.mpr ⟨hp, (List.forall_mem_cons.mp law.2).2⟩⟩

section

variable {lossN p : Nat} {v : Validator}

/-- A lock state with A alone present, as GLIDE, MERGE and JUMP leave it (R40 to R42). -/
theorem LockLawful.locked {a : Nat} {ring : List RawRecord} (hloss : 0 < lossN) (ha : validPeriod a = true)
    (hring : RingLawful ring) : LockLawful lossN ⟨some a, none, 0, ring⟩ :=
  ⟨hring, hloss, fun _ h => Option.some.inj h ▸ ha, nofun, nofun⟩

/-- A lock state with nothing present, as a clear and LOST leave it (R44, R47). -/
theorem LockLawful.unlocked {ring : List RawRecord} (hloss : 0 < lossN) (hring : RingLawful ring) :
    LockLawful lossN ⟨none, none, 0, ring⟩ :=
  ⟨hring, hloss, nofun, nofun, fun _ => ⟨rfl, rfl⟩⟩

theorem LockLawful.unlockedTakes (shift : Nat) (hp : validPeriod p = true) (law : LockLawful lossN v) :
    LockLawful lossN (validateUnlocked shift p v).validator := by
  have stays : LockLawful lossN { v with ring := placeRecord ⟨p, .unlocked⟩ v.ring } :=
    ⟨law.ring.place hp _, law.misses, law.accepted, law.candidate, law.absent⟩
  unfold validateUnlocked
  split
  · next q _ ring =>
    split
    · have hq : validPeriod q = true := law.ring.2 ⟨q, .unlocked⟩ (ring ▸ List.mem_cons_self)
      exact ⟨law.ring.place hp _, law.misses, fun _ h => Option.some.inj h ▸ validPeriod_mean hp hq, law.candidate, nofun⟩
    · exact stays
  · exact stays

theorem LockLawful.missTakes (hp : validPeriod p = true) (law : LockLawful lossN v) (present : v.accepted ≠ none) :
    LockLawful lossN (validateMiss lossN p v).validator := by
  unfold validateMiss
  split
  · next below =>
    exact ⟨law.ring.place hp _, below, law.accepted, fun _ h => Option.some.inj h ▸ hp, fun h => absurd h present⟩
  · exact .unlocked (Nat.zero_lt_of_lt law.misses) (law.ring.place hp _)

theorem LockLawful.jumpTakes (shift : Nat) (hp : validPeriod p = true) (law : LockLawful lossN v)
    (present : v.accepted ≠ none) : LockLawful lossN (validateJump shift lossN p v).validator := by
  unfold validateJump
  split
  · next c candidate =>
    split
    · exact .locked (Nat.zero_lt_of_lt law.misses) (validPeriod_mean hp (law.candidate c candidate)) (law.ring.place hp _)
    · exact law.missTakes hp present
  · exact law.missTakes hp present

theorem LockLawful.lockedTakes {a : Nat} (shift glide : Nat) (hp : validPeriod p = true) (law : LockLawful lossN v)
    (ha : v.accepted = some a) : LockLawful lossN (validateLocked shift glide lossN p a v).validator := by
  have hloss := Nat.zero_lt_of_lt law.misses
  have valid := law.accepted a ha
  have jump := law.jumpTakes shift hp (by simp [ha])
  unfold validateLocked
  split
  · exact .locked hloss (validPeriod_moveToward glide valid hp) (law.ring.place hp _)
  · split
    · next q older ring =>
      split
      · next fits =>
        have merged := validPeriod_merged hp fits
        exact .locked hloss (validPeriod_moveToward glide valid merged) ((ring ▸ law.ring).replace merged _)
      · exact jump
    · exact jump

end

/-- A raw period keeps the validator's law, whatever its outcome (R37 to R44). -/
theorem validatorLawful_take {f : Profile} {p : Nat} {v : Validator} (hp : validPeriod p = true)
    (law : validatorLawful f v = true) : validatorLawful f (v.take f p).validator = true := by
  rw [validatorLawful_iff] at *
  cases h : v.accepted with
  | none => rw [take_of_unlocked h]; exact law.unlockedTakes _ hp
  | some a => rw [take_of_locked h]; exact law.lockedTakes _ _ hp h

/-- A cleared validator is lawful under every profile in range, whose LOSS_N is at least 2 (R33, R47). -/
theorem validatorLawful_cleared {f : Profile} (range : profileInRange f = true) : validatorLawful f .cleared = true := by
  have hloss : 2 ≤ f.lossN := by
    simp only [profileInRange, Bool.and_eq_true, decide_eq_true_eq] at range
    omega
  exact (validatorLawful_iff f _).mpr (.unlocked (by omega) ⟨Nat.zero_le _, nofun⟩)

/-! ## The record's law -/

/-- What the record's law says in every state of the record (R184 to R187). -/
def RecordBounds (r : Measurement) : Prop :=
  4 ≤ r.target ∧ r.target ≤ 64 ∧ 1 ≤ r.timeout ∧ r.timeout ≤ 32767 ∧ r.count ≤ r.target ∧ r.elapsed ≤ r.timeout

theorem recordLawful_iff (r : Measurement) :
    recordLawful r = true ↔ RecordBounds r ∧ (r.state = .running → r.count < r.target ∧ r.elapsed < r.timeout) ∧
      (r.pending.isSome = true ↔ r.state = .waiting) := by
  rw [recordLawful, Bool.and_eq_true, Bool.and_eq_true, decide_eq_true_eq, decide_eq_true_eq, beq_iff_eq, Bool.eq_iff_iff,
    decide_eq_true_eq, and_assoc]
  rfl

/-- A finished record waits with its outcome (R187, R191). -/
theorem recordLawful_finish {r : Measurement} (o : MeasureOutcome) (bounds : RecordBounds r) :
    recordLawful (r.finish o) = true :=
  (recordLawful_iff _).mpr ⟨bounds, nofun, iff_of_true rfl rfl⟩

theorem recordLawful_toIdle {r : Measurement} (bounds : RecordBounds r) : recordLawful r.toIdle = true :=
  (recordLawful_iff _).mpr ⟨bounds, nofun, iff_of_false nofun nofun⟩

theorem recordLawful_drop {r : Measurement} (law : recordLawful r = true) : recordLawful r.drop = true := by
  unfold Measurement.drop
  split
  · exact recordLawful_toIdle ((recordLawful_iff r).mp law).1
  · exact law

/-- A record set up with N and T in their ranges (R185). -/
theorem recordLawful_start {n t : Nat} (hn : 4 ≤ n ∧ n ≤ 64) (ht : 1 ≤ t ∧ t ≤ 32767) :
    recordLawful (.start n t) = true :=
  (recordLawful_iff _).mpr ⟨⟨hn.1, hn.2, ht.1, ht.2, Nat.zero_le _, Nat.zero_le _⟩,
    fun _ => ⟨Nat.zero_lt_of_lt hn.1, ht.1⟩, iff_of_false nofun nofun⟩

/-- The event keeps the law of the string's record. -/
def RecordKept (i : StringNo) (s t : State) : Prop :=
  recordLawful (s.string i).record = true → recordLawful (t.string i).record = true

theorem seekSlot_recordKept (i : StringNo) (s : State) : RecordKept i s (seekSlot i s) := by
  intro law
  by_cases places : (s.string i).record.state = .waiting ∧ s.rq.length < 8
  · rw [(seekSlot_places i s places.1 places.2).2]
    exact recordLawful_toIdle ((recordLawful_iff _).mp law).1
  · rw [not_and_or, Nat.not_lt] at places
    rw [seekSlot_stays i s places]
    exact law

theorem endMeasurement_lawful (i : StringNo) (o : MeasureOutcome) (s : State) (bounds : RecordBounds (s.string i).record) :
    recordLawful ((endMeasurement i o s).string i).record = true := by
  refine seekSlot_recordKept i _ ?_
  rw [State.modifyRecord_string]
  exact recordLawful_finish o bounds

theorem abortRecord_recordKept (i : StringNo) (s : State) : RecordKept i s (abortRecord i s) := by
  intro law
  unfold abortRecord
  split
  · rw [State.modifyRecord_string]
    exact recordLawful_finish _ ((recordLawful_iff _).mp law).1
  · exact law

/-- A period reaches the record: it completes at N, so no RUNNING record holds N periods (R186, R187). -/
theorem recordPeriod_recordKept (i : StringNo) (p : Nat) (s : State) : RecordKept i s (recordPeriod i p s) := by
  intro law
  obtain ⟨bounds, short, pending⟩ := (recordLawful_iff _).mp law
  unfold recordPeriod
  simp only
  split
  · next running =>
    obtain ⟨target, most, timeout, longest, _, elapsed⟩ := bounds
    have added : RecordBounds ((s.string i).record.add p) :=
      ⟨target, most, timeout, longest, (short running).1, elapsed⟩
    split
    · exact endMeasurement_lawful i _ _ (by rw [State.modifyRecord_string]; exact added)
    · next below =>
      rw [State.modifyRecord_string, recordLawful_iff]
      exact ⟨added, fun _ => ⟨Nat.lt_of_not_le below, (short running).2⟩, pending⟩
  · exact law

/-- A tick reaches the record: it times out at T, so no RUNNING record has seen T ticks (R187). -/
theorem recordTick_recordKept (i : StringNo) (s : State) : RecordKept i s (recordTick i s) := by
  intro law
  obtain ⟨bounds, short, pending⟩ := (recordLawful_iff _).mp law
  unfold recordTick
  simp only
  split
  · next running =>
    obtain ⟨target, most, timeout, longest, count, _⟩ := bounds
    have counted : RecordBounds { (s.string i).record with elapsed := (s.string i).record.elapsed + 1 } :=
      ⟨target, most, timeout, longest, count, (short running).2⟩
    split
    · exact endMeasurement_lawful i _ _ (by rw [State.modifyRecord_string]; exact counted)
    · next below =>
      rw [State.modifyRecord_string, recordLawful_iff]
      exact ⟨counted, fun _ => ⟨(short running).1, Nat.lt_of_not_le below⟩, pending⟩
  · exact law

end Sys2Proof.Machine
end

section
/-!
PROOFS. What no event of the strings' blocks can break of the validator's and the record's laws (O9): the account of each
stimulus and of each command string by string, as in O8.
-/

namespace Sys2Proof.Machine

open Sys2Proof.Safety

/-! ## Events the arrivals and ticks are made of -/

/-- What each frame arrival and the pickup teardown keep, and no change outside the strings and TB can break, a slot keeps (R2 to
R6). -/
theorem pickupSlot_keeps {P : State → Prop} (ofStrings : OfStrings P)
    (arrival : ∀ samples order s, P s → P (frameArrival samples order s)) (teardown : ∀ s, P s → P (pickupTeardown s))
    (f : PickupFrame) (order : List StringNo) (s : State) (hs : P s) : P (pickupSlot f order s) := by
  have deliver (g : GoodFrame) (t : State) (ht : P t) : P (deliverGood g order t) := arrival _ _ _ (ofStrings ht rfl rfl)
  have bridge (badRun : Nat) (t : State) (ht : P t) : P (repeatLast badRun order t) := by
    unfold repeatLast
    simp only
    split
    · exact arrival _ _ _ (ofStrings ht rfl rfl)
    · exact ofStrings ht rfl rfl
  have begun : P (s.doPart .slot) := ofStrings hs rfl rfl
  have noted : P (noteBadFrame (s.doPart .slot)) := ofStrings hs rfl rfl
  unfold pickupSlot judgeSlot
  split
  · split
    · split
      · unfold goodWhileSearching
        simp only
        split
        · exact ofStrings begun rfl rfl
        · exact deliver _ _ (ofStrings begun rfl rfl)
      · exact deliver _ _ begun
      · exact deliver _ _ begun
    · unfold badFrame
      split
      · exact ofStrings begun rfl rfl
      · exact bridge _ _ noted
      · split
        · exact bridge _ _ noted
        · exact teardown _ (ofStrings noted rfl rfl)
  · exact hs

/-! ## The remaining events of a tracker -/

theorem takeGiveUp_event (i : StringNo) (s : State) : NoteEvent i s (takeGiveUp i s) := by
  have counted : NoteEvent i s (s.bumpCounter (.unpitchedOnsets i)) := .bumpCounter i _ s (by cases i <;> decide)
  unfold takeGiveUp
  simp only
  split
  · exact counted.trans (endAttack_event i _ _ (by decide))
  · exact counted

theorem takeEarlyPoint_event (i : StringNo) (s : State) : NoteEvent i s (takeEarlyPoint i s) := by
  have noted (outside : Bool) : NoteEvent i s (if outside then s.causeFlag .range else s) := by
    cases outside
    · exact .refl i s
    · exact .causeFlag i .range s (by decide)
  unfold takeEarlyPoint
  simp only
  split
  · split
    · exact (noted _).trans (startNote_event i _ .picked _ _ true _)
    · exact noted _
  · exact .refl i s

theorem takeReleaseExpiry_event (i : StringNo) (s : State) : NoteEvent i s (takeReleaseExpiry i s) := by
  unfold takeReleaseExpiry
  split
  · exact (endNote_event i _ s).trans (.setTracker i _ _ (by decide))
  · exact .refl i s

theorem takeUpdateExpiry_event (i : StringNo) (s : State) : NoteEvent i s (takeUpdateExpiry i s) := by
  unfold takeUpdateExpiry
  split
  · exact buildPitch_event i _ s
  · exact .refl i s

theorem offString_event (i : StringNo) (s : State) : NoteEvent i s (offString i s) := by
  unfold offString
  split
  · exact (endNote_event i _ s).trans (.setTracker i _ _ (by decide))
  · exact (endNote_event i _ s).trans (.setTracker i _ _ (by decide))
  · exact endAttack_event i _ s (by decide)
  · exact .setTracker i _ s (by decide)
  · exact .refl i s

theorem panicString_event (i : StringNo) (s : State) : NoteEvent i s (panicString i s) := by
  unfold panicString
  split
  · exact (endNote_event i _ s).trans (.setTracker i _ _ (by decide))
  · exact (endNote_event i _ s).trans (.setTracker i _ _ (by decide))
  · exact endAttack_event i _ s (by decide)
  · exact .refl i s
  · exact .refl i s

theorem onString_event (i : StringNo) (s : State) : NoteEvent i s (onString i s) := by
  unfold onString
  split
  · exact .setTracker i _ s (by decide)
  · exact .refl i s

/-! ## The two laws of a string's blocks -/

/-- The profile, the validator and the record stand. -/
structure SamePeriods (b c : StringBlock) : Prop where
  profile : c.profile = b.profile
  validator : c.validator = b.validator
  record : c.record = b.record

/-- The blocks of a string change so that the profile stays in range and the laws of the validator and the record are kept. The
validator's law needs the range, for LOSS_N bounds the miss count (R33, R43). -/
structure PeriodLawsKept (b c : StringBlock) : Prop where
  profile : profileInRange b.profile = true → profileInRange c.profile = true
  validator : profileInRange b.profile = true → validatorLawful b.profile b.validator = true →
    validatorLawful c.profile c.validator = true
  record : recordLawful b.record = true → recordLawful c.record = true

theorem PeriodLawsKept.refl (b : StringBlock) : PeriodLawsKept b b := ⟨id, fun _ => id, id⟩

theorem PeriodLawsKept.trans {b c d : StringBlock} (h : PeriodLawsKept b c) (k : PeriodLawsKept c d) : PeriodLawsKept b d :=
  ⟨k.profile ∘ h.profile, fun range law => k.validator (h.profile range) (h.validator range law), k.record ∘ h.record⟩

theorem SamePeriods.kept {b c : StringBlock} (h : SamePeriods b c) : PeriodLawsKept b c where
  profile := by rw [h.profile]; exact id
  validator _ := by rw [h.profile, h.validator]; exact id
  record := by rw [h.record]; exact id

/-- A cleared validator is lawful under a profile in range (R47). -/
theorem PeriodLawsKept.cleared {b c : StringBlock} (profile : profileInRange b.profile = true → profileInRange c.profile = true)
    (cleared : c.validator = .cleared) (record : recordLawful b.record = true → recordLawful c.record = true) :
    PeriodLawsKept b c :=
  ⟨profile, fun range _ => cleared ▸ validatorLawful_cleared (profile range), record⟩

/-- Each string's blocks change so that the two laws are kept. -/
def EachKeepsPeriodLaws (s t : State) : Prop := ∀ i, PeriodLawsKept (s.string i) (t.string i)

theorem EachKeepsPeriodLaws.refl (s : State) : EachKeepsPeriodLaws s s := fun _ => .refl _

theorem EachKeepsPeriodLaws.trans {s t u : State} (h : EachKeepsPeriodLaws s t) (k : EachKeepsPeriodLaws t u) :
    EachKeepsPeriodLaws s u :=
  fun i => (h i).trans (k i)

theorem eachKeepsPeriodLaws_of_strings {s t : State} (h : t.strings = s.strings) : EachKeepsPeriodLaws s t := fun i => by
  rw [show t.string i = s.string i from congrArg (PerString.get · i) h]
  exact .refl _

theorem eachKeepsPeriodLaws_ofStrings (s : State) : OfStrings (EachKeepsPeriodLaws s) :=
  fun h strings _ => h.trans (eachKeepsPeriodLaws_of_strings strings)

theorem EachKeepsPeriodLaws.modifyString (i : StringNo) (f : StringBlock → StringBlock) (s : State)
    (h : PeriodLawsKept (s.string i) (f (s.string i))) : EachKeepsPeriodLaws s (s.modifyString i f) := by
  intro j
  rw [State.string_modifyString]
  split
  · next e => exact e ▸ h
  · exact .refl _

theorem EachKeepsPeriodLaws.modifyAll (f : StringBlock → StringBlock) (s : State) (h : ∀ b, PeriodLawsKept b (f b)) :
    EachKeepsPeriodLaws s (s.modifyAll f) :=
  fun i => by rw [State.modifyAll_string]; exact h _

theorem forStrings_keepsPeriodLaws {event : StringNo → State → State} (h : ∀ i s, EachKeepsPeriodLaws s (event i s))
    (strings : List StringNo) (s : State) : EachKeepsPeriodLaws s (forStrings strings event s) :=
  forStrings_relates .refl (fun _ _ _ => .trans) event h strings s

/-- An event of one string, by what it does to that string's blocks. -/
theorem OneString.keepsPeriodLaws {i : StringNo} {s t : State} (h : OneString i s t)
    (own : PeriodLawsKept (s.string i) (t.string i)) : EachKeepsPeriodLaws s t := by
  intro j
  rcases eq_or_ne j i with rfl | hj
  · exact own
  · rw [h.others j hj]
    exact .refl _

theorem OneRecord.keepsPeriodLaws {i : StringNo} {s t : State} (h : OneRecord i s t) (kept : RecordKept i s t) :
    EachKeepsPeriodLaws s t :=
  h.oneString.keepsPeriodLaws ⟨by rw [h.block]; exact id, by rw [h.block]; exact fun _ => id, kept⟩

/-- An event of a tracker that clears no validator. -/
theorem NoteEvent.keepsPeriodLaws {i : StringNo} {s t : State} (event : NoteEvent i s t) (touches : OneTracker i s t) :
    EachKeepsPeriodLaws s t :=
  touches.oneString.keepsPeriodLaws (SamePeriods.kept ⟨touches.profile, event.validator, touches.record⟩)

theorem modifyTimers_keepsPeriodLaws (i : StringNo) (f : Timers → Timers) (s : State) :
    EachKeepsPeriodLaws s (s.modifyTimers i f) :=
  .modifyString i _ s (SamePeriods.kept ⟨rfl, rfl, rfl⟩)

theorem modifyTicked_keepsPeriodLaws (i : StringNo) (f : TickTaken → TickTaken) (s : State) :
    EachKeepsPeriodLaws s (s.modifyTicked i f) :=
  .modifyString i _ s (SamePeriods.kept ⟨rfl, rfl, rfl⟩)

/-! ## Ticks -/

theorem attackTick_keepsPeriodLaws (i : StringNo) (s : State) : EachKeepsPeriodLaws s (attackTick i s) := by
  unfold attackTick
  simp only
  split
  · exact (modifyTimers_keepsPeriodLaws i _ s).trans ((takeGiveUp_event i _).keepsPeriodLaws (takeGiveUp_touches i _))
  · split
    · exact (modifyTimers_keepsPeriodLaws i _ s).trans ((takeEarlyPoint_event i _).keepsPeriodLaws (takeEarlyPoint_touches i _))
    · exact modifyTimers_keepsPeriodLaws i _ s

theorem releaseTick_keepsPeriodLaws (i : StringNo) (s : State) : EachKeepsPeriodLaws s (releaseTick i s) := by
  unfold releaseTick
  simp only
  split
  · exact (modifyTimers_keepsPeriodLaws i _ s).trans
      ((takeReleaseExpiry_event i _).keepsPeriodLaws (takeReleaseExpiry_touches i _))
  · exact modifyTimers_keepsPeriodLaws i _ s

theorem updateTick_keepsPeriodLaws (i : StringNo) (s : State) : EachKeepsPeriodLaws s (updateTick i s) := by
  unfold updateTick
  simp only
  split
  · exact (modifyTimers_keepsPeriodLaws i _ s).trans
      ((takeUpdateExpiry_event i _).keepsPeriodLaws (takeUpdateExpiry_touches i _))
  · exact modifyTimers_keepsPeriodLaws i _ s

theorem attackOnce_keepsPeriodLaws (i : StringNo) (s : State) : EachKeepsPeriodLaws s (attackOnce i s) := by
  unfold attackOnce
  split
  · exact .refl s
  · exact (modifyTicked_keepsPeriodLaws i _ s).trans (attackTick_keepsPeriodLaws i _)

theorem releaseOnce_keepsPeriodLaws (i : StringNo) (s : State) : EachKeepsPeriodLaws s (releaseOnce i s) := by
  unfold releaseOnce
  split
  · exact .refl s
  · exact (modifyTicked_keepsPeriodLaws i _ s).trans (releaseTick_keepsPeriodLaws i _)

theorem updateOnce_keepsPeriodLaws (i : StringNo) (s : State) : EachKeepsPeriodLaws s (updateOnce i s) := by
  unfold updateOnce
  split
  · exact .refl s
  · exact (modifyTicked_keepsPeriodLaws i _ s).trans (updateTick_keepsPeriodLaws i _)

/-- The record takes its tick (R187). -/
theorem recordOnce_keepsPeriodLaws (i : StringNo) (s : State) : EachKeepsPeriodLaws s (recordOnce i s) := by
  unfold recordOnce
  split
  · exact .refl s
  · exact (modifyTicked_keepsPeriodLaws i _ s).trans
      ((recordTick_touches i _).keepsPeriodLaws (recordTick_recordKept i _))

theorem quietTimers_keepsPeriodLaws (i : StringNo) (s : State) : EachKeepsPeriodLaws s (quietTimers i s) := by
  have skip (c : Bool) (f : State → State) (hf : ∀ r, EachKeepsPeriodLaws r (f r)) (r : State)
      (h : EachKeepsPeriodLaws s r) : EachKeepsPeriodLaws s (if c = true then r else f r) := by
    split
    · exact h
    · exact h.trans (hf r)
  exact skip _ _ (updateOnce_keepsPeriodLaws i) _ (skip _ _ (releaseOnce_keepsPeriodLaws i) _
    (skip _ _ (attackOnce_keepsPeriodLaws i) _ (.refl s)))

theorem stringTick_keepsPeriodLaws (i : StringNo) (s : State) : EachKeepsPeriodLaws s (stringTick i s) :=
  ((((quietTimers_keepsPeriodLaws i s).trans (attackOnce_keepsPeriodLaws i _)).trans (releaseOnce_keepsPeriodLaws i _)).trans
    (updateOnce_keepsPeriodLaws i _)).trans (recordOnce_keepsPeriodLaws i _)

theorem dividerPeriod_keepsPeriodLaws (s : State) : EachKeepsPeriodLaws s (dividerPeriod s) := by
  unfold dividerPeriod
  split
  · split
    · exact eachKeepsPeriodLaws_of_strings rfl
    · rw [underflow_eq]
      refine (forStrings_keepsPeriodLaws stringTick_keepsPeriodLaws allStrings s).trans fun i => ?_
      rw [reloaded_string]
      exact SamePeriods.kept ⟨rfl, rfl, rfl⟩
  · exact .refl s

/-! ## Frame arrivals and the teardown -/

/-- An onset is taken in SILENT alone (R25). -/
theorem takeEdge_onset_stays (i : StringNo) (s : State) (h : (s.string i).tracker.state ≠ .silent) :
    takeEdge i .onset s = s := by
  cases state : (s.string i).tracker.state
  case silent => exact absurd state h
  all_goals simp only [takeEdge, state]

/-- An onset clears the validator (R47, R90). -/
theorem takeEdge_onset_keepsPeriodLaws (i : StringNo) (s : State) : EachKeepsPeriodLaws s (takeEdge i .onset s) := by
  by_cases silent : (s.string i).tracker.state = .silent
  · refine (takeEdge_touches i .onset s).oneString.keepsPeriodLaws ?_
    rw [takeEdge_onset i s silent, takeOnset_string]
    exact .cleared id rfl id
  · rw [takeEdge_onset_stays i s silent]
    exact .refl s

theorem takeReportedEdge_keepsPeriodLaws (i : StringNo) (edge : Option Edge) (s : State) :
    EachKeepsPeriodLaws s (takeReportedEdge i edge s) := by
  by_cases h : edge = some .onset
  · subst h
    exact takeEdge_onset_keepsPeriodLaws i s
  · exact (takeReportedEdge_event i edge s h).keepsPeriodLaws (takeReportedEdge_touches i edge s)

/-- A raw period taken by the validator, the tracker and the record (R45, R186). -/
theorem takePeriod_keepsPeriodLaws (i : StringNo) {p : Nat} (hp : validPeriod p = true) (s : State) :
    EachKeepsPeriodLaws s (takePeriod i p s) := by
  have judged (v : Validator) (h : validatorLawful (s.string i).profile (s.string i).validator = true →
      validatorLawful (s.string i).profile v = true) :
      EachKeepsPeriodLaws s (s.modifyString i fun b => { b with validator := v }) :=
    .modifyString i _ s ⟨id, fun _ => h, id⟩
  have outcome (o : LockOutcome) (a : Option Nat) (t : State) : EachKeepsPeriodLaws t (takeOutcome i o a t) :=
    (takeOutcome_event i o a t).keepsPeriodLaws (takeOutcome_touches i o a t)
  unfold takePeriod
  exact ((judged _ (validatorLawful_take hp)).trans (outcome _ _ _)).trans
    ((recordPeriod_touches i p _).keepsPeriodLaws (recordPeriod_recordKept i p _))

theorem leaveStage_keepsPeriodLaws (i : StringNo) (r : StageReport) (s : State) : EachKeepsPeriodLaws s (leaveStage i r s) :=
  eachKeepsPeriodLaws_ofStrings s
    (EachKeepsPeriodLaws.modifyString i (fun b => { b with stage := r.stage }) s (SamePeriods.kept ⟨rfl, rfl, rfl⟩)) rfl rfl

theorem followPeak_keepsPeriodLaws (i : StringNo) (s : State) : EachKeepsPeriodLaws s (followPeak i s) := by
  refine .modifyString i _ s (SamePeriods.kept ?_)
  split <;> exact ⟨rfl, rfl, rfl⟩

/-- One string's turn at an arrival (R20). -/
theorem stringArrival_keepsPeriodLaws (samples : PerString Word) (i : StringNo) (s : State) :
    EachKeepsPeriodLaws s (stringArrival samples i s) := by
  set r := runStage samples s.plu.frameNo i (s.string i) with hr
  have begun : EachKeepsPeriodLaws s (followPeak i (leaveStage i r s)) :=
    (leaveStage_keepsPeriodLaws i r s).trans (followPeak_keepsPeriodLaws i _)
  have edged := begun.trans (takeReportedEdge_keepsPeriodLaws i r.edge _)
  have arrives : stringArrival samples i s = deliverReports i r.edge r.period (followPeak i (leaveStage i r s)) := rfl
  rw [arrives]
  cases hp : r.period with
  | none => rw [deliverReports_none]; exact edged
  | some p => rw [deliverReports_some]; exact edged.trans (takePeriod_keepsPeriodLaws i (validPeriod_runStage hp) _)

theorem frameArrival_keepsPeriodLaws (samples : PerString Word) (order : List StringNo) (s : State) :
    EachKeepsPeriodLaws s (frameArrival samples order s) :=
  (eachKeepsPeriodLaws_of_strings (t := { s with plu := { s.plu with frameNo := s.plu.frameNo + 1 } }) rfl).trans
    (forStrings_keepsPeriodLaws (stringArrival_keepsPeriodLaws samples) (servedOrder order allStrings) _)

theorem seekSlot_keepsPeriodLaws (i : StringNo) (s : State) : EachKeepsPeriodLaws s (seekSlot i s) :=
  (seekSlot_touches i s).keepsPeriodLaws (seekSlot_recordKept i s)

theorem abortRecord_keepsPeriodLaws (i : StringNo) (s : State) : EachKeepsPeriodLaws s (abortRecord i s) :=
  (abortRecord_touches i s).keepsPeriodLaws (abortRecord_recordKept i s)

/-- The teardown ends the notes, clears the validators and aborts the measurements (R6). -/
theorem pickupTeardown_keepsPeriodLaws (s : State) : EachKeepsPeriodLaws s (pickupTeardown s) := by
  have ended : EachKeepsPeriodLaws s (forStrings allStrings linkEnd s) :=
    forStrings_keepsPeriodLaws (fun i t => (endNote_event i .link t).keepsPeriodLaws (endNote_touches i .link t)) _ s
  have silence (b : StringBlock) : PeriodLawsKept b b.silence := SamePeriods.kept ⟨rfl, rfl, rfl⟩
  have clear (b : StringBlock) : PeriodLawsKept b b.clearStage := .cleared id rfl id
  have cleared : EachKeepsPeriodLaws s (teardownCleared s) := (ended.trans (.modifyAll _ _ silence)).trans (.modifyAll _ _ clear)
  have last (t : State) : EachKeepsPeriodLaws t (teardownLast t) := eachKeepsPeriodLaws_of_strings rfl
  have aborted := forStrings_keepsPeriodLaws (event := abortAndSeek)
    (fun i t => (abortRecord_keepsPeriodLaws i t).trans (seekSlot_keepsPeriodLaws i _)) allStrings (teardownCleared s)
  rw [pickupTeardown_eq]
  exact (cleared.trans aborted).trans (last _)

theorem pickupSlot_keepsPeriodLaws (f : PickupFrame) (order : List StringNo) (s : State) :
    EachKeepsPeriodLaws s (pickupSlot f order s) :=
  pickupSlot_keeps (eachKeepsPeriodLaws_ofStrings s) (fun _ _ _ h => h.trans (frameArrival_keepsPeriodLaws _ _ _))
    (fun _ h => h.trans (pickupTeardown_keepsPeriodLaws _)) f order s (.refl s)

end Sys2Proof.Machine
end

section
/-!
PROOFS. What the commands leave of the validator's and the record's laws, and O9.
-/

namespace Sys2Proof.Machine

open Sys2Proof.Safety

/-! ## The commands that write no string -/

/-- The commands that write no string's blocks: the tables, the counters, the settings of the whole part, INJECT and the reads. -/
def Command.sparesStrings : Command → Bool
  | .loadMap | .clearMap | .setTick | .setNumbering | .setFlagMask | .setCountPoint | .clearFlags | .clearCounters | .inject
  | .readStatus | .readString | .readGrid | .readMap | .readAction | .readProfile | .readCounters | .readStatusCounters => true
  | .loadGrid | .loadProfile | .loadAction | .loadCrosstalk | .setStyle | .stringOn | .stringOff | .allNotesEnd | .measure
  | .measureCancel | .restoreDefaults | .restart => false

theorem injectReply_strings (clamped : Bool) (x : Crossing) : (injectReply clamped x).state.strings = x.state.strings := by
  unfold injectReply
  split <;> rfl

theorem runInject_strings (params : List Payload) (s : State) : (runInject params s).state.strings = s.strings := by
  unfold runInject
  split
  · split
    · refine withString_keeps (P := fun t => t.strings = s.strings) _ _ _ rfl fun i => ?_
      rw [injectReply_strings]
      exact (crossInjected_queuesOnly _ _ s).strings
    · rfl
  · rfl

theorem ReadsOnly.strings {run : List Payload → State → Executed} (h : ReadsOnly run) (params : List Payload) (s : State) :
    (run params s).state.strings = s.strings :=
  congrArg State.strings (h params s)

theorem run_strings {c : Command} (h : c.sparesStrings = true) (params : List Payload) (s : State) :
    (c.run params s).state.strings = s.strings := by
  cases c
  case inject => exact runInject_strings params s
  case readStatus => exact runReadStatus_reads.strings params s
  case readString => exact runReadString_reads.strings params s
  case readGrid => exact runReadGrid_reads.strings params s
  case readMap => exact runReadMap_reads.strings params s
  case readAction => exact runReadAction_reads.strings params s
  case readProfile => exact runReadProfile_reads.strings params s
  case readCounters => exact runReadCounters_reads.strings params s
  case readStatusCounters => exact runReadStatusCounters_reads.strings params s
  case loadMap =>
    simp only [Command.run, runLoadMap]
    split
    · refine withTable_keeps (P := fun t => t.strings = s.strings) _ _ _ rfl fun n => ?_
      split <;> rfl
    · rfl
  case clearMap =>
    simp only [Command.run, runClearMap]
    split
    · exact withTable_keeps (P := fun t => t.strings = s.strings) _ _ _ rfl fun n => rfl
    · rfl
  case clearCounters =>
    simp only [Command.run, runClearCounters]
    split
    · split <;> rfl
    · rfl
  case setTick | setNumbering | setFlagMask | setCountPoint | clearFlags =>
    simp only [Command.run, runSetTick, runSetNumbering, runSetFlagMask, runSetCountPoint, runClearFlags]
    split <;> rfl
  all_goals cases h

/-! ## The commands that write strings -/

theorem carriedOut_keepsPeriodLaws {s t : State} (adjusted : Bool) (h : EachKeepsPeriodLaws s t) :
    EachKeepsPeriodLaws s (carriedOut adjusted t).state := h

theorem runLoadGrid_keepsPeriodLaws (params : List Payload) (s : State) :
    EachKeepsPeriodLaws s (runLoadGrid params s).state := by
  unfold runLoadGrid
  split
  · refine withString_keeps _ _ _ (.refl s) fun i => ?_
    split
    · exact .refl s
    · split
      · exact .refl s
      · exact carriedOut_keepsPeriodLaws _ (.modifyString i _ s (SamePeriods.kept ⟨rfl, rfl, rfl⟩))
  · exact .refl s

/-- LOAD PROFILE clears the validator with the stage, so a smaller LOSS_N meets a miss count of 0 (R34, R47). -/
theorem runLoadProfile_keepsPeriodLaws (params : List Payload) (s : State) :
    EachKeepsPeriodLaws s (runLoadProfile params s).state := by
  unfold runLoadProfile
  split
  · split
    · exact .refl s
    · next p hp =>
      refine withString_keeps _ _ _ (.refl s) fun i => ?_
      split
      · exact .refl s
      · have loaded : EachKeepsPeriodLaws s (s.modifyString i (·.loadProfile p)) :=
          .modifyString i _ s (.cleared (fun _ => profileInRange_of_words hp) rfl id)
        exact loaded.trans (abortRecord_keepsPeriodLaws i _)
  · exact .refl s

theorem runLoadAction_keepsPeriodLaws (params : List Payload) (s : State) :
    EachKeepsPeriodLaws s (runLoadAction params s).state := by
  unfold runLoadAction
  split
  · split
    · exact .refl s
    · exact withString_keeps _ _ _ (.refl s) fun i =>
        carriedOut_keepsPeriodLaws _ (.modifyString i _ s (SamePeriods.kept ⟨rfl, rfl, rfl⟩))
  · exact .refl s

theorem runLoadCrosstalk_keepsPeriodLaws (params : List Payload) (s : State) :
    EachKeepsPeriodLaws s (runLoadCrosstalk params s).state := by
  unfold runLoadCrosstalk
  split
  · exact withString_keeps _ _ _ (.refl s) fun i =>
      carriedOut_keepsPeriodLaws _ (.modifyString i _ s (SamePeriods.kept ⟨rfl, rfl, rfl⟩))
  · exact .refl s

theorem runSetStyle_keepsPeriodLaws (params : List Payload) (s : State) :
    EachKeepsPeriodLaws s (runSetStyle params s).state := by
  unfold runSetStyle
  split
  · exact forStrings_keepsPeriodLaws (fun i t => .modifyString i _ t (SamePeriods.kept ⟨rfl, rfl, rfl⟩)) _ s
  · exact .refl s

theorem runStringOn_keepsPeriodLaws (params : List Payload) (s : State) :
    EachKeepsPeriodLaws s (runStringOn params s).state := by
  unfold runStringOn
  split
  · split
    · exact .refl s
    · exact forStrings_keepsPeriodLaws (fun i t => (onString_event i t).keepsPeriodLaws (onString_touches i t)) _ s
  · exact .refl s

theorem runStringOff_keepsPeriodLaws (params : List Payload) (s : State) :
    EachKeepsPeriodLaws s (runStringOff params s).state := by
  unfold runStringOff
  split
  · exact forStrings_keepsPeriodLaws (fun i t => (offString_event i t).keepsPeriodLaws (offString_touches i t)) _ s
  · exact .refl s

theorem runAllNotesEnd_keepsPeriodLaws (params : List Payload) (s : State) :
    EachKeepsPeriodLaws s (runAllNotesEnd params s).state := by
  unfold runAllNotesEnd
  split
  · exact forStrings_keepsPeriodLaws (fun i t => (panicString_event i t).keepsPeriodLaws (panicString_touches i t)) _ s
  · exact .refl s

/-- A change of one string's record, by what it makes of a lawful record. -/
theorem modifyRecord_keepsPeriodLaws (i : StringNo) (f : Measurement → Measurement) (s : State)
    (h : recordLawful (s.string i).record = true → recordLawful (f (s.string i).record) = true) :
    EachKeepsPeriodLaws s (s.modifyRecord i f) :=
  .modifyString i _ s ⟨id, fun _ => id, h⟩

/-- MEASURE sets a record up with N and T clamped to their ranges (R185). -/
theorem runMeasure_keepsPeriodLaws (params : List Payload) (s : State) :
    EachKeepsPeriodLaws s (runMeasure params s).state := by
  unfold runMeasure
  split
  · refine withString_keeps _ _ _ (.refl s) fun i => ?_
    split
    · exact .refl s
    · exact carriedOut_keepsPeriodLaws _ (modifyRecord_keepsPeriodLaws i _ s fun _ =>
        recordLawful_start (clamp_range (by decide) _) (clamp_range (by decide) _))
  · exact .refl s

theorem runMeasureCancel_keepsPeriodLaws (params : List Payload) (s : State) :
    EachKeepsPeriodLaws s (runMeasureCancel params s).state := by
  unfold runMeasureCancel
  split
  · refine withString_keeps _ _ _ (.refl s) fun i => ?_
    split
    · exact carriedOut_keepsPeriodLaws _ (modifyRecord_keepsPeriodLaws i _ s fun law =>
        recordLawful_toIdle ((recordLawful_iff _).mp law).1)
    · exact .refl s
  · exact .refl s

/-- RESTORE DEFAULTS returns the profiles, clears the validators and aborts the measurements (R35, R182). -/
theorem runRestoreDefaults_keepsPeriodLaws (params : List Payload) (s : State) :
    EachKeepsPeriodLaws s (runRestoreDefaults params s).state := by
  have restored : EachKeepsPeriodLaws s (restoredSettings s) := fun i => by
    rw [restoredSettings_string]
    exact .cleared (fun _ => settingsLawful_powerOn.1) rfl id
  unfold runRestoreDefaults
  split
  · split
    · exact .refl s
    · exact restored.trans (forStrings_keepsPeriodLaws abortRecord_keepsPeriodLaws _ _)
  · exact .refl s

/-- RESTART clears the validators and drops the records (R9, R192). -/
theorem runRestart_keepsPeriodLaws (params : List Payload) (s : State) :
    EachKeepsPeriodLaws s (runRestart params s).state := by
  have lost (b : StringBlock) : PeriodLawsKept b b.linkLoss := .cleared id rfl recordLawful_drop
  unfold runRestart
  split
  · exact eachKeepsPeriodLaws_ofStrings s (EachKeepsPeriodLaws.modifyAll (·.linkLoss) s lost) rfl rfl
  · exact .refl s

/-- Every command's run keeps the two laws. -/
theorem run_keepsPeriodLaws (c : Command) (params : List Payload) (s : State) :
    EachKeepsPeriodLaws s (c.run params s).state := by
  cases c
  case loadGrid => exact runLoadGrid_keepsPeriodLaws params s
  case loadProfile => exact runLoadProfile_keepsPeriodLaws params s
  case loadAction => exact runLoadAction_keepsPeriodLaws params s
  case loadCrosstalk => exact runLoadCrosstalk_keepsPeriodLaws params s
  case setStyle => exact runSetStyle_keepsPeriodLaws params s
  case stringOn => exact runStringOn_keepsPeriodLaws params s
  case stringOff => exact runStringOff_keepsPeriodLaws params s
  case allNotesEnd => exact runAllNotesEnd_keepsPeriodLaws params s
  case measure => exact runMeasure_keepsPeriodLaws params s
  case measureCancel => exact runMeasureCancel_keepsPeriodLaws params s
  case restoreDefaults => exact runRestoreDefaults_keepsPeriodLaws params s
  case restart => exact runRestart_keepsPeriodLaws params s
  all_goals exact eachKeepsPeriodLaws_of_strings (run_strings rfl params s)

/-! ## O9 -/

theorem keepsPeriodLaws_keptByCommands (s : State) : KeptByCommands (EachKeepsPeriodLaws s) where
  ofStrings := eachKeepsPeriodLaws_ofStrings s
  run c params t h := h.trans (run_keepsPeriodLaws c params t)
  seek i t h := h.trans (seekSlot_keepsPeriodLaws i t)

/-- A string at power-on meets both laws (R47, R184). -/
theorem periodLawsKept_powerOn (b : StringBlock) : PeriodLawsKept b .powerOn :=
  .cleared (fun _ => settingsLawful_powerOn.1) rfl fun _ => by decide

/-- Whatever happens, the two laws are kept. -/
theorem Happens.keepsPeriodLaws {s t : State} (h : Happens s t) : EachKeepsPeriodLaws s t := by
  have commands := keepsPeriodLaws_keptByCommands s
  cases h with
  | nothing => exact .refl s
  | powerOn =>
    intro i
    rw [show State.string { State.reset with pending := s.pending } i = .powerOn from reset_string i]
    exact periodLawsKept_powerOn _
  | slot f order => exact pickupSlot_keepsPeriodLaws f order s
  | words f => exact commands.downstream f s (.refl s)
  | frame => exact commands.upstream s (.refl s)
  | period => exact dividerPeriod_keepsPeriodLaws s
  | command code params => exact commands.sendCommand code params s (.refl s)
  | attack i => exact (quietTimers_keepsPeriodLaws i s).trans (attackOnce_keepsPeriodLaws i _)
  | release i => exact (quietTimers_keepsPeriodLaws i s).trans (releaseOnce_keepsPeriodLaws i _)
  | update i => exact (quietTimers_keepsPeriodLaws i s).trans (updateOnce_keepsPeriodLaws i _)
  | record i => exact recordOnce_keepsPeriodLaws i s

/-- Settles O9: every step changes each string's blocks so that the two laws are kept, the validator's with the profile in
range. -/
theorem stepKeepsTheValidatorAndRecordLaws : Obligations.StepKeepsTheValidatorAndRecordLaws := by
  intro s t h
  have kept : EachKeepsPeriodLaws s t :=
    step_keeps (P := EachKeepsPeriodLaws s) (fun u _ k => k.trans (eachKeepsPeriodLaws_of_strings rfl))
      (fun _ _ happens k => k.trans happens.keepsPeriodLaws) h (.refl s)
  exact ⟨fun ⟨_, settings⟩ law i => (kept i).validator (settings i).1 (law i), fun law i => (kept i).record (law i)⟩

end Sys2Proof.Machine
end

section
/-!
PROOFS. A lookup in a loaded grid (O17), its boundary periods and its bounds (O18), and the notes, bends, grades and velocities
made of what it answers (O19).
-/

namespace Sys2Proof.Machine

open Sys2Proof.Safety

/-! ## The entries of a loaded grid -/

/-- In a falling list every element is at least any later one. -/
theorem getD_le_of_falling {l : List Nat} (falls : l.Pairwise (· > ·)) {j k : Nat} (hjk : j ≤ k) (hk : k < l.length) :
    l.getD k 0 ≤ l.getD j 0 := by
  rcases hjk.eq_or_lt with rfl | hlt
  · exact le_rfl
  · simpa [hk, hlt.trans hk] using (List.pairwise_iff_getElem.mp falls j k (hlt.trans hk) hk hlt).le

/-- The period entry at a position; 0 past the last. -/
def Grid.entry (g : Grid) (k : Nat) : Nat := g.entries.getD k 0

theorem Grid.entry_le {g : Grid} (h : LoadedGrid g) {j k : Nat} (hjk : j ≤ k) (hk : k < g.entries.length) :
    g.entry k ≤ g.entry j :=
  getD_le_of_falling h.decreasing hjk hk

/-- The entries fall strictly from each position to the next (R52). -/
theorem Grid.entry_succ_lt {g : Grid} (h : LoadedGrid g) {k : Nat} (hk : k + 1 < g.entries.length) :
    g.entry (k + 1) < g.entry k := by
  simpa [Grid.entry, hk, Nat.lt_of_succ_lt hk] using
    List.pairwise_iff_getElem.mp h.decreasing k (k + 1) (Nat.lt_of_succ_lt hk) hk (Nat.lt_succ_self k)

theorem Grid.headD_eq (g : Grid) : g.entries.headD 0 = g.entry 0 := by
  cases hg : g.entries <;> simp [Grid.entry, hg]

theorem Grid.getLastD_eq (g : Grid) : g.entries.getLastD 0 = g.entry (g.entries.length - 1) := by
  rw [Grid.entry, List.getLastD_eq_getLast?, List.getLast?_eq_getElem?, List.getD_eq_getElem?_getD]

/-- The period lies between a position's entry and the next one: the lookup answers IN at that position (R58). -/
structure Grid.Between (g : Grid) (p k : Nat) : Prop where
  position : k + 1 < g.entries.length
  above : p ≤ g.entry k
  below : g.entry (k + 1) < p

/-- A longer period lies at the same position or an earlier one. -/
theorem Grid.Between.le_of_le {g : Grid} (h : LoadedGrid g) {p q j k : Nat} (hp : g.Between p j) (hq : g.Between q k)
    (hpq : p ≤ q) : k ≤ j := by
  by_contra later
  have falls := Grid.entry_le h (Nat.lt_of_not_le later) (Nat.lt_of_succ_lt hq.position)
  exact absurd ((hpq.trans hq.above).trans falls) (Nat.not_le.mpr hp.below)

/-- The position before the first entry that is below the period. -/
theorem Grid.exists_between {g : Grid} {p : Nat} (first : p ≤ g.entry 0) (last : g.entry (g.entries.length - 1) < p) :
    ∃ k, g.Between p k := by
  have below : ∃ j, g.entry j < p := ⟨_, last⟩
  have found := Nat.find_spec below
  have early : Nat.find below ≤ g.entries.length - 1 := Nat.find_min' below last
  obtain ⟨k, hk⟩ : ∃ k, Nat.find below = k + 1 := by
    refine Nat.exists_eq_succ_of_ne_zero fun zero => ?_
    rw [zero] at found
    omega
  have above : ¬ g.entry k < p := Nat.find_min below (by omega)
  exact ⟨k, by omega, Nat.not_lt.mp above, hk ▸ found⟩

/-! ## The three cases of a lookup -/

/-- The pitch value of a period at a position: the position's note and the fraction of the way to the next (R58). -/
def Grid.pitchAt (g : Grid) (p k : Nat) : Nat := 64 * (g.base + k) + (g.entry k - p) * 64 / (g.entry k - g.entry (k + 1))

/-- The walk along the entries stops at the position the period lies at. -/
theorem pitchWithin_eq {l : List Nat} {note p k : Nat} (falls : l.Pairwise (· > ·)) (hk : k + 1 < l.length)
    (above : p ≤ l.getD k 0) (below : l.getD (k + 1) 0 < p) :
    pitchWithin note p l = 64 * (note + k) + (l.getD k 0 - p) * 64 / (l.getD k 0 - l.getD (k + 1) 0) := by
  obtain ⟨here, next, rest, rfl⟩ : ∃ here next rest, l = here :: next :: rest := by
    rcases l with _ | ⟨here, _ | ⟨next, rest⟩⟩ <;> simp at hk ⊢
  induction k generalizing here next rest note with
  | zero =>
    rw [pitchWithin, if_pos (by simpa using below)]
    rfl
  | succ k ih =>
    rw [List.getD_cons_succ] at above below
    have tail := (List.pairwise_cons.mp falls).2
    have further : k + 1 < (next :: rest).length := Nat.lt_of_succ_lt_succ hk
    obtain ⟨after, more, rfl⟩ : ∃ after more, rest = after :: more := by
      cases rest <;> simp at further ⊢
    have reaches : p ≤ next := above.trans (getD_le_of_falling tail k.zero_le (Nat.lt_of_succ_lt further))
    rw [pitchWithin, if_neg reaches.not_gt, ih next after more tail further above below, List.getD_cons_succ, List.getD_cons_succ]
    congr 2
    omega

theorem Grid.lookup_under {g : Grid} {p : Nat} (h : g.entry 0 < p) : g.lookup p = (.under, 64 * g.base) := by
  rw [Grid.lookup, Grid.headD_eq, if_pos h]

theorem Grid.lookup_over {g : Grid} (h : LoadedGrid g) {p : Nat} (hp : p ≤ g.entry (g.entries.length - 1)) :
    g.lookup p = (.over, 64 * (g.base + g.entries.length - 1)) := by
  have size := h.size.1
  have first := hp.trans (Grid.entry_le h (Nat.zero_le _) (by omega))
  rw [Grid.lookup, Grid.headD_eq, Grid.getLastD_eq, if_neg first.not_gt, if_pos hp]

theorem Grid.lookup_within {g : Grid} (h : LoadedGrid g) {p k : Nat} (hk : g.Between p k) :
    g.lookup p = (.within, g.pitchAt p k) := by
  obtain ⟨position, above, below⟩ := hk
  have first := above.trans (Grid.entry_le h k.zero_le (Nat.lt_of_succ_lt position))
  have last := (Grid.entry_le h (show k + 1 ≤ g.entries.length - 1 by omega) (by omega)).trans_lt below
  rw [Grid.lookup, Grid.headD_eq, Grid.getLastD_eq, if_neg first.not_gt, if_neg last.not_ge,
    pitchWithin_eq h.decreasing position above below]
  rfl

/-- Every lookup is one of the three cases of R58. -/
theorem Grid.lookup_cases {g : Grid} (h : LoadedGrid g) (p : Nat) :
    (g.entry 0 < p ∧ g.lookup p = (.under, 64 * g.base)) ∨
    (p ≤ g.entry (g.entries.length - 1) ∧ g.lookup p = (.over, 64 * (g.base + g.entries.length - 1))) ∨
    ∃ k, g.Between p k ∧ g.lookup p = (.within, g.pitchAt p k) := by
  by_cases first : p ≤ g.entry 0
  · by_cases last : p ≤ g.entry (g.entries.length - 1)
    · exact .inr (.inl ⟨last, Grid.lookup_over h last⟩)
    · obtain ⟨k, hk⟩ := Grid.exists_between first (Nat.not_le.mp last)
      exact .inr (.inr ⟨k, hk, Grid.lookup_within h hk⟩)
  · exact .inl ⟨Nat.not_le.mp first, Grid.lookup_under (Nat.not_le.mp first)⟩

end Sys2Proof.Machine

namespace Sys2Proof.Proofs

open Sys2Proof.Machine Sys2Proof.Safety

/-- Settles O17, in a namespace where its name does not meet the model's `gridLookup`. -/
theorem gridLookup : Obligations.GridLookup := by
  intro g p h n entry
  refine ⟨fun first => congrArg some (Grid.lookup_under first), fun last => congrArg some (Grid.lookup_over h last),
    fun k position above below => congrArg some (Grid.lookup_within h ⟨position, above, below⟩), fun first last => ?_, rfl⟩
  obtain ⟨k, hk⟩ := Grid.exists_between first last
  refine ⟨k, ⟨hk.position, hk.above, hk.below⟩, fun j ⟨position, above, below⟩ => ?_⟩
  have hj : g.Between p j := ⟨position, above, below⟩
  exact le_antisymm (hk.le_of_le h hj le_rfl) (hj.le_of_le h hk le_rfl)

end Sys2Proof.Proofs

namespace Sys2Proof.Machine

open Sys2Proof.Safety

/-! ## Boundary periods and bounds -/

/-- The pitch value at an entry's own period is its note's (R59). -/
theorem Grid.pitchAt_entry (g : Grid) (k : Nat) : g.pitchAt (g.entry k) k = 64 * (g.base + k) := by
  simp [Grid.pitchAt]

/-- The fraction of the way to the next position stays below 64 (R58). -/
theorem Grid.Between.pitchAt_lt {g : Grid} {p k : Nat} (hk : g.Between p k) : g.pitchAt p k < 64 * (g.base + k) + 64 := by
  have above := hk.above
  have below := hk.below
  refine Nat.add_lt_add_left (Nat.div_lt_of_lt_mul ?_) _
  exact Nat.mul_lt_mul_of_pos_right (by omega) (by decide)

/-- The pitch value lies between the grid's base and its top (R59). -/
theorem Grid.lookup_bounds {g : Grid} (h : LoadedGrid g) (p : Nat) :
    64 * g.base ≤ (g.lookup p).2 ∧ (g.lookup p).2 ≤ 64 * (g.base + g.entries.length - 1) := by
  have size := h.size.1
  rcases Grid.lookup_cases h p with ⟨_, found⟩ | ⟨_, found⟩ | ⟨k, hk, found⟩ <;> rw [found]
  · exact ⟨le_rfl, by dsimp only; omega⟩
  · exact ⟨by dsimp only; omega, le_rfl⟩
  · have position := hk.position
    have fraction := hk.pitchAt_lt
    have base : 64 * (g.base + k) ≤ g.pitchAt p k := Nat.le_add_right _ _
    exact ⟨by dsimp only; omega, by dsimp only; omega⟩

/-- A pitch value is at most 8,128, that of note 127 (R59). -/
theorem Grid.lookup_le {g : Grid} (h : LoadedGrid g) (p : Nat) : (g.lookup p).2 ≤ 8128 := by
  have := (Grid.lookup_bounds h p).2
  have := h.top
  omega

/-- The pitch value never decreases as the period falls (R59). -/
theorem Grid.lookup_antitone {g : Grid} (h : LoadedGrid g) {p q : Nat} (hpq : p ≤ q) : (g.lookup q).2 ≤ (g.lookup p).2 := by
  rcases Grid.lookup_cases h q with ⟨_, found⟩ | ⟨last, _⟩ | ⟨k, hk, found⟩
  · rw [found]
    exact (Grid.lookup_bounds h p).1
  · rw [Grid.lookup_over h (hpq.trans last)]
    exact (Grid.lookup_bounds h q).2
  rcases Grid.lookup_cases h p with ⟨first, _⟩ | ⟨_, top⟩ | ⟨j, hj, within⟩
  · rw [Grid.lookup_under first, Grid.lookup_under (first.trans_le hpq)]
  · rw [top]
    exact (Grid.lookup_bounds h q).2
  rw [found, within]
  rcases (hj.le_of_le h hk hpq).eq_or_lt with rfl | earlier
  · exact Nat.add_le_add_left (Nat.div_le_div_right (Nat.mul_le_mul_right 64 (Nat.sub_le_sub_left hpq _))) _
  · have fraction := hk.pitchAt_lt
    have base : 64 * (g.base + j) ≤ g.pitchAt p j := Nat.le_add_right _ _
    dsimp only
    omega

/-- A lookup of an entry's own period, the last apart (R59). -/
theorem Grid.lookup_entry {g : Grid} (h : LoadedGrid g) {k : Nat} (hk : k + 1 < g.entries.length) :
    g.lookup (g.entry k) = (.within, 64 * (g.base + k)) := by
  rw [Grid.lookup_within h ⟨hk, le_rfl, Grid.entry_succ_lt h hk⟩, Grid.pitchAt_entry]

/-- Settles O18. -/
theorem gridBoundaries : Obligations.GridBoundaries := by
  intro g h n entry
  have first : g.lookup (entry 0) = (.within, 64 * g.base) := Grid.lookup_entry h h.size.1
  refine ⟨first, fun k _ hk => Grid.lookup_entry h hk, Grid.lookup_over h le_rfl, fun p hp => ?_,
    fun p q => Grid.lookup_antitone h, fun p => ⟨(Grid.lookup_bounds h p).1, (Grid.lookup_bounds h p).2, Grid.lookup_le h p⟩⟩
  rw [first, Grid.lookup_under hp]

/-! ## Notes and bends -/

/-- The bend from the nearest note is less than a half step either way (R61). -/
theorem bendOf_noteOf (pv : Nat) : -32 ≤ bendOf pv (noteOf pv) ∧ bendOf pv (noteOf pv) ≤ 31 := by
  unfold bendOf noteOf
  omega

/-- The nearest note lies where the pitch value does (R61). -/
theorem noteOf_between {pv low high : Nat} (hlow : 64 * low ≤ pv) (hhigh : pv ≤ 64 * high) :
    low ≤ noteOf pv ∧ noteOf pv ≤ high := by
  unfold noteOf
  omega

/-! ## Velocity grades -/

/-- The grade of an envelope value whose highest 1 bit is bit k + 2: that bit and the two below it give 4 to 7 (R64). -/
theorem gradeOf_eq {k e : Nat} (hk : Nat.log2 e = k + 2) : gradeOf e = 4 * k + e / 2 ^ k ∧ 4 ≤ e / 2 ^ k ∧ e / 2 ^ k < 8 := by
  have present : e ≠ 0 := by
    rintro rfl
    cases hk
  obtain ⟨low, high⟩ := (Nat.log2_eq_iff present).mp hk
  have power : 2 ^ (k + 2) = 4 * 2 ^ k := by ring
  have double : 2 ^ (k + 2 + 1) = 8 * 2 ^ k := by ring
  have positive : 0 < 2 ^ k := Nat.two_pow_pos k
  have least : 4 ≤ e / 2 ^ k := (Nat.le_div_iff_mul_le positive).mpr (power ▸ low)
  have most : e / 2 ^ k < 8 := (Nat.div_lt_iff_lt_mul positive).mpr (double ▸ high)
  refine ⟨?_, least, most⟩
  rw [gradeOf, if_neg (by omega), hk, Nat.add_sub_cancel]
  omega

/-- An envelope value of at least 4 has a bit above its two lowest. -/
theorem exists_log2 {e : Nat} (h : 4 ≤ e) : ∃ k, Nat.log2 e = k + 2 :=
  ⟨Nat.log2 e - 2, (Nat.sub_add_cancel ((Nat.le_log2 (by omega)).mpr h)).symm⟩

/-- A grade counts the bits of the envelope value above its lowest in fours, and adds the two bits below its highest (R64). -/
theorem gradeOf_octave {m quarter rest : Nat} (hm : 2 ≤ m) (hquarter : quarter ≤ 3) (hrest : rest < 2 ^ (m - 2)) :
    gradeOf (2 ^ m + quarter * 2 ^ (m - 2) + rest) = 4 * (m - 1) + quarter := by
  obtain ⟨k, rfl⟩ : ∃ k, m = k + 2 := ⟨m - 2, by omega⟩
  rw [Nat.add_sub_cancel] at hrest ⊢
  have positive : 0 < 2 ^ k := Nat.two_pow_pos k
  have value : 2 ^ (k + 2) + quarter * 2 ^ k + rest = rest + 2 ^ k * (4 + quarter) := by ring
  have size : 2 ^ k * (4 + quarter) ≤ 2 ^ k * 7 := Nat.mul_le_mul_left _ (by omega)
  have octave : Nat.log2 (rest + 2 ^ k * (4 + quarter)) = k + 2 := by
    rw [Nat.log2_eq_iff (by positivity), pow_add 2 (k + 2), pow_add]
    constructor <;> nlinarith
  rw [value, (gradeOf_eq octave).1, Nat.add_mul_div_left _ _ positive, Nat.div_eq_of_lt hrest]
  omega

/-- The grade never falls as the envelope value grows (R64). -/
theorem gradeOf_mono {d e : Nat} (hde : d ≤ e) : gradeOf d ≤ gradeOf e := by
  by_cases hd : d < 4
  · have small : gradeOf d = d := if_pos hd
    by_cases he : e < 4
    · rwa [small, show gradeOf e = e from if_pos he]
    · obtain ⟨k, hk⟩ := exists_log2 (Nat.not_lt.mp he)
      have := gradeOf_eq hk
      omega
  · obtain ⟨j, hj⟩ := exists_log2 (Nat.not_lt.mp hd)
    obtain ⟨k, hk⟩ := exists_log2 ((Nat.not_lt.mp hd).trans hde)
    obtain ⟨gradeD, _, most⟩ := gradeOf_eq hj
    obtain ⟨gradeE, least, _⟩ := gradeOf_eq hk
    have bits : Nat.log2 d ≤ Nat.log2 e := by
      rw [Nat.log2_eq_log_two, Nat.log2_eq_log_two]
      exact Nat.log_mono_right hde
    rw [gradeD, gradeE]
    rcases (show j ≤ k by omega).eq_or_lt with rfl | higher
    · exact Nat.add_le_add_left (Nat.div_le_div_right hde) _
    · omega

/-- The envelope's top, 32,768, has grade 56 (R64). -/
theorem gradeOf_le {e : Nat} (h : e ≤ 32768) : gradeOf e ≤ 56 := gradeOf_mono h

/-- Settles O19. -/
theorem noteBendAndVelocity : Obligations.NoteBendAndVelocity := by
  refine ⟨fun pv => ⟨rfl, rfl, bendOf_noteOf pv⟩, by decide, fun g p h => ?_, fun e h => if_pos h,
    fun m quarter rest low _ => gradeOf_octave low, fun _ _ => gradeOf_mono, fun _ => gradeOf_le, by decide, fun grade => ?_⟩
  · obtain ⟨low, high⟩ := Grid.lookup_bounds h p
    obtain ⟨least, most⟩ := noteOf_between low high
    exact ⟨least, most, most.trans h.top⟩
  · unfold sourceVelocity
    omega

end Sys2Proof.Machine
end

section
/-!
PROOFS. The ranges of what a string's blocks give its messages, and of the messages the MAP point makes of it (O10).
-/

namespace Sys2Proof.Machine

open Sys2Proof.Safety

/-! ## The ranges of a string's blocks -/

/-- The values a note context gives its messages lie in range, clause by clause (R61, R64, R82, R110). -/
structure ContextRanges (c : NoteContext) : Prop where
  note : c.note ≤ 127
  pv : c.pvComputed ≤ 8128
  grade : c.grade ≤ 59
  bendSpan : c.latched.bendSpan ≤ 24
  noteFixed : c.latched.noteSel.fixed ≤ 127
  velocityFixed : c.latched.velocitySel.fixed ≤ 127
  lane : c.latched.lane.getD 0 ≤ 15

theorem contextInRange_iff (c : NoteContext) : contextInRange c = true ↔ ContextRanges c := by
  rw [contextInRange, decide_eq_true_eq]
  exact ⟨fun ⟨note, pv, grade, span, noteFixed, velocityFixed, lane⟩ => ⟨note, pv, grade, span, noteFixed, velocityFixed, lane⟩,
    fun h => ⟨h.note, h.pv, h.grade, h.bendSpan, h.noteFixed, h.velocityFixed, h.lane⟩⟩

/-- What of a string's blocks the messages of the string rest on lies in range: the grid, the action entry, the envelope, the
attack peak and the open note (R24, R52, R61, R82, R110). -/
structure BlockRanges (b : StringBlock) : Prop where
  grid : ∀ g, b.grid = some g → LoadedGrid g
  action : actionInRange b.action = true
  stage : StageLawful b.stage
  peak : b.tracker.attackPeak ≤ 32768
  context : ∀ c, b.tracker.context = some c → ContextRanges c

/-- The bounds of an action entry the messages rest on (R110). -/
theorem actionInRange_bounds {a : Action} (h : actionInRange a = true) :
    a.noteSel.fixed ≤ 127 ∧ a.velocitySel.fixed ≤ 127 ∧ a.bendSpan ≤ 24 := by
  rw [actionInRange, decide_eq_true_eq] at h
  omega

/-- The note of a pitch value of at most 8,128 (R61). -/
theorem noteOf_le {pv : Nat} (h : pv ≤ 8128) : noteOf pv ≤ 127 := by
  unfold noteOf
  omega

/-- The context a start opens (R83, R114). -/
theorem openContext_ranges {b : StringBlock} (h : BlockRanges b) (bankB : Bool) (form : NumberingForm) {pv : Nat}
    (hpv : pv ≤ 8128) (cause : StartCause) {grade : Nat} (hgrade : grade ≤ 59) (peak : Nat) (early : Bool) :
    ContextRanges (openContext b bankB form pv cause grade peak early) := by
  obtain ⟨noteFixed, velocityFixed, span⟩ := actionInRange_bounds h.action
  exact ⟨noteOf_le hpv, hpv, hgrade, span, noteFixed, velocityFixed,
    Nat.zero_le 15⟩

/-- A context that takes another pitch value and its note (R96, R97). -/
theorem ContextRanges.withPitch {c : NoteContext} (h : ContextRanges c) (early : Bool) {pv : Nat} (hpv : pv ≤ 8128) :
    ContextRanges { c with early := early, pvComputed := pv, note := noteOf pv } :=
  ⟨noteOf_le hpv, hpv, h.grade, h.bendSpan, h.noteFixed, h.velocityFixed,
    h.lane⟩

/-- A lookup in a loaded grid answers a pitch value of at most 8,128 (R59). -/
theorem gridLookup_le {grid : Option Grid} (loaded : ∀ g, grid = some g → LoadedGrid g) {p : Nat} {found : GridOutcome × Nat}
    (h : gridLookup grid p = some found) : found.2 ≤ 8128 := by
  obtain ⟨g, hg, rfl⟩ := Option.map_eq_some_iff.mp h
  exact Grid.lookup_le (loaded g hg) p

/-- The pitch value of an early start (R93). -/
theorem earlyPitch_le {grid : Option Grid} (loaded : ∀ g, grid = some g → LoadedGrid g) {ring : List RawRecord} {pv : Nat}
    (h : earlyPitch grid ring = some pv) : pv ≤ 8128 := by
  induction ring with
  | nil => cases h
  | cons r older ih =>
    rw [earlyPitch] at h
    split at h
    · next found =>
      obtain rfl := Option.some.inj h
      exact gridLookup_le loaded found
    · exact ih h

/-- The grade of an attack peak or an envelope in range (R64). -/
theorem gradeOf_le_top {e : Nat} (h : e ≤ 32768) : gradeOf e ≤ 59 := (gradeOf_le h).trans (by decide)

/-! ## The fields MAP makes -/

/-- A table's value is at most 127 (R116). -/
theorem MapTable.lookup_le {t : MapTable} {base : Nat} {keys : MapKeys} {v : Nat} (h : t.lookup base keys = some v) :
    v ≤ 127 := by
  obtain ⟨key, _, entry⟩ := Option.bind_eq_some_iff.mp h
  obtain ⟨value, _, rfl⟩ := Option.map_eq_some_iff.mp entry
  exact Nat.le_of_lt_succ value.isLt

/-- A selector's value is its source value, its fixed value or a table's (R121). -/
theorem Selector.resolve_le {sel : Selector} {source : Nat} (tables : Vector MapTable 4) (base : Nat) (keys : MapKeys)
    (hfixed : sel.fixed ≤ 127) (hsource : source ≤ 127) : sel.resolve tables base keys source ≤ 127 := by
  have orElse {found : Option Nat} {d : Nat} (hfound : ∀ v, found = some v → v ≤ 127) (hd : d ≤ 127) :
      found.getD d ≤ 127 := by
    cases found with
    | none => exact hd
    | some v => exact hfound v rfl
  unfold Selector.resolve
  split
  · exact hsource
  · exact hfixed
  · exact orElse (fun _ => MapTable.lookup_le) hsource
  · refine orElse (fun v hv => ?_) hfixed
    rcases Option.or_eq_some_iff.mp hv with first | ⟨_, second⟩
    · exact MapTable.lookup_le first
    · exact MapTable.lookup_le second

theorem laneField_le (v : Nat) : laneField v ≤ 15 := Nat.le_of_lt_succ (Nat.mod_lt v (by decide))

/-- A velocity field of at most 127 is never 0 (R122). -/
theorem velocityField_range {v : Nat} (h : v ≤ 127) : 1 ≤ velocityField v ∧ velocityField v ≤ 127 := by
  unfold velocityField
  split <;> omega

/-- A bend clamped to a span of at most 24 semitones (R110, R126). -/
theorem clampBend_range {span : Nat} (h : span ≤ 24) (bend : Int) :
    -1536 ≤ clampBend span bend ∧ clampBend span bend ≤ 1536 := by
  rw [clampBend, clampInt_eq (by omega)]
  omega

theorem sourceVelocity_le {grade : Nat} (h : grade ≤ 59) : sourceVelocity grade ≤ 127 := by
  unfold sourceVelocity
  omega

theorem trackerLane_le (tables : Vector MapTable 4) (i : StringNo) (b : StringBlock) {c : NoteContext} (hc : ContextRanges c)
    (m : TrackerMessage) (keys : MapKeys) : trackerLane tables i b c m keys ≤ 15 := by
  unfold trackerLane
  split
  · exact laneField_le _
  · exact laneField_le _
  all_goals exact hc.lane

theorem trackerNote_le (tables : Vector MapTable 4) (b : StringBlock) {c : NoteContext} (hc : ContextRanges c) (keys : MapKeys) :
    trackerNote tables b c keys ≤ 127 := by
  have source : sourceNote b.grid c ≤ 127 := by
    unfold sourceNote
    split
    · exact hc.note
    · exact (Nat.sub_le _ _).trans hc.note
  exact Selector.resolve_le tables _ keys hc.noteFixed source

theorem trackerVelocity_range (tables : Vector MapTable 4) {c : NoteContext} (hc : ContextRanges c) (keys : MapKeys) {grade : Nat}
    (hgrade : grade ≤ 59) : 1 ≤ trackerVelocity tables c keys grade ∧ trackerVelocity tables c keys grade ≤ 127 :=
  velocityField_range (Selector.resolve_le tables _ keys hc.velocityFixed (sourceVelocity_le hgrade))

/-- The message MAP makes of a tracker message whose grade is in range (R122, R123, R126). -/
theorem mapTracker_inRange (tables : Vector MapTable 4) (i : StringNo) (b : StringBlock) {c : NoteContext} (hc : ContextRanges c)
    {m : TrackerMessage} (hgrade : m.grade c ≤ 59) : messageInRange (mapTracker tables i b c m) = true := by
  set keys := trackerKeys i b.grid c (m.grade c) with hkeys
  have lane := trackerLane_le tables i b hc m keys
  have note := trackerNote_le tables b hc keys
  have velocity := trackerVelocity_range tables hc keys hgrade
  have bend (pv : Nat) := clampBend_range hc.bendSpan (bendOf pv c.note)
  rw [messageInRange, Bool.and_eq_true, decide_eq_true_eq]
  refine ⟨lane, ?_⟩
  cases m with
  | start => exact decide_eq_true ⟨note, velocity.1, velocity.2, bend _⟩
  | pitch => exact decide_eq_true ⟨note, bend _⟩
  | restrike => exact decide_eq_true velocity
  | noteEnd => rfl

/-- The fields of an INJECT after clamping (R137). -/
structure InjectionRanges (j : Injection) : Prop where
  note : j.note ≤ 127
  grade : j.grade ≤ 59
  velocity : 1 ≤ j.velocity ∧ j.velocity ≤ 127
  lane : j.lane ≤ 15

/-- A message of an injection, from a lane, note and velocity in range (R137, R138). -/
theorem injected_inRange {b : StringBlock} (h : actionInRange b.action = true) (j : Injection) {lane note velocity : Nat}
    (hlane : lane ≤ 15) (hnote : note ≤ 127) (hvelocity : 1 ≤ velocity ∧ velocity ≤ 127) :
    messageInRange ⟨j.string, lane, false, true, injectedBody b j note velocity⟩ = true := by
  have bend := clampBend_range (actionInRange_bounds h).2.2 j.bend
  rw [messageInRange, Bool.and_eq_true, decide_eq_true_eq]
  refine ⟨hlane, ?_⟩
  unfold injectedBody
  cases j.kind
  · exact decide_eq_true ⟨hnote, hvelocity.1, hvelocity.2, bend⟩
  · exact decide_eq_true ⟨hnote, bend⟩
  · exact decide_eq_true hvelocity
  · rfl

/-- The message MAP makes of an injection (R128). -/
theorem mapInjected_inRange (tables : Vector MapTable 4) {b : StringBlock} (h : actionInRange b.action = true) (bankB : Bool)
    {j : Injection} (hj : InjectionRanges j) : messageInRange (mapInjected tables b bankB j) = true := by
  obtain ⟨noteFixed, velocityFixed, _⟩ := actionInRange_bounds h
  exact injected_inRange h j (laneField_le _) (Selector.resolve_le tables _ _ noteFixed hj.note)
    (velocityField_range (Selector.resolve_le tables _ _ velocityFixed (sourceVelocity_le hj.grade)))

theorem plainInjected_inRange {b : StringBlock} (h : actionInRange b.action = true) {j : Injection} (hj : InjectionRanges j) :
    messageInRange (plainInjected b j) = true :=
  injected_inRange h j hj.lane hj.note hj.velocity

/-! ## The queues at a crossing -/

/-- A queued PITCH replaced in place takes fields in range (R149). -/
theorem replacedPitch_inRange {queued arriving : Message} (hq : messageInRange queued = true)
    (ha : messageInRange arriving = true) : messageInRange (replacedPitch queued arriving) = true := by
  unfold replacedPitch
  split
  · next arrives =>
    rw [messageInRange, arrives] at ha
    exact ha
  · exact hq

/-- What an admission leaves queued was queued, is the message admitted, or was replaced by it (R146 to R149). -/
theorem AdmissionEffect.inRange {m : Message} {q after : EventQueue} {admitted : Bool} (h : AdmissionEffect m q admitted after)
    (hm : messageInRange m = true) (hq : ∀ k ∈ q.entries, messageInRange k = true) :
    ∀ k ∈ after.entries, messageInRange k = true := by
  have tail {l : List Message} (hl : ∀ k ∈ l, messageInRange k = true) : ∀ k ∈ l ++ [m], messageInRange k = true := by
    intro k hk
    rcases List.mem_append.mp hk with old | new
    · exact hl k old
    · exact List.mem_singleton.mp new ▸ hm
  rcases h with ⟨_, rfl⟩ | ⟨_, _, _, rfl⟩ | ⟨_, _, rfl, _⟩ | ⟨_, _, _, rfl⟩ | ⟨_, _, _, rfl⟩
  · exact hq
  · exact tail hq
  · exact tail hq
  · intro k hk
    obtain ⟨old, hold, rfl⟩ := List.mem_map.mp hk
    split
    · exact replacedPitch_inRange (hq old hold) hm
    · exact hq old hold
  · exact tail fun k hk => hq k (List.mem_filter.mp hk).1

end Sys2Proof.Machine
end

section
/-!
PROOFS. The ranges of the messages kept by every crossing of the points and every event of a tracker (O10).
-/

namespace Sys2Proof.Machine

open Sys2Proof.Safety

/-! ## What the messages rest on -/

/-- Every string's blocks and every queued message lie in their ranges. -/
structure MessageRanges (s : State) : Prop where
  string : ∀ i, BlockRanges (s.string i)
  queues : MessageLaw s

/-- The strings and the two message queues stand. -/
structure SameMessages (s t : State) : Prop where
  strings : t.strings = s.strings
  eq : t.eq = s.eq
  mq : t.mq = s.mq

theorem MessageRanges.congr {s t : State} (h : MessageRanges s) (same : SameMessages s t) : MessageRanges t where
  string i := by
    rw [show t.string i = s.string i from congrArg (PerString.get · i) same.strings]
    exact h.string i
  queues := by
    unfold MessageLaw
    rw [same.eq, same.mq]
    exact h.queues

theorem MessageRanges.modifyString {s : State} (h : MessageRanges s) (i : StringNo) (f : StringBlock → StringBlock)
    (hf : BlockRanges (s.string i) → BlockRanges (f (s.string i))) : MessageRanges (s.modifyString i f) where
  string j := by
    rw [State.string_modifyString]
    split
    · exact hf (h.string i)
    · exact h.string j
  queues := h.queues

theorem MessageRanges.modifyAll {s : State} (h : MessageRanges s) (f : StringBlock → StringBlock)
    (hf : ∀ b, BlockRanges b → BlockRanges (f b)) : MessageRanges (s.modifyAll f) where
  string i := by
    rw [State.modifyAll_string]
    exact hf _ (h.string i)
  queues := h.queues

theorem MessageRanges.modifyContext {s : State} (h : MessageRanges s) (i : StringNo) (f : NoteContext → NoteContext)
    (hf : ∀ c, ContextRanges c → ContextRanges (f c)) : MessageRanges (s.modifyContext i f) := by
  refine h.modifyString i _ fun hb => ⟨hb.grid, hb.action, hb.stage, hb.peak, fun c hc => ?_⟩
  obtain ⟨d, hd, rfl⟩ := Option.map_eq_some_iff.mp hc
  exact hf d (hb.context d hd)

theorem MessageRanges.setTracker {s : State} (h : MessageRanges s) (i : StringNo) (k : TrackerState) :
    MessageRanges (s.setTracker i k) :=
  h.modifyString i _ fun hb => ⟨hb.grid, hb.action, hb.stage, hb.peak, hb.context⟩

theorem MessageRanges.modifyTimers {s : State} (h : MessageRanges s) (i : StringNo) (f : Timers → Timers) :
    MessageRanges (s.modifyTimers i f) :=
  h.modifyString i _ fun hb => ⟨hb.grid, hb.action, hb.stage, hb.peak, hb.context⟩

theorem MessageRanges.modifyTicked {s : State} (h : MessageRanges s) (i : StringNo) (f : TickTaken → TickTaken) :
    MessageRanges (s.modifyTicked i f) :=
  h.modifyString i _ fun hb => ⟨hb.grid, hb.action, hb.stage, hb.peak, hb.context⟩

theorem MessageRanges.causeFlag {s : State} (h : MessageRanges s) (f : Flag) : MessageRanges (s.causeFlag f) :=
  h.congr ⟨rfl, rfl, rfl⟩

theorem MessageRanges.bumpCounter {s : State} (h : MessageRanges s) (c : StatusCounter) : MessageRanges (s.bumpCounter c) :=
  h.congr ⟨rfl, rfl, rfl⟩

/-- No event of a measurement record meets the messages. -/
theorem MessageRanges.oneRecord {s t : State} (h : MessageRanges s) {i : StringNo} (event : OneRecord i s t) :
    MessageRanges t where
  string j := by
    rcases eq_or_ne j i with rfl | hj
    · obtain ⟨grid, action, stage, peak, context⟩ := h.string j
      rw [event.block]
      exact ⟨grid, action, stage, peak, context⟩
    · rw [event.others j hj]
      exact h.string j
  queues := by
    unfold MessageLaw
    rw [event.eq, event.mq]
    exact h.queues

/-! ## Crossing the points -/

/-- What leaves the strings as they stand and the queues in range. -/
theorem MessageRanges.queuesOnly {s t : State} (h : MessageRanges s) (only : QueuesOnly s t) (queues : MessageLaw t) :
    MessageRanges t :=
  ⟨fun i => by rw [only.string]; exact h.string i, queues⟩

theorem placeMonitor_ranges {s : State} (h : MessageRanges s) {m : Message} (hm : messageInRange m = true) :
    MessageRanges (s.placeMonitor m) := by
  obtain ⟨event, monitor⟩ := h.queues
  refine h.queuesOnly (placeMonitor_queuesOnly m s) ⟨by rw [placeMonitor_eq]; exact event, fun k hk => ?_⟩
  have old : k ∈ s.mq ∨ k = m := by
    rw [placeMonitor_mq] at hk
    split at hk
    · exact (List.mem_append.mp hk).imp_right List.mem_singleton.mp
    · exact (List.mem_append.mp hk).imp List.mem_of_mem_tail List.mem_singleton.mp
  rcases old with old | rfl
  · exact monitor k old
  · exact hm

theorem routeStage_ranges {s : State} (h : MessageRanges s) (v : Verdict) (index : Option Nat) {m : Message}
    (hm : messageInRange m = true) : MessageRanges (routeStage v index m s) := by
  have copied := placeMonitor_ranges h (m := { m with monitor := true }) hm
  refine h.queuesOnly (routeStage_queuesOnly v index m s) ⟨by rw [routeStage_eq]; exact h.queues.1, ?_⟩
  rw [routeStage_mq]
  split
  · exact copied.queues.2
  · exact h.queues.2

theorem admitStage_ranges {s : State} (h : MessageRanges s) (reserves : Bool) (index : Option Nat) {m : Message}
    (hm : messageInRange m = true) : MessageRanges (admitStage reserves index m s).state := by
  obtain ⟨_, event, monitor⟩ := admitStage_eq reserves index m s
  refine h.queuesOnly (admitStage_queuesOnly reserves index m s) ⟨?_, by rw [monitor]; exact h.queues.2⟩
  rw [event]
  exact (admit_effect reserves m s).inRange hm h.queues.1

theorem crossRoute_ranges {s : State} (h : MessageRanges s) (verdict route : Verdict) (withheld reserves : Bool)
    (index : Option Nat) {m : Message} (hm : messageInRange m = true) :
    MessageRanges (crossRoute verdict route withheld reserves index m s).state := by
  have routed := routeStage_ranges h (verdict.higher route) index hm
  unfold crossRoute
  simp only
  split
  · exact admitStage_ranges routed reserves index hm
  · exact routed

theorem crossAdmit_ranges {s : State} (h : MessageRanges s) (verdict : Verdict) (index : Option Nat) {m : Message}
    (hm : messageInRange m = true) : MessageRanges (crossAdmit verdict index m s).state := by
  unfold crossAdmit
  split
  · exact admitStage_ranges h false index hm
  · exact h

theorem crossTracker_ranges {s : State} (h : MessageRanges s) (i : StringNo) {c : NoteContext} (hc : ContextRanges c)
    (withheld : Bool) {m : TrackerMessage} (hgrade : m.grade c ≤ 59) : MessageRanges (crossTracker i c withheld m s).state :=
  crossRoute_ranges h _ _ _ _ _ (mapTracker_inRange s.tables i (s.string i) hc hgrade)

/-! ## Building and offering messages -/

section

variable {s : State} (h : MessageRanges s) (i : StringNo)

include h

theorem offerStart_ranges (cause : StartCause) : MessageRanges (offerStart i cause s) := by
  unfold offerStart
  split
  · exact h
  · next c opened =>
    have hc := (h.string i).context c opened
    have noted (copied admitted : Bool) := (crossTracker_ranges h i hc false
      (m := .start cause c.pvComputed c.grade c.early) hc.grade).modifyContext i (·.takeStartResult copied admitted)
        fun _ hd => ⟨hd.note, hd.pv, hd.grade, hd.bendSpan, hd.noteFixed, hd.velocityFixed, hd.lane⟩
    simp only
    split
    · exact (noted _ _).modifyString i _ fun hb => ⟨hb.grid, hb.action, hb.stage, hb.peak, hb.context⟩
    · exact noted _ _

theorem laterMessage_ranges {m : TrackerMessage} (hgrade : ∀ c, ContextRanges c → m.grade c ≤ 59) :
    MessageRanges (laterMessage i m s).state := by
  unfold laterMessage
  split
  · exact h
  · next c opened =>
    have hc := (h.string i).context c opened
    split
    · exact crossTracker_ranges h i hc _ (hgrade c hc)
    · exact h

theorem buildPitch_ranges (cause : PitchCause) : MessageRanges (buildPitch i cause s) := by
  unfold buildPitch
  split
  · exact h
  · next c _ =>
    have built := laterMessage_ranges h i (m := .pitch cause c.pvComputed) fun _ hd => hd.grade
    simp only
    split
    · split
      · exact built.modifyContext i _ fun _ hd =>
          ⟨hd.note, hd.pv, hd.grade, hd.bendSpan, hd.noteFixed, hd.velocityFixed, hd.lane⟩
      · exact built
    · exact h

theorem endNote_ranges (cause : EndCause) : MessageRanges (endNote i cause s) := by
  have closes {t : State} (ht : MessageRanges t) : MessageRanges (t.modifyString i (·.closeContext)) :=
    ht.modifyString i _ fun hb => ⟨hb.grid, hb.action, hb.stage, hb.peak, fun _ hc => by cases hc⟩
  unfold endNote
  split
  · exact h
  · simp only
    split
    · exact closes (laterMessage_ranges h i fun _ hd => hd.grade)
    · exact closes h

/-- The lane a start stores lies in range (R122, R123). -/
theorem storeLane_ranges (cause : StartCause) : MessageRanges (storeLane i cause s) :=
  h.modifyContext i _ fun _ hc =>
    ⟨hc.note, hc.pv, hc.grade, hc.bendSpan, hc.noteFixed, hc.velocityFixed, trackerLane_le _ _ _ hc _ _⟩

theorem startNote_ranges {pv : Nat} (hpv : pv ≤ 8128) (cause : StartCause) {grade : Nat} (hgrade : grade ≤ 59) (peak : Nat)
    (early : Bool) : MessageRanges (startNote i pv cause grade peak early s) := by
  have opened := openContext_ranges (h.string i) (bankBit s.plu.side) s.numbering hpv cause hgrade peak early
  have started : MessageRanges (s.modifyString i (·.startNote
      (openContext (s.string i) (bankBit s.plu.side) s.numbering pv cause grade peak early))) :=
    h.modifyString i _ fun hb => ⟨hb.grid, hb.action, hb.stage, Nat.zero_le _, fun _ hc => Option.some.inj hc ▸ opened⟩
  exact offerStart_ranges (storeLane_ranges started i cause) i cause

theorem startFromAttack_ranges {pv : Nat} (hpv : pv ≤ 8128) (early : Bool) : MessageRanges (startFromAttack i pv early s) :=
  startNote_ranges h i hpv .picked (gradeOf_le_top (h.string i).peak) _ early

theorem startLegato_ranges {pv : Nat} (hpv : pv ≤ 8128) : MessageRanges (startLegato i pv s) :=
  startNote_ranges h i hpv .legato (gradeOf_le_top (h.string i).stage.2.2) _ false

/-! ## Envelope edges -/

/-- An onset takes the envelope as its attack peak (R90). -/
theorem takeOnset_ranges : MessageRanges (takeOnset i s) :=
  (h.modifyString i _ fun hb => ⟨hb.grid, hb.action, hb.stage, hb.stage.2.2, hb.context⟩).bumpCounter _

theorem endAttack_ranges (after : TrackerState) : MessageRanges (endAttack i after s) :=
  h.modifyString i _ fun hb => ⟨hb.grid, hb.action, hb.stage, Nat.zero_le _, hb.context⟩

theorem backToSounding_ranges : MessageRanges (backToSounding i s) :=
  h.modifyString i _ fun hb => ⟨hb.grid, hb.action, hb.stage, hb.peak, hb.context⟩

theorem fallInSounding_ranges : MessageRanges (fallInSounding i s) := by
  unfold fallInSounding
  simp only
  split
  · exact h.modifyString i _ fun hb => ⟨hb.grid, hb.action, hb.stage, hb.peak, hb.context⟩
  · exact (endNote_ranges h i _).setTracker i _

theorem recoveryStart_ranges : MessageRanges (recoveryStart i s) := by
  have grade := gradeOf_le_top (h.string i).stage.2.2
  have recovers := h.modifyContext i (fun c => { c with cause := .recovery, grade := gradeOf (s.string i).stage.e })
    fun _ hc => ⟨hc.note, hc.pv, grade, hc.bendSpan, hc.noteFixed, hc.velocityFixed, hc.lane⟩
  exact offerStart_ranges recovers i _

theorem restrikeNote_ranges : MessageRanges (restrikeNote i s) := by
  unfold restrikeNote
  split
  · exact h
  · split
    · split
      · exact laterMessage_ranges h i fun _ _ => gradeOf_le_top (h.string i).stage.2.2
      · exact recoveryStart_ranges h i
    · exact h

theorem takeEdge_ranges (edge : Edge) : MessageRanges (takeEdge i edge s) := by
  unfold takeEdge
  split
  · exact takeOnset_ranges h i
  · exact endAttack_ranges h i _
  · exact fallInSounding_ranges h i
  · exact backToSounding_ranges h i
  · exact restrikeNote_ranges h i
  · exact restrikeNote_ranges (backToSounding_ranges h i) i
  · exact h

/-! ## Outcomes -/

theorem noteRange_ranges (o : GridOutcome) : MessageRanges (noteRange o s) := by
  cases o
  · exact h.causeFlag _
  · exact h
  · exact h.causeFlag _

theorem clearEarly_ranges {pv : Nat} (hpv : pv ≤ 8128) (note : Nat) : MessageRanges (clearEarly i pv note s) := by
  have settled := h.modifyContext i (fun k => { k with early := false, pvComputed := pv, note := noteOf pv })
    fun _ hc => hc.withPitch false hpv
  unfold clearEarly
  simp only
  split
  · exact settled
  · exact buildPitch_ranges settled i _

theorem movePitch_ranges {pv : Nat} (hpv : pv ≤ 8128) : MessageRanges (movePitch i pv s) :=
  h.modifyContext i _ fun _ hc => ⟨hc.note, hpv, hc.grade, hc.bendSpan, hc.noteFixed, hc.velocityFixed, hc.lane⟩

theorem changeNote_ranges (mode : LegatoMode) {pv : Nat} (hpv : pv ≤ 8128) : MessageRanges (changeNote i mode pv s) := by
  cases mode
  · exact buildPitch_ranges (h.modifyContext i _ fun c hc => hc.withPitch c.early hpv) i _
  · exact startLegato_ranges (endNote_ranges (movePitch_ranges h i hpv) i _) i hpv

theorem jumpReturns_ranges (o : LockOutcome) : MessageRanges (jumpReturns i o s) := by
  unfold jumpReturns
  split
  · exact backToSounding_ranges h i
  · exact h

theorem pitchOutcome_ranges (o : LockOutcome) {pv : Nat} (hpv : pv ≤ 8128) (c : NoteContext) :
    MessageRanges (pitchOutcome i o pv c s) := by
  unfold pitchOutcome
  split
  · exact clearEarly_ranges (jumpReturns_ranges h i o) i hpv _
  · split
    · exact changeNote_ranges (backToSounding_ranges h i) i _ hpv
    · exact movePitch_ranges (jumpReturns_ranges h i o) i hpv

theorem takePitch_ranges (o : LockOutcome) {found : GridOutcome × Nat} (hfound : found.2 ≤ 8128) :
    MessageRanges (takePitch i o found s) := by
  unfold takePitch
  split
  · split
    · exact startFromAttack_ranges h i hfound _
    · exact h
  · exact pitchOutcome_ranges h i o hfound _
  · exact pitchOutcome_ranges h i o hfound _
  · exact h

/-- The pitch value of an outcome is looked up in the string's grid, so a start, a PITCH and a TUNE carry one in range (R59,
R87). -/
theorem takeLocking_ranges (o : LockOutcome) (a : Nat) : MessageRanges (takeLocking i o a s) := by
  unfold takeLocking
  simp only
  split
  · exact h
  · next found hfound =>
    have pv := gridLookup_le (h.string i).grid hfound
    have taken := takePitch_ranges (noteRange_ranges h found.1) i o pv
    split
    · split
      · exact placeMonitor_ranges taken (decide_eq_true pv)
      · exact taken
    · exact h

theorem takeOutcome_ranges (o : LockOutcome) (accepted : Option Nat) : MessageRanges (takeOutcome i o accepted s) := by
  unfold takeOutcome
  split
  · split
    · exact (h.causeFlag _).bumpCounter _
    · exact h
  · split
    · exact takeLocking_ranges h i o _
    · exact h
  · exact h

/-! ## Expiries and commands to strings -/

theorem takeEarlyPoint_ranges : MessageRanges (takeEarlyPoint i s) := by
  have noted : MessageRanges (if earlyOutside (s.string i).grid (s.string i).validator.ring then s.causeFlag .range else s) := by
    split
    · exact h.causeFlag _
    · exact h
  unfold takeEarlyPoint
  simp only
  split
  · split
    · next pv hpv => exact startFromAttack_ranges noted i (earlyPitch_le (h.string i).grid hpv) _
    · exact noted
  · exact h

theorem takeGiveUp_ranges : MessageRanges (takeGiveUp i s) := by
  unfold takeGiveUp
  simp only
  split
  · exact endAttack_ranges (h.bumpCounter _) i _
  · exact h.bumpCounter _

theorem takeReleaseExpiry_ranges : MessageRanges (takeReleaseExpiry i s) := by
  unfold takeReleaseExpiry
  split
  · exact (endNote_ranges h i _).setTracker i _
  · exact h

theorem takeUpdateExpiry_ranges : MessageRanges (takeUpdateExpiry i s) := by
  unfold takeUpdateExpiry
  split
  · exact buildPitch_ranges h i _
  · exact h

theorem offString_ranges : MessageRanges (offString i s) := by
  unfold offString
  split
  · exact (endNote_ranges h i _).setTracker i _
  · exact (endNote_ranges h i _).setTracker i _
  · exact endAttack_ranges h i _
  · exact h.setTracker i _
  · exact h

theorem panicString_ranges : MessageRanges (panicString i s) := by
  unfold panicString
  split
  · exact (endNote_ranges h i _).setTracker i _
  · exact (endNote_ranges h i _).setTracker i _
  · exact endAttack_ranges h i _
  · exact h
  · exact h

theorem onString_ranges : MessageRanges (onString i s) := by
  unfold onString
  split
  · exact h.setTracker i _
  · exact h

end

end Sys2Proof.Machine
end

section
/-!
PROOFS. The ranges of the messages kept by every tick, frame arrival, teardown and slot (O10).
-/

namespace Sys2Proof.Machine

open Sys2Proof.Safety

/-! ## Ticks -/

section

variable {s : State} (h : MessageRanges s) (i : StringNo)

include h

theorem attackTick_ranges : MessageRanges (attackTick i s) := by
  have ticked := h.modifyTimers i fun t => { t with attack := t.attack.tick }
  unfold attackTick
  simp only
  split
  · exact takeGiveUp_ranges ticked i
  · split
    · exact takeEarlyPoint_ranges ticked i
    · exact ticked

theorem releaseTick_ranges : MessageRanges (releaseTick i s) := by
  have ticked := h.modifyTimers i fun t => { t with release := t.release.tick }
  unfold releaseTick
  simp only
  split
  · exact takeReleaseExpiry_ranges ticked i
  · exact ticked

theorem updateTick_ranges : MessageRanges (updateTick i s) := by
  have ticked := h.modifyTimers i fun t => { t with update := t.update.tick }
  unfold updateTick
  simp only
  split
  · exact takeUpdateExpiry_ranges ticked i
  · exact ticked

theorem attackOnce_ranges : MessageRanges (attackOnce i s) := by
  unfold attackOnce
  split
  · exact h
  · exact attackTick_ranges (h.modifyTicked i _) i

theorem releaseOnce_ranges : MessageRanges (releaseOnce i s) := by
  unfold releaseOnce
  split
  · exact h
  · exact releaseTick_ranges (h.modifyTicked i _) i

theorem updateOnce_ranges : MessageRanges (updateOnce i s) := by
  unfold updateOnce
  split
  · exact h
  · exact updateTick_ranges (h.modifyTicked i _) i

theorem recordOnce_ranges : MessageRanges (recordOnce i s) := by
  unfold recordOnce
  split
  · exact h
  · exact (h.modifyTicked i _).oneRecord (recordTick_touches i _)

theorem quietTimers_ranges : MessageRanges (quietTimers i s) := by
  have skip (reaches : Bool) {once : State → State} (takes : ∀ t, MessageRanges t → MessageRanges (once t)) {t : State}
      (ht : MessageRanges t) : MessageRanges (if reaches then t else once t) := by
    split
    · exact ht
    · exact takes t ht
  exact skip _ (fun _ ht => updateOnce_ranges ht i) (skip _ (fun _ ht => releaseOnce_ranges ht i)
    (skip _ (fun _ ht => attackOnce_ranges ht i) h))

theorem stringTick_ranges : MessageRanges (stringTick i s) :=
  recordOnce_ranges (updateOnce_ranges (releaseOnce_ranges (attackOnce_ranges (quietTimers_ranges h i) i) i) i) i

theorem reloaded_ranges : MessageRanges (reloaded s) :=
  (h.modifyAll (fun b => { b with ticked := .clear }) fun _ hb =>
    ⟨hb.grid, hb.action, hb.stage, hb.peak, hb.context⟩).congr ⟨rfl, rfl, rfl⟩

theorem dividerPeriod_ranges : MessageRanges (dividerPeriod s) := by
  unfold dividerPeriod
  split
  · split
    · exact h.congr ⟨rfl, rfl, rfl⟩
    · rw [underflow_eq]
      exact reloaded_ranges
        (forStrings_keeps (P := MessageRanges) stringTick (fun i _ ht => stringTick_ranges ht i) allStrings s h)
  · exact h

/-! ## Frame arrivals -/

/-- The stage a run leaves meets its law, whatever the samples (R23, R24). -/
theorem leaveStage_ranges (samples : PerString Word) (n : BitVec 24) :
    MessageRanges (leaveStage i (runStage samples n i (s.string i)) s) :=
  (h.modifyString i (fun b => { b with stage := (runStage samples n i (s.string i)).stage }) fun hb =>
    ⟨hb.grid, hb.action, stageLawful_run samples n i _ hb.stage, hb.peak, hb.context⟩).congr ⟨rfl, rfl, rfl⟩

/-- The attack peak follows an envelope in range (R91). -/
theorem followPeak_ranges : MessageRanges (followPeak i s) := by
  refine h.modifyString i _ fun hb => ?_
  split
  · exact ⟨hb.grid, hb.action, hb.stage, max_le hb.peak hb.stage.2.2, hb.context⟩
  · exact hb

theorem takePeriod_ranges (p : Nat) : MessageRanges (takePeriod i p s) := by
  unfold takePeriod
  have judged := h.modifyString i
    (fun b => { b with validator := ((s.string i).validator.take (s.string i).profile p).validator })
    fun hb => ⟨hb.grid, hb.action, hb.stage, hb.peak, hb.context⟩
  exact (takeOutcome_ranges judged i _ _).oneRecord (recordPeriod_touches i p _)

theorem deliverReports_ranges (edge : Option Edge) (period : Option Nat) : MessageRanges (deliverReports i edge period s) := by
  have edged : MessageRanges (takeReportedEdge i edge s) := by
    cases edge with
    | none => exact h
    | some edge => exact takeEdge_ranges h i edge
  cases period with
  | none => rw [deliverReports_none]; exact edged
  | some p => rw [deliverReports_some]; exact takePeriod_ranges edged i p

theorem stringArrival_ranges (samples : PerString Word) : MessageRanges (stringArrival samples i s) :=
  deliverReports_ranges (followPeak_ranges (leaveStage_ranges h i samples s.plu.frameNo) i) i _ _

theorem frameArrival_ranges (samples : PerString Word) (order : List StringNo) :
    MessageRanges (frameArrival samples order s) :=
  forStrings_keeps (P := MessageRanges) _ (fun i _ ht => stringArrival_ranges ht i samples) _ _ (h.congr ⟨rfl, rfl, rfl⟩)

/-! ## The pickup teardown -/

theorem teardownLast_ranges : MessageRanges (teardownLast s) := h.congr ⟨rfl, rfl, rfl⟩

/-- The teardown's notes end by their rules, and it leaves no note open, no attack peak and every stage cleared (R6). -/
theorem pickupTeardown_ranges : MessageRanges (pickupTeardown s) := by
  have ended : MessageRanges (forStrings allStrings linkEnd s) :=
    forStrings_keeps (P := MessageRanges) linkEnd (fun i _ ht => endNote_ranges ht i .link) allStrings s h
  have silenced := ended.modifyAll (·.silence) fun _ hb =>
    ⟨hb.grid, hb.action, hb.stage, Nat.zero_le _, fun _ hc => by cases hc⟩
  have cleared : MessageRanges (teardownCleared s) := silenced.modifyAll (·.clearStage) fun b hb =>
    ⟨hb.grid, hb.action, stageLawful_clear b, hb.peak, hb.context⟩
  rw [pickupTeardown_eq]
  exact teardownLast_ranges
    (forStrings_keeps (P := MessageRanges) abortAndSeek (fun i _ ht => ht.oneRecord (abortAndSeek_touches i _)) allStrings _
      cleared)

end

/-! ## The pickup link's slots -/

/-- All that a slot does to the strings and the message queues: a frame arrival, the teardown, or nothing (R2 to R6). -/
theorem pickupSlot_cases (f : PickupFrame) (order : List StringNo) (s : State) :
    SameMessages s (pickupSlot f order s) ∨
    (∃ samples t, SameMessages s t ∧ pickupSlot f order s = frameArrival samples order t) ∨
    ∃ t, SameMessages s t ∧ pickupSlot f order s = pickupTeardown t := by
  have delivered (g : GoodFrame) {t : State} (ht : SameMessages s t) :
      ∃ samples u, SameMessages s u ∧ deliverGood g order t = frameArrival samples order u :=
    ⟨g.samples, { t with plu := { t.plu with link := .up, badRun := 0, lastGood := some g, side := g.side } },
      ⟨ht.strings, ht.eq, ht.mq⟩, rfl⟩
  have bridged (badRun : Nat) : SameMessages s (repeatLast badRun order (noteBadFrame (s.doPart .slot))) ∨
      ∃ samples t, SameMessages s t ∧ repeatLast badRun order (noteBadFrame (s.doPart .slot)) = frameArrival samples order t := by
    unfold repeatLast
    simp only
    split
    · refine .inr ⟨_, _, ?_, rfl⟩
      exact ⟨rfl, rfl, rfl⟩
    · exact .inl ⟨rfl, rfl, rfl⟩
  unfold pickupSlot judgeSlot
  split
  · split
    · split
      · unfold goodWhileSearching
        simp only
        split
        · exact .inl ⟨rfl, rfl, rfl⟩
        · exact .inr (.inl (delivered _ ⟨rfl, rfl, rfl⟩))
      · exact .inr (.inl (delivered _ ⟨rfl, rfl, rfl⟩))
      · exact .inr (.inl (delivered _ ⟨rfl, rfl, rfl⟩))
    · unfold badFrame
      split
      · exact .inl ⟨rfl, rfl, rfl⟩
      · exact (bridged _).imp_right .inl
      · split
        · exact (bridged _).imp_right .inl
        · refine .inr (.inr ⟨_, ?_, rfl⟩)
          exact ⟨rfl, rfl, rfl⟩
  · exact .inl ⟨rfl, rfl, rfl⟩

theorem pickupSlot_ranges {s : State} (h : MessageRanges s) (f : PickupFrame) (order : List StringNo) :
    MessageRanges (pickupSlot f order s) := by
  rcases pickupSlot_cases f order s with same | ⟨samples, t, same, arrives⟩ | ⟨t, same, ends⟩
  · exact h.congr same
  · rw [arrives]
    exact frameArrival_ranges (h.congr same) samples order
  · rw [ends]
    exact pickupTeardown_ranges (h.congr same)

end Sys2Proof.Machine
end

section
/-!
PROOFS. A property of the strings and the two message queues that every command's run keeps is kept by the command unit and the
lane (`KeptOnTheLane`); the ranges of the messages kept by every command; and O10.
-/

namespace Sys2Proof.Machine

open Sys2Proof.Safety

/-! ## The command unit and the lane -/

/-- A property of the strings and the message queues alone that every command's run keeps, every record's search for a reply slot,
and every message that leaves its queue. (`KeptByCommands` is about the strings, whatever the queues hold.) -/
structure KeptOnTheLane (P : State → Prop) : Prop where
  same : ∀ {s t : State}, P s → SameMessages s t → P t
  leaves : ∀ (source : Source) (s : State), P s → P (s.dropHead source)
  run : ∀ (c : Command) (params : List Payload) (s : State), P s → P (c.run params s).state
  seek : ∀ (i : StringNo) (s : State), P s → P (seekSlot i s)

section

variable {P : State → Prop} (h : KeptOnTheLane P)

include h

theorem KeptOnTheLane.execute (b : CommandBuffer) (s : State) (hs : P s) : P (execute b s) := by
  have ready : P { s with cu := .ready } := h.same hs ⟨rfl, rfl, rfl⟩
  have ran : P (runBuffer b { s with cu := .ready }).state := by
    unfold runBuffer
    split
    · exact ready
    · split
      · exact ready
      · exact h.run _ _ _ ready
  exact forStrings_keeps seekSlot h.seek _ _ (h.same ran ⟨rfl, rfl, rfl⟩)

theorem KeptOnTheLane.takeCommand (b : CommandBuffer) (s : State) (hs : P s) : P (takeCommand b s) := by
  unfold Machine.takeCommand
  split
  · exact h.execute b s hs
  · exact h.same hs ⟨rfl, rfl, rfl⟩

theorem KeptOnTheLane.startCommand (code : BitVec 7) (declared : Nat) (s : State) (hs : P s) :
    P (startCommand code declared s) := by
  unfold Machine.startCommand
  simp only
  split
  · exact h.takeCommand _ s hs
  · exact h.same hs ⟨rfl, rfl, rfl⟩

theorem KeptOnTheLane.takeWord (w : Word) (s : State) (hs : P s) : P (takeWord w s) := by
  unfold Machine.takeWord
  split
  · split
    · exact h.startCommand _ _ s hs
    · exact h.same hs ⟨rfl, rfl, rfl⟩
  · split
    · exact h.startCommand _ _ _ (h.same hs ⟨rfl, rfl, rfl⟩)
    · simp only
      split
      · exact h.takeCommand _ s hs
      · exact h.same hs ⟨rfl, rfl, rfl⟩
  · exact h.same hs ⟨rfl, rfl, rfl⟩

theorem KeptOnTheLane.sendCommand (code : BitVec 7) (params : List Payload) (s : State) (hs : P s) :
    P (sendCommand code params s) := by
  unfold Machine.sendCommand
  split
  · exact List.foldlRecOn _ _ hs fun t ht w _ => h.takeWord w t ht
  · exact hs

theorem KeptOnTheLane.grantSlot (s : State) (hs : P s) : P (grantSlot s) := by
  unfold Machine.grantSlot
  split
  · exact h.seek _ s hs
  · split
    · exact h.execute _ s hs
    · exact hs
    · exact hs

/-- A lane word slot keeps the property (R157, R159). -/
theorem KeptOnTheLane.afterLaneSlot (s : State) (hs : P s) : P (afterLaneSlot s) := by
  have begun (source : Source) (lane : Lane) : P { s.dropHead source with lane := lane } :=
    h.same (h.leaves source s hs) ⟨rfl, rfl, rfl⟩
  unfold Machine.afterLaneSlot
  split
  · exact h.same hs ⟨rfl, rfl, rfl⟩
  · split
    · next source _ =>
      cases source
      · exact h.grantSlot _ (begun .rq _)
      · exact begun .eq _
      · exact begun .mq _
    · exact hs

theorem KeptOnTheLane.upstream (s : State) (hs : P s) : P (upstream s) := by
  have begun : P (s.doPart .upstream) := h.same hs ⟨rfl, rfl, rfl⟩
  unfold Machine.upstream
  split
  · exact h.same (h.afterLaneSlot _ (h.afterLaneSlot _ begun)) ⟨rfl, rfl, rfl⟩
  · exact hs

theorem KeptOnTheLane.takeDownstream (f : DownstreamFrame) (s : State) (hs : P s) : P (takeDownstream f s) := by
  unfold Machine.takeDownstream
  simp only
  split
  · exact h.takeWord _ _ (h.same hs ⟨rfl, rfl, rfl⟩)
  · exact h.same hs ⟨rfl, rfl, rfl⟩

theorem KeptOnTheLane.synthLinkUp (s : State) (hs : P s) : P (synthLinkUp s) := by
  rw [synthLinkUp_eq]
  exact h.same hs ⟨rfl, rfl, rfl⟩

/-- A downstream frame keeps the property; the link-loss effect is that of RESTART (R8, R9, R11, R183). -/
theorem KeptOnTheLane.downstream (f : DownstreamFrame) (s : State) (hs : P s) : P (downstream f s) := by
  have counted : P { s with slu := { s.slu with syncRun := s.slu.syncRun + 1 } } := h.same hs ⟨rfl, rfl, rfl⟩
  unfold Machine.downstream syncedFrame unsyncedFrame
  split
  · split
    · simp only
      split
      · exact counted
      · exact h.takeDownstream f _ (h.same (h.synthLinkUp _ counted) ⟨rfl, rfl, rfl⟩)
    · exact h.takeDownstream f _ (h.same hs ⟨rfl, rfl, rfl⟩)
  · split
    · exact h.same hs ⟨rfl, rfl, rfl⟩
    · split
      · exact h.same hs ⟨rfl, rfl, rfl⟩
      · exact h.same (h.run .restart [] s hs) ⟨rfl, rfl, rfl⟩

end

/-! ## The commands that touch no string and no message -/

theorem SameMessages.refl (s : State) : SameMessages s s := ⟨rfl, rfl, rfl⟩

theorem ReadsOnly.sameMessages {run : List Payload → State → Executed} (h : ReadsOnly run) (params : List Payload) (s : State) :
    SameMessages s (run params s).state := by
  rw [h params s]
  exact .refl s

/-- Of the commands that write no string's blocks, INJECT alone offers a message. -/
theorem run_sameMessages {c : Command} (h : c.sparesStrings = true) (notInject : c ≠ .inject) (params : List Payload)
    (s : State) :
    SameMessages s (c.run params s).state := by
  cases c
  case inject => exact absurd rfl notInject
  case readStatus => exact runReadStatus_reads.sameMessages params s
  case readString => exact runReadString_reads.sameMessages params s
  case readGrid => exact runReadGrid_reads.sameMessages params s
  case readMap => exact runReadMap_reads.sameMessages params s
  case readAction => exact runReadAction_reads.sameMessages params s
  case readProfile => exact runReadProfile_reads.sameMessages params s
  case readCounters => exact runReadCounters_reads.sameMessages params s
  case readStatusCounters => exact runReadStatusCounters_reads.sameMessages params s
  case loadMap =>
    simp only [Command.run, runLoadMap]
    split
    · refine withTable_keeps _ _ _ (.refl s) fun n => ?_
      split <;> exact ⟨rfl, rfl, rfl⟩
    · exact .refl s
  case clearMap =>
    simp only [Command.run, runClearMap]
    split
    · exact withTable_keeps _ _ _ (.refl s) fun n => ⟨rfl, rfl, rfl⟩
    · exact .refl s
  case clearCounters =>
    simp only [Command.run, runClearCounters]
    split
    · split <;> exact ⟨rfl, rfl, rfl⟩
    · exact .refl s
  case setTick | setNumbering | setFlagMask | setCountPoint | clearFlags =>
    simp only [Command.run, runSetTick, runSetNumbering, runSetFlagMask, runSetCountPoint, runClearFlags]
    split <;> exact ⟨rfl, rfl, rfl⟩
  all_goals cases h

/-! ## The commands that write strings or offer messages -/

section

variable {s : State} (h : MessageRanges s)

include h

theorem carriedOut_ranges (adjusted : Bool) : MessageRanges (carriedOut adjusted s).state := h

theorem runLoadGrid_ranges (params : List Payload) : MessageRanges (runLoadGrid params s).state := by
  unfold runLoadGrid
  split
  · refine withString_keeps _ _ _ h fun i => ?_
    split
    · exact h
    · split
      · exact h
      · next g hg =>
        refine carriedOut_ranges (h.modifyString i _ fun hb => ⟨fun _ loaded => ?_, hb.action, hb.stage, hb.peak, hb.context⟩) _
        obtain rfl := Option.some.inj loaded
        exact loadedGrid_of_words hg
  · exact h

theorem runLoadProfile_ranges (params : List Payload) : MessageRanges (runLoadProfile params s).state := by
  unfold runLoadProfile
  split
  · split
    · exact h
    · next p _ =>
      refine withString_keeps _ _ _ h fun i => ?_
      split
      · exact h
      · have loaded := h.modifyString i (·.loadProfile p) fun hb =>
          ⟨hb.grid, hb.action, stageLawful_clear _, hb.peak, hb.context⟩
        exact loaded.oneRecord (abortRecord_touches i _)
  · exact h

theorem runLoadAction_ranges (params : List Payload) : MessageRanges (runLoadAction params s).state := by
  unfold runLoadAction
  split
  · split
    · exact h
    · next a ha =>
      exact withString_keeps _ _ _ h fun i => carriedOut_ranges (h.modifyString i _ fun hb =>
        ⟨hb.grid, actionInRange_of_words ha, hb.stage, hb.peak, hb.context⟩) _
  · exact h

theorem runLoadCrosstalk_ranges (params : List Payload) : MessageRanges (runLoadCrosstalk params s).state := by
  unfold runLoadCrosstalk
  split
  · exact withString_keeps _ _ _ h fun i => carriedOut_ranges (h.modifyString i _ fun hb =>
      ⟨hb.grid, hb.action, hb.stage, hb.peak, hb.context⟩) _
  · exact h

theorem runSetStyle_ranges (params : List Payload) : MessageRanges (runSetStyle params s).state := by
  unfold runSetStyle
  split
  · exact forStrings_keeps (P := MessageRanges) _ (fun i _ ht => ht.modifyString i _ fun hb =>
      ⟨hb.grid, hb.action, hb.stage, hb.peak, hb.context⟩) _ s h
  · exact h

theorem runStringOn_ranges (params : List Payload) : MessageRanges (runStringOn params s).state := by
  unfold runStringOn
  split
  · split
    · exact h
    · exact forStrings_keeps (P := MessageRanges) _ (fun i _ ht => onString_ranges ht i) _ s h
  · exact h

theorem runStringOff_ranges (params : List Payload) : MessageRanges (runStringOff params s).state := by
  unfold runStringOff
  split
  · exact forStrings_keeps (P := MessageRanges) _ (fun i _ ht => offString_ranges ht i) _ s h
  · exact h

theorem runAllNotesEnd_ranges (params : List Payload) : MessageRanges (runAllNotesEnd params s).state := by
  unfold runAllNotesEnd
  split
  · exact forStrings_keeps (P := MessageRanges) _ (fun i _ ht => panicString_ranges ht i) _ s h
  · exact h

theorem runMeasure_ranges (params : List Payload) : MessageRanges (runMeasure params s).state := by
  unfold runMeasure
  split
  · refine withString_keeps _ _ _ h fun i => ?_
    split
    · exact h
    · exact carriedOut_ranges (h.oneRecord (.modifyRecord i _ s)) _
  · exact h

theorem runMeasureCancel_ranges (params : List Payload) : MessageRanges (runMeasureCancel params s).state := by
  unfold runMeasureCancel
  split
  · refine withString_keeps _ _ _ h fun i => ?_
    split
    · exact carriedOut_ranges (h.oneRecord (.modifyRecord i _ s)) _
    · exact h
  · exact h

theorem crossInjected_ranges (point : InjectPoint) {j : Injection} (hj : InjectionRanges j) :
    MessageRanges (crossInjected point j s).state := by
  have action := (h.string j.string).action
  cases point
  · exact crossRoute_ranges h _ _ _ _ _ (mapInjected_inRange s.tables action _ hj)
  · exact crossRoute_ranges h _ _ _ _ _ (plainInjected_inRange action hj)
  · exact crossAdmit_ranges h _ _ (plainInjected_inRange action hj)

/-- INJECT clamps its fields before the crossing (R137). -/
theorem runInject_ranges (params : List Payload) : MessageRanges (runInject params s).state := by
  have replies {x : Crossing} (clamped : Bool) (hx : MessageRanges x.state) : MessageRanges (injectReply clamped x).state := by
    unfold injectReply
    split
    · exact hx.causeFlag _
    · exact hx
  unfold runInject
  split
  · split
    · exact withString_keeps _ _ _ h fun i => replies _ (crossInjected_ranges h _
        ⟨(clamp_range (Nat.zero_le 127) _).2, (clamp_range (Nat.zero_le 59) _).2, clamp_range (show 1 ≤ 127 by decide) _,
          (clamp_range (Nat.zero_le 15) _).2⟩)
    · exact h
  · exact h

/-- RESTORE DEFAULTS returns the action entries and clears the stages (R35, R182). -/
theorem runRestoreDefaults_ranges (params : List Payload) : MessageRanges (runRestoreDefaults params s).state := by
  have restored : MessageRanges (restoredSettings s) :=
    (h.modifyAll (·.restoreDefaults) fun b hb =>
      ⟨hb.grid, settingsLawful_powerOn.2.1, stageLawful_clear b, hb.peak, hb.context⟩).congr ⟨rfl, rfl, rfl⟩
  unfold runRestoreDefaults
  split
  · split
    · exact h
    · exact forStrings_keeps (P := MessageRanges) _ (fun i _ ht => ht.oneRecord (abortRecord_touches i _)) _ _ restored
  · exact h

/-- RESTART empties both message queues and leaves no note open (R9, R183). -/
theorem runRestart_ranges (params : List Payload) : MessageRanges (runRestart params s).state := by
  unfold runRestart
  split
  · have lost := h.modifyAll (·.linkLoss) fun b hb => by
      rw [StringBlock.linkLoss_eq]
      exact ⟨hb.grid, hb.action, stageLawful_clear b, Nat.zero_le _, fun _ hc => by cases hc⟩
    exact ⟨lost.string, ⟨fun _ hm => (by cases hm), fun _ hm => (by cases hm)⟩⟩
  · exact h

/-- Every command's run keeps the messages in range. -/
theorem run_ranges (c : Command) (params : List Payload) : MessageRanges (c.run params s).state := by
  cases c
  case loadGrid => exact runLoadGrid_ranges h params
  case loadProfile => exact runLoadProfile_ranges h params
  case loadAction => exact runLoadAction_ranges h params
  case loadCrosstalk => exact runLoadCrosstalk_ranges h params
  case setStyle => exact runSetStyle_ranges h params
  case stringOn => exact runStringOn_ranges h params
  case stringOff => exact runStringOff_ranges h params
  case allNotesEnd => exact runAllNotesEnd_ranges h params
  case measure => exact runMeasure_ranges h params
  case measureCancel => exact runMeasureCancel_ranges h params
  case inject => exact runInject_ranges h params
  case restoreDefaults => exact runRestoreDefaults_ranges h params
  case restart => exact runRestart_ranges h params
  all_goals exact h.congr (run_sameMessages (by rfl) (by nofun) params s)

end

/-! ## O10 -/

theorem messageRanges_keptOnTheLane : KeptOnTheLane MessageRanges where
  same h := h.congr
  leaves source s h := by
    cases source
    · exact h.congr ⟨rfl, rfl, rfl⟩
    · exact ⟨h.string, fun m hm => h.queues.1 m (List.mem_of_mem_tail hm), h.queues.2⟩
    · exact ⟨h.string, h.queues.1, fun m hm => h.queues.2 m (List.mem_of_mem_tail hm)⟩
  run c params _ h := run_ranges h c params
  seek i s h := h.oneRecord (seekSlot_touches i s)

/-- A string at power-on has no grid and no note open (R53, R107). -/
theorem blockRanges_powerOn : BlockRanges .powerOn :=
  ⟨fun _ h => (by cases h), settingsLawful_powerOn.2.1, stageLawful_clear .powerOn, Nat.zero_le _, fun _ h => (by cases h)⟩

/-- Whatever happens, the messages and what they rest on stay in range. -/
theorem Happens.messageRanges {s t : State} (happens : Happens s t) (h : MessageRanges s) : MessageRanges t := by
  have lane := messageRanges_keptOnTheLane
  cases happens with
  | nothing => exact h
  | powerOn =>
    refine ⟨fun i => ?_, ⟨fun _ hm => (by cases hm), fun _ hm => (by cases hm)⟩⟩
    rw [show State.string { State.reset with pending := s.pending } i = .powerOn from reset_string i]
    exact blockRanges_powerOn
  | slot f order => exact pickupSlot_ranges h f order
  | words f => exact lane.downstream f s h
  | frame => exact lane.upstream s h
  | period => exact dividerPeriod_ranges h
  | command code params => exact lane.sendCommand code params s h
  | attack i => exact attackOnce_ranges (quietTimers_ranges h i) i
  | release i => exact releaseOnce_ranges (quietTimers_ranges h i) i
  | update i => exact updateOnce_ranges (quietTimers_ranges h i) i
  | record i => exact recordOnce_ranges h i

/-- The laws of the statement are what the messages rest on. -/
theorem MessageRanges.of_laws {s : State} (grid : GridLaw s) (settings : SettingsLaw s) (stage : StageLaw s)
    (note : NoteRangeLaw s) (message : MessageLaw s) : MessageRanges s where
  string i := by
    obtain ⟨peak, context⟩ := note i
    obtain ⟨_, action, _⟩ := settings.2 i
    refine ⟨(grid i).1, action, stage i, peak, fun c hc => (contextInRange_iff c).mp ?_⟩
    rwa [hc] at context
  queues := message

theorem MessageRanges.noteRangeLaw {s : State} (h : MessageRanges s) : NoteRangeLaw s := by
  intro i
  refine ⟨(h.string i).peak, ?_⟩
  cases hc : (s.string i).tracker.context with
  | none => rfl
  | some c => exact (contextInRange_iff c).mpr ((h.string i).context c hc)

/-- Settles O10: the grids, action entries, envelopes and open notes bound every field MAP makes, and everything that happens
keeps these with the queued messages. -/
theorem stepKeepsTheMessageLaw : Obligations.StepKeepsTheMessageLaw := by
  intro s t h grid settings stage note message
  have kept : MessageRanges t := step_keeps (P := MessageRanges) (fun _ _ hs => hs.congr ⟨rfl, rfl, rfl⟩)
    (fun _ _ happens => happens.messageRanges) h (.of_laws grid settings stage note message)
  exact ⟨kept.noteRangeLaw, kept.queues⟩

end Sys2Proof.Machine
end

section
/-!
PROOFS. LOAD GRID (O48), and the words of READ GRID and READ MAP (O56).
-/

namespace Sys2Proof.Machine

open Sys2Proof.Safety

/-! ## LOAD GRID -/

/-- The words of a run of period entries, high word first (R54). -/
def entryWords (pairs : List (Payload × Payload)) : List Payload := pairs.flatMap fun q => [q.1, q.2]

/-- The period entries those words carry. -/
def entryPeriods (pairs : List (Payload × Payload)) : List Nat := pairs.map fun q => q.1.toNat * 2 ^ 15 + q.2.toNat

theorem entryWords_length (pairs : List (Payload × Payload)) : (entryWords pairs).length = 2 * pairs.length := by
  induction pairs with
  | nil => rfl
  | cons q rest ih =>
    rw [show entryWords (q :: rest) = q.1 :: q.2 :: entryWords rest from rfl, List.length_cons, List.length_cons,
      List.length_cons, ih]
    omega

/-- The entries are read when no high word carries a 1 above its four bits (R54, R56). -/
theorem gridEntries_eq (pairs : List (Payload × Payload)) :
    gridEntries (entryWords pairs) = if ∀ q ∈ pairs, q.1.toNat < 16 then some (entryPeriods pairs) else none := by
  induction pairs with
  | nil => simp [entryWords, entryPeriods, gridEntries]
  | cons q rest ih =>
    obtain ⟨high, low⟩ := q
    rw [show entryWords ((high, low) :: rest) = high :: low :: entryWords rest from rfl, gridEntries, ih]
    by_cases fits : high.toNat < 16
    · have period : periodOfWords high low = high.toNat * 2 ^ 15 + low.toNat := by
        rw [periodOfWords, fieldOf_low, Nat.mod_eq_of_lt (show high.toNat < 2 ^ 4 from fits)]
      simp only [fits, if_true, List.forall_mem_cons, true_and]
      split
      · rw [Option.map_some, period]
        rfl
      · rfl
    · simp only [fits, if_false, List.forall_mem_cons, false_and]

/-- The grid of a LOAD GRID is accepted exactly when its high words fit and it meets the conditions of R52 (R56). -/
theorem gridOfWords_some {base : Payload} {pairs : List (Payload × Payload)} (fits : ∀ q ∈ pairs, q.1.toNat < 16)
    (loaded : LoadedGrid ⟨base.toNat, entryPeriods pairs⟩) :
    gridOfWords base (entryWords pairs) = some ⟨base.toNat, entryPeriods pairs⟩ := by
  rw [gridOfWords, gridEntries_eq, if_pos fits, Option.bind_some, if_pos ((gridValid_iff _).mpr loaded)]

theorem gridOfWords_none {base : Payload} {pairs : List (Payload × Payload)}
    (bad : ¬ ((∀ q ∈ pairs, q.1.toNat < 16) ∧ LoadedGrid ⟨base.toNat, entryPeriods pairs⟩)) :
    gridOfWords base (entryWords pairs) = none := by
  rw [gridOfWords, gridEntries_eq]
  split
  · next fits =>
    rw [Option.bind_some, if_neg fun valid => bad ⟨fits, (gridValid_iff _).mp valid⟩]
  · rfl

/-- Settles O48. -/
theorem loadGridCommand : Obligations.LoadGridCommand := by
  intro i base pairs s atOnce hpairs b g sent plays good
  have course {t : State} {body : ReplyBody}
      (hrun : Command.loadGrid.run (stringWord i :: base :: entryWords pairs) s = ⟨t, body, []⟩) :
      sent = .next (replied .loadGrid body t) := by
    have length : (stringWord i :: base :: entryWords pairs).length = 2 * pairs.length + 2 := by
      rw [List.length_cons, List.length_cons, entryWords_length]
    have fewWords : (stringWord i :: base :: entryWords pairs).length ≤ 128 := by omega
    have allowed : Command.loadGrid.countAllowed (stringWord i :: base :: entryWords pairs).length = true :=
      decide_eq_true (by omega)
    exact exec_replies (c := .loadGrid) atOnce fewWords allowed hrun
  have quiet (h : ¬ plays) : b.tracker.state.playing = false := by
    rwa [← Bool.not_eq_true, playing_iff]
  refine ⟨fun h => course ?busy, fun h bad => course ?grid, fun h fits => course ?taken⟩
  all_goals simp only [Command.run, runLoadGrid, withString_stringWord]
  case busy => rw [if_pos ((playing_iff _).mpr h), refuse]
  case grid => rw [if_neg (by simp [b, quiet h]), gridOfWords_none bad, refuse]
  case taken =>
    rw [if_neg (by simp [b, quiet h]), gridOfWords_some fits.1 fits.2]
    rfl

/-! ## READ GRID -/

/-- The grid word with its fields written out (R67). -/
theorem gridWord_loaded {g : Grid} (h : LoadedGrid g) :
    gridWord (some g) = BitVec.ofNat 15 (2 ^ 14 + 2 ^ 7 * g.base + g.entries.length) := by
  obtain ⟨few, many⟩ := h.size
  have top := h.top
  rw [gridWord, bitField_eq, field_eq 7 (by omega), field_eq 0 (by omega), payload]
  congr 1
  simp only [if_true]
  omega

/-- The words of a run of entries with their fields written out (R67). -/
theorem gridRunWords_loaded {g : Grid} (h : LoadedGrid g) {start count : Nat} (fits : start + count ≤ g.entries.length) :
    gridRunWords g start count = (List.range' start count).flatMap fun k =>
      [BitVec.ofNat 15 (2 ^ 8 * k + g.entries.getD k 0 / 2 ^ 15), BitVec.ofNat 15 (g.entries.getD k 0 % 2 ^ 15)] := by
  have entry (k : Nat) (hk : k < g.entries.length) : gridEntryWords k (g.entries.getD k 0) =
      [BitVec.ofNat 15 (2 ^ 8 * k + g.entries.getD k 0 / 2 ^ 15), BitVec.ofNat 15 (g.entries.getD k 0 % 2 ^ 15)] := by
    have many := h.size.2
    obtain ⟨_, longest⟩ := h.range (g.entries.getD k 0) (by simp [hk])
    have high : fieldOf (g.entries.getD k 0) 4 15 = g.entries.getD k 0 / 2 ^ 15 := by
      unfold fieldOf
      omega
    rw [gridEntryWords, field_eq 8 (by omega), high, fieldOf_low, Nat.mul_comm]
    rfl
  rw [gridRunWords, List.range'_eq_map_range, List.flatMap_map, List.flatMap_def]
  refine congrArg List.flatten (List.map_congr_left fun k hk => entry (start + k) ?_)
  have := List.mem_range.mp hk
  omega

/-! ## READ MAP -/

/-- A command that names a table runs for that table (R174). -/
theorem withTable_word (n : Fin 4) (run : Fin 4 → State → Executed) (s : State) :
    withTable (BitVec.ofNat 15 n.val) run s = run n s := by
  have table : tableOf (BitVec.ofNat 15 n.val) = some n := by
    revert n
    decide
  rw [withTable, table]

theorem KeyMode.code_lt (mode : KeyMode) : mode.code < 2 ^ 2 := by cases mode <;> decide

/-- The summary word with its fields written out (R120). -/
theorem mapSummaryWord_eq (m : MapTable) : mapSummaryWord m =
    BitVec.ofNat 15 (2 ^ 6 * (m.entries.toList.filter (·.isSome)).length + m.keyMode.code) := by
  have most : m.entries.toList.countP (·.isSome) ≤ 256 := List.countP_le_length.trans_eq (by simp)
  rw [mapSummaryWord, field_eq 6 (by omega), field_eq 0 m.keyMode.code_lt, List.countP_eq_length_filter, pow_zero,
    Nat.mul_one, Nat.mul_comm]
  rfl

/-- The word of a table entry (R120). -/
theorem mapEntryWord_eq (entry : Option (BitVec 7)) :
    mapEntryWord entry = match entry with
      | none => BitVec.ofNat 15 (2 ^ 14)
      | some value => value.setWidth 15 := by
  cases entry with
  | none => rfl
  | some value => exact BitVec.ofNat_toNat 15 value

/-- Settles O56. -/
theorem readGridAndMapCommands : Obligations.ReadGridAndMapCommands := by
  intro start count s atOnce word
  refine ⟨?readGrid, ?readMap⟩
  case readGrid =>
    intro i sent grid data refused
    have course {body : ReplyBody} (hrun : Command.readGrid.run [stringWord i, start, count] s = ⟨s, body, []⟩) :
        sent = .next (replied .readGrid body s) := exec_replies (c := .readGrid) atOnce (by simp) rfl hrun
    simp only [Command.run, runReadGrid, withString_stringWord] at course
    refine ⟨fun h => course ?limits, fun first zero empty => course ?noGrid, fun g first zero loaded lawful => course ?gridWord,
      fun some_ empty => course ?unloaded, fun g some_ loaded beyond => course ?beyond,
      fun g first some_ few loaded fits lawful => course ?run⟩
    case limits => rw [if_pos h, refuse]
    case noGrid =>
      rw [if_neg (by omega), if_pos zero, show (s.string i).grid = none from empty]
      rfl
    case gridWord =>
      rw [if_neg (by omega), if_pos zero, show (s.string i).grid = some g from loaded, gridWord_loaded lawful, answer]
    case unloaded =>
      rw [if_neg (Nat.ne_of_gt some_), show (s.string i).grid = none from empty]
      exact ite_self _
    case beyond =>
      rw [if_neg (Nat.ne_of_gt some_), show (s.string i).grid = some g from loaded]
      simp only [beyond, if_true]
      exact ite_self _
    case run =>
      rw [if_neg (by omega), if_neg (Nat.ne_of_gt some_), show (s.string i).grid = some g from loaded]
      simp only [Nat.not_lt.mpr fits, if_false]
      rw [gridRunWords_loaded lawful fits, answer]
  case readMap =>
    intro n sent m data refused mode
    have course {body : ReplyBody} (hrun : Command.readMap.run [word n.val, start, count] s = ⟨s, body, []⟩) :
        sent = .next (replied .readMap body s) := exec_replies (c := .readMap) atOnce (by simp) rfl hrun
    simp only [Command.run, runReadMap, word, withTable_word] at course
    have hmode : m.keyMode.code = mode := by
      simp only [mode]
      cases m.keyMode <;> rfl
    refine ⟨fun h => course ?limits, fun first zero => course ?summary, fun some_ few fits => course ?run⟩
    case limits => exact if_pos h
    case summary => rw [if_neg (by omega), if_pos zero, mapSummaryWord_eq, hmode, answer]
    case run =>
      rw [if_neg (by omega), if_neg (by omega), answer, List.range'_eq_map_range, List.map_map]
      simp only [mapEntryWord_eq]
      rfl

end Sys2Proof.Machine
end

section
/-!
PROOFS. How a note starts, is struck again and ends: the one crossing of its message, and the one change of its string (O29, O30,
O31, O34).
-/

namespace Sys2Proof.Machine

open Sys2Proof.Safety

/-! ## A message that crosses under its note's route -/

theorem Verdict.copies_iff (v : Verdict) : v.copies = true ↔ v = .copy ∨ v = .divert := by
  cases v <;> simp [Verdict.copies]

theorem Verdict.offers_iff (v : Verdict) : v.offers = true ↔ v = .pass ∨ v = .copy := by
  cases v <;> simp [Verdict.offers]

theorem Style.reserves_iff (style : Style) : style.reserves = true ↔ style ≠ .trigger := by
  cases style <;> simp [Style.reserves]

/-- A crossing does not meet the blocks of the strings (R130). -/
theorem crossRoute_apart (j : StringNo) (f : StringBlock → StringBlock) (verdict route : Verdict) (withheld reserves : Bool)
    (index : Option Nat) (m : Message) (s : State) :
    crossRoute verdict route withheld reserves index m (s.modifyString j f) =
      (crossRoute verdict route withheld reserves index m s).mapState (·.modifyString j f) := by
  unfold crossRoute
  simp only [routeStage_apart j _ _ _ f, admitStage_apart]
  rw [apply_ite (Crossing.mapState (·.modifyString j f))]
  rfl

theorem crossRoute_copied (route : Verdict) (withheld reserves : Bool) (index : Option Nat) (m : Message) (s : State) :
    (crossRoute .pass route withheld reserves index m s).copied = route.copies := by
  unfold crossRoute
  simp only [Verdict.pass_higher]
  split <;> rfl

/-- The monitor copy of a crossing goes by the route alone (R134). -/
theorem crossRoute_mq (route : Verdict) (withheld reserves : Bool) (index : Option Nat) (m : Message) (s : State) :
    (crossRoute .pass route withheld reserves index m s).state.mq =
      if route = .copy ∨ route = .divert then (s.placeMonitor { m with monitor := true }).mq else s.mq := by
  simp only [← Verdict.copies_iff, ← routeStage_mq route index m s]
  unfold crossRoute
  simp only [Verdict.pass_higher]
  split
  · exact (admitStage_eq reserves index m _).2.2
  · rfl

/-- Under PASS and COPY a message that is not withheld meets the admission rules (R133, R136). -/
theorem crossRoute_offered {route : Verdict} (h : route.offers = true) (reserves : Bool) (index : Option Nat) (m : Message)
    (s : State) :
    (crossRoute .pass route false reserves index m s).admitted =
        (admitMessage reserves m (routeStage route index m s)).admitted ∧
      (crossRoute .pass route false reserves index m s).state.eq =
        (admitMessage reserves m (routeStage route index m s)).state.eq := by
  obtain ⟨admitted, eq, _⟩ := admitStage_eq reserves index m (routeStage route index m s)
  simp only [crossRoute, Verdict.pass_higher, h, Bool.not_false, and_self, if_true]
  exact ⟨admitted, eq⟩

/-- Under DIVERT and DROP no message is offered (R133). -/
theorem crossRoute_unoffered {route : Verdict} (h : route.offers = false) (withheld reserves : Bool) (index : Option Nat)
    (m : Message) (s : State) :
    (crossRoute .pass route withheld reserves index m s).admitted = false ∧
      (crossRoute .pass route withheld reserves index m s).state.eq = s.eq := by
  simp [crossRoute, h]

/-- Wherever it is offered, the message is admitted when the queue has a free unit for it and `kept` more, which it reserves; if
not, the queue stays as it was (R146, R147). -/
def TakesUnit (reserves : Bool) (m : Message) (kept : Nat) : Prop :=
  ∀ s : State, (admitMessage reserves m s).admitted = decide (s.eq.entries.length + s.eq.reserved + (1 + kept) ≤ 64) ∧
    (admitMessage reserves m s).state.eq =
      if s.eq.entries.length + s.eq.reserved + (1 + kept) ≤ 64 then ⟨s.eq.entries ++ [m], s.eq.reserved + kept⟩ else s.eq

theorem admitOne_unit (m : Message) (s : State) :
    (admitOne m s).admitted = decide (s.eq.entries.length + s.eq.reserved + (1 + 0) ≤ 64) ∧
      (admitOne m s).state.eq =
        if s.eq.entries.length + s.eq.reserved + (1 + 0) ≤ 64 then ⟨s.eq.entries ++ [m], s.eq.reserved + 0⟩ else s.eq := by
  unfold admitOne EventQueue.load EventQueue.enqueue Config.eventQueueSize
  split <;> simp_all

theorem takesUnit_restrike {m : Message} {velocity : Nat} (h : m.body = .restrike velocity) (reserves : Bool) :
    TakesUnit reserves m 0 := by
  intro s
  rw [admitMessage, h]
  exact admitOne_unit m s

/-- A NOTE START reserves the unit of its NOTE END, unless its note is a TRIGGER note (R146, R147). -/
theorem takesUnit_start {m : Message} (h : m.isStart = true) (reserves : Bool) :
    TakesUnit reserves m (if reserves then 1 else 0) := by
  intro s
  have body : admitMessage reserves m s = if reserves then admitReserving m s else admitOne m s := by
    unfold Message.isStart at h
    unfold admitMessage
    split at h <;> simp_all
  rw [body]
  cases reserves with
  | false => exact admitOne_unit m s
  | true =>
    simp only [if_true]
    unfold admitReserving EventQueue.load EventQueue.enqueue Config.eventQueueSize
    split <;> simp_all

/-- The crossing of such a message: under PASS and COPY it is admitted where the queue has the units (R133, R136). -/
theorem TakesUnit.crossRoute {reserves : Bool} {m : Message} {kept : Nat} (h : TakesUnit reserves m kept) (route : Verdict)
    (index : Option Nat) (s : State) :
    let x := crossRoute .pass route false reserves index m s
    let fits := (route = .pass ∨ route = .copy) ∧ s.eq.entries.length + s.eq.reserved + (1 + kept) ≤ 64
    (x.admitted = true ↔ fits) ∧
      x.state.eq = if fits then ⟨s.eq.entries ++ [m], s.eq.reserved + kept⟩ else s.eq := by
  intro x fits
  cases offers : route.offers with
  | false =>
    have unfit : ¬fits := fun h => by simp [(Verdict.offers_iff route).mpr h.1] at offers
    obtain ⟨admitted, eq⟩ := crossRoute_unoffered offers false reserves index m s
    rw [if_neg unfit]
    exact ⟨⟨fun h => absurd (admitted.symm.trans h) Bool.false_ne_true, fun h => absurd h unfit⟩, eq⟩
  | true =>
    have fits_iff : fits ↔ s.eq.entries.length + s.eq.reserved + (1 + kept) ≤ 64 :=
      and_iff_right ((Verdict.offers_iff route).mp offers)
    obtain ⟨admitted, eq⟩ := crossRoute_offered offers reserves index m s
    obtain ⟨room, queued⟩ := h (routeStage route index m s)
    rw [routeStage_eq] at room queued
    refine ⟨?_, eq.trans (queued.trans (if_congr fits_iff.symm rfl rfl))⟩
    rw [admitted, room, decide_eq_true_iff, fits_iff]

/-- Of the status unit the crossing of a message that is no PITCH touches START_LOST, MONITOR_LOST and their counters alone (R146,
R154). -/
theorem crossRoute_statusKept_of_not_pitch {m : Message} (h : m.isPitch = false) (verdict route : Verdict)
    (withheld reserves : Bool) (index : Option Nat) (s : State) :
    StatusKept [5, 7] [3, 5] s.su (crossRoute verdict route withheld reserves index m s).state.su := by
  have routed := (routeStage_statusKept (verdict.higher route) index m s).mono (flags' := [5, 7]) (counters' := [3, 5])
    (by decide) (by decide)
  have one (r : State) : (admitOne m r).state.su = r.su := by
    unfold admitOne
    split <;> rfl
  have admitted (r : State) : StatusKept [5, 7] [3, 5] r.su (admitMessage reserves m r).state.su := by
    unfold admitMessage
    split
    · split
      · unfold admitReserving
        split
        · exact .refl _ _ _
        · exact ((cause_statusKept .startLost r.su).mono (by decide) (List.nil_subset _)).trans
            ((bump_statusKept .startsLost _).mono (List.nil_subset _) (by decide))
      · rw [one]; exact .refl _ _ _
    · next pitch => simp [Message.isPitch, pitch] at h
    · rw [one]; exact .refl _ _ _
    · split
      · rw [one]; exact .refl _ _ _
      · exact .refl _ _ _
    · exact .refl _ _ _
  unfold crossRoute
  simp only
  split
  · refine routed.trans ?_
    rw [admitStage_su]
    exact admitted _
  · exact routed

/-- What a tracker's event leaves outside its string, the message queues, the counter sets and the status unit. -/
theorem OneTracker.frame {i : StringNo} {s t : State} (h : OneTracker i s t) :
    { t with strings := s.strings, eq := s.eq, mq := s.mq, rc := s.rc, su := s.su } = s := by
  cases s
  cases t
  obtain ⟨rfl, rfl, rfl, rfl, rfl, _, rfl, rfl, rfl, _, rfl, _⟩ := h
  rfl

/-! ## The messages of an open note -/

section

variable {i : StringNo} {s : State} {c : NoteContext} (hc : (s.string i).tracker.context = some c)

include hc

/-- A later message of a note that is announced or monitored is built, and withheld while the note is unannounced (R86). -/
theorem laterMessage_built (h : c.announced = true ∨ c.monitored = true) (m : TrackerMessage) :
    laterMessage i m s =
      ⟨(crossTracker i c (!c.announced) m s).state, (crossTracker i c (!c.announced) m s).admitted⟩ := by
  simp only [laterMessage, hc, if_pos h]

/-- The end of a note that sends nothing: a TRIGGER note, or one neither announced nor monitored (R85, R86). -/
theorem endNote_silent (cause : EndCause) (h : c.latched.style = .trigger ∨ (c.announced = false ∧ c.monitored = false)) :
    endNote i cause s = s.modifyString i (·.closeContext) := by
  simp only [endNote, hc, laterMessage]
  rcases h with trigger | ⟨unannounced, unmonitored⟩
  · simp [trigger, Style.reserves]
  · simp [unannounced, unmonitored]

/-- The end of a note that sends its NOTE END (R84 to R86). -/
theorem endNote_sent (cause : EndCause) (style : c.latched.style ≠ .trigger) (h : c.announced = true ∨ c.monitored = true) :
    endNote i cause s =
      (crossRoute .pass c.latched.route (!c.announced) true c.latched.counterIndex
        ⟨i, c.latched.lane.getD 0, false, false, .noteEnd cause⟩ s).state.modifyString i (·.closeContext) := by
  have reserves := (Style.reserves_iff _).mpr style
  simp only [endNote, hc, reserves, if_true, laterMessage_built hc h, crossTracker]
  rfl

/-- The end of an open note closes its context (R82, R84). -/
theorem endNote_string_open (cause : EndCause) : (endNote i cause s).string i = (s.string i).closeContext := by
  simp only [endNote, hc, State.modifyString_string]
  split
  · rw [laterMessage_string]
  · rfl

end

/-- Settles O31. -/
theorem endOfANote : Obligations.EndOfANote := by
  intro i cause s c hc b t m
  have touches : OneTracker i s t := endNote_touches i cause s
  refine ⟨endNote_string_open hc cause, touches.others, touches.frame, endNote_statusKept i cause s, fun announced style route => ?admitted,
    fun h => ?silent, fun unannounced => ?withheld, fun h style => ?sent⟩
  case admitted =>
    have offered := crossRoute_offered ((Verdict.offers_iff _).mpr route) true c.latched.counterIndex m s
    have queued : t.eq = (crossRoute .pass c.latched.route false true c.latched.counterIndex m s).state.eq := by
      simp only [t, endNote_sent hc cause style (.inl announced), announced]
      rfl
    rw [queued, offered.2, ← routeStage_eq c.latched.route c.latched.counterIndex m s]
    rfl
  case silent =>
    simp only [t, endNote_silent hc cause h]
    exact ⟨rfl, rfl, rfl, rfl⟩
  case withheld =>
    refine endNote_unheld i cause s fun held => ?_
    obtain ⟨d, hd, announced, _⟩ := (reservationHeld_iff _).mp held
    obtain rfl := Option.some.inj (hc.symm.trans hd)
    rw [unannounced] at announced
    cases announced
  case sent =>
    simp only [t, endNote_sent hc cause style h]
    exact ⟨⟨rfl, rfl, rfl, rfl⟩, crossRoute_mq _ _ _ _ m s⟩

/-! ## The start of a note -/

/-- The blocks of a string whose open note's start has crossed: the context takes the two results, and an admitted FULL note starts
the update scheduler (R77, R83, R101). -/
def StringBlock.offered (c : NoteContext) (copied admitted : Bool) (b : StringBlock) : StringBlock := { b with
  timers := { b.timers with
    update := if admitted = true ∧ c.latched.style = .full then .start b.profile else b.timers.update }
  tracker := { b.tracker with context := some (c.takeStartResult copied admitted) } }

/-- A start is offered by one crossing and one change of its string. -/
theorem offerStart_eq {i : StringNo} {s : State} {c : NoteContext} (hc : (s.string i).tracker.context = some c)
    (cause : StartCause) :
    offerStart i cause s =
      (crossTracker i c false (.start cause c.pvComputed c.grade c.early) s).state.modifyString i
        (·.offered c (crossTracker i c false (.start cause c.pvComputed c.grade c.early) s).copied
          (crossTracker i c false (.start cause c.pvComputed c.grade c.early) s).admitted) := by
  simp only [offerStart, hc]
  set x := crossTracker i c false (.start cause c.pvComputed c.grade c.early) s with hx
  have open_ : (x.state.string i).tracker.context = some c := by
    rw [(crossTracker_queuesOnly i c false _ s).string, hc]
  split
  · next full =>
    refine (State.modifyString_modifyString i _ _ x.state).trans (State.modifyString_congr ?_)
    simp [StringBlock.offered, StringBlock.modifyTracker, open_, full]
  · next notFull =>
    refine State.modifyString_congr ?_
    simp [StringBlock.offered, StringBlock.modifyTracker, open_, notFull]

/-- What a start's crossing and change leave, from the part before the string was changed. -/
theorem offerStart_modifyString {i : StringNo} {s : State} {f : StringBlock → StringBlock} {c : NoteContext}
    (hc : (f (s.string i)).tracker.context = some c) (cause : StartCause) :
    let m := mapTracker s.tables i (f (s.string i)) c (.start cause c.pvComputed c.grade c.early)
    let x := crossRoute .pass c.latched.route false c.latched.style.reserves c.latched.counterIndex m s
    offerStart i cause (s.modifyString i f) =
      x.state.modifyString i fun b => (f b).offered c x.copied x.admitted := by
  intro m x
  have crossed : crossTracker i c false (.start cause c.pvComputed c.grade c.early) (s.modifyString i f) =
      x.mapState (·.modifyString i f) := by
    rw [crossTracker, crossRoute_apart, State.modifyString_string, State.modifyString_tables]
  rw [offerStart_eq (c := c) (by rw [State.modifyString_string, hc]), crossed]
  exact State.modifyString_modifyString i _ _ x.state

/-- The context of a start at its crossing: opened, and holding the lane MAP gave it (R83, R114, R123). -/
def startContext (i : StringNo) (pv : Nat) (cause : StartCause) (grade peak : Nat) (early : Bool) (s : State) : NoteContext :=
  let c := openContext (s.string i) (bankBit s.plu.side) s.numbering pv cause grade peak early
  { c with latched := { c.latched with
      lane := some (mapTracker s.tables i (s.string i) c (.start cause pv grade early)).lane } }

/-- The message a start offers (R84, R123). -/
def startMessage (i : StringNo) (pv : Nat) (cause : StartCause) (grade peak : Nat) (early : Bool) (s : State) : Message :=
  mapTracker s.tables i (s.string i) (startContext i pv cause grade peak early s) (.start cause pv grade early)

/-- The crossing of a start, under the action entry it has latched (R114, R130). -/
def startCrossing (i : StringNo) (pv : Nat) (cause : StartCause) (grade peak : Nat) (early : Bool) (s : State) : Crossing :=
  crossRoute .pass (s.string i).action.route false (s.string i).action.style.reserves
    ((s.string i).action.latch (bankBit s.plu.side) cause).counterIndex (startMessage i pv cause grade peak early s) s

/-- A note starts by one crossing and one change of its string (R83). -/
theorem startNote_eq (i : StringNo) (pv : Nat) (cause : StartCause) (grade peak : Nat) (early : Bool) (s : State) :
    startNote i pv cause grade peak early s =
      (startCrossing i pv cause grade peak early s).state.modifyString i fun b =>
        (b.startNote (startContext i pv cause grade peak early s)).offered (startContext i pv cause grade peak early s)
          (startCrossing i pv cause grade peak early s).copied (startCrossing i pv cause grade peak early s).admitted := by
  set c := startContext i pv cause grade peak early s with hc
  have stored : ∀ d, d = openContext (s.string i) (bankBit s.plu.side) s.numbering pv cause grade peak early →
      storeLane i cause (s.modifyString i (·.startNote d)) = s.modifyString i (·.startNote c) := by
    rintro d rfl
    unfold storeLane
    refine (State.modifyString_modifyString i _ _ s).trans (State.modifyString_congr ?_)
    rw [State.modifyString_string]
    rfl
  unfold startNote
  simp only
  rw [stored _ rfl, offerStart_modifyString (f := (·.startNote c)) (c := c) rfl]
  rfl

theorem startNote_string (i : StringNo) (pv : Nat) (cause : StartCause) (grade peak : Nat) (early : Bool) (s : State) :
    (startNote i pv cause grade peak early s).string i =
      ((s.string i).startNote (startContext i pv cause grade peak early s)).offered (startContext i pv cause grade peak early s)
        (startCrossing i pv cause grade peak early s).copied (startCrossing i pv cause grade peak early s).admitted := by
  rw [startNote_eq, State.modifyString_string, startCrossing, (crossRoute_queuesOnly _ _ _ _ _ _ s).string]

theorem BankSelect.usesAlternate_iff (select : BankSelect) (bankB : Bool) : select.usesAlternate bankB = true ↔
    (select = .altOnB ∧ bankB = true) ∨ (select = .altOnA ∧ bankB = false) := by
  cases select <;> cases bankB <;> simp [BankSelect.usesAlternate]

/-- For a start from an attack or a change of note MAP makes the message by the context as the start opens it: its lane comes from
the action entry, and no crossing's result enters it (R123). -/
theorem startMessage_eq {cause : StartCause} (h : cause = .picked ∨ cause = .legato) (i : StringNo) (pv grade peak : Nat)
    (early copied admitted : Bool) (s : State) :
    mapTracker s.tables i (s.string i) ((startContext i pv cause grade peak early s).takeStartResult copied admitted)
        (.start cause pv grade early) = startMessage i pv cause grade peak early s ∧
      (startContext i pv cause grade peak early s).latched.lane = some (startMessage i pv cause grade peak early s).lane := by
  rcases h with rfl | rfl <;> exact ⟨rfl, rfl⟩

/-- What the crossing of a start gives: its results and the event queue (R134, R146, R147). -/
theorem startCrossing_results (i : StringNo) (pv : Nat) (cause : StartCause) (grade peak : Nat) (early : Bool) (s : State) :
    let a := (s.string i).action
    let x := startCrossing i pv cause grade peak early s
    (x.admitted = true ↔ (a.route = .pass ∨ a.route = .copy) ∧
      s.eq.entries.length + s.eq.reserved + (if a.style = .trigger then 1 else 2) ≤ 64) ∧
    (x.copied = true ↔ a.route = .copy ∨ a.route = .divert) ∧
    x.state.eq = if x.admitted = true then
      ⟨s.eq.entries ++ [startMessage i pv cause grade peak early s], s.eq.reserved + if a.style = .trigger then 0 else 1⟩
      else s.eq := by
  intro a x
  have kept : (if a.style.reserves then 1 else 0) = if a.style = .trigger then 0 else 1 := by
    cases a.style <;> rfl
  have units : 1 + (if a.style = .trigger then 0 else 1) = if a.style = .trigger then 1 else 2 := by
    split <;> rfl
  have crossed := (takesUnit_start (m := startMessage i pv cause grade peak early s) rfl a.style.reserves).crossRoute a.route
    (a.latch (bankBit s.plu.side) cause).counterIndex s
  rw [kept, units] at crossed
  obtain ⟨admitted, eq⟩ := crossed
  refine ⟨admitted, ?_, eq.trans (if_congr admitted.symm rfl rfl)⟩
  rw [← Verdict.copies_iff, ← crossRoute_copied]
  rfl

/-- Settles O29. -/
theorem startOfANote : Obligations.StartOfANote := by
  intro i pv cause grade peak early s hcause b a bankB alternate countBase index t offered room
  set x := startCrossing i pv cause grade peak early s with hx
  obtain ⟨admitted, copied, queued⟩ := startCrossing_results i pv cause grade peak early s
  have base : a.countBaseInUse bankB = countBase := if_congr (a.bankSelect.usesAlternate_iff bankB) rfl rfl
  have mapBase : a.mapBaseInUse bankB = if alternate then a.altMapBase else a.mapBase :=
    if_congr (a.bankSelect.usesAlternate_iff bankB) rfl rfl
  have offset : a.startOffset cause = if cause = .legato then a.legatoOffset else a.pickedOffset := by
    rcases hcause with rfl | rfl <;> rfl
  have counter : (a.latch bankB cause).counterIndex = if countBase = 0 ∨ 128 ≤ index then none else some index := by
    simp only [index, ← base, ← offset]
    rfl
  have reserves : a.style.reserves = decide (a.style ≠ .trigger) := by cases a.style <;> rfl
  obtain ⟨message, lane⟩ := startMessage_eq hcause i pv grade peak early x.copied x.admitted s
  have string : t.string i = _ := startNote_string i pv cause grade peak early s
  have started : t = x.state.modifyString i _ := startNote_eq i pv cause grade peak early s
  have eq : t.eq = x.state.eq := by rw [started]; rfl
  have touches : OneTracker i s t := startNote_touches i pv cause grade peak early s
  have status : StatusKept [5, 7] [3, 5] s.su t.su := by
    rw [started]
    exact crossRoute_statusKept_of_not_pitch rfl _ _ _ _ _ s
  refine ⟨(startContext i pv cause grade peak early s).takeStartResult x.copied x.admitted, ?tracker, rfl, rfl, rfl, rfl, rfl, rfl,
    rfl, rfl, rfl, rfl, rfl, rfl, rfl, rfl, rfl, mapBase, base, counter, ?announced, ?monitored, ?message, ?unannounced, ?stage,
    ?attack, ?release, ?starts, ?stays, ?block, touches.others, touches.frame, status⟩
  case tracker => rw [string]; rfl
  case announced => exact admitted
  case monitored => exact copied
  case message =>
    rw [message]
    refine ⟨lane, ?_, ?_, fun announced => ?_⟩
    · rw [started]; exact crossRoute_mq _ _ _ _ _ s
    · rw [started, ← reserves]; exact ⟨rfl, rfl, rfl, rfl⟩
    · rw [eq, queued]; exact if_pos announced
  case unannounced => exact fun unannounced => eq.trans (queued.trans (if_neg (Bool.eq_false_iff.mp unannounced)))
  case stage => rw [string]; rfl
  case attack => rw [string]; rfl
  case release => rw [string]; rfl
  case starts => exact fun announced full => by rw [string]; exact if_pos ⟨announced, full⟩
  case stays =>
    intro h
    rw [string]
    refine if_neg fun ⟨announced, full⟩ => h.elim (fun unannounced => ?_) (absurd full)
    cases announced.symm.trans unannounced
  case block => rw [string]; rfl

/-! ## A restrike of an open note -/

/-- The blocks of a string a RESTRIKE edge leaves before its message: SOUNDING, the release counter stopped (R76, R103). -/
def StringBlock.struck (b : StringBlock) : StringBlock := { b with
  timers := { b.timers with
    release := { b.timers.release with running := b.timers.release.running && decide (b.tracker.state = .sounding) } }
  tracker := { b.tracker with state := .sounding } }

theorem takeEdge_restrike {i : StringNo} {s : State}
    (h : (s.string i).tracker.state = .sounding ∨ (s.string i).tracker.state = .releasing) :
    takeEdge i .restrike s = restrikeNote i (s.modifyString i (·.struck)) := by
  rcases h with sounding | releasing
  · have same : (s.string i).struck = s.string i := by simp [StringBlock.struck, ← sounding]
    simp only [State.modifyString_same same, takeEdge, sounding]
  · simp only [takeEdge, releasing]
    refine congrArg (restrikeNote i) (State.modifyString_congr ?_)
    simp [StringBlock.struck, ReleaseCounter.stop, releasing]

section

variable {i : StringNo} {s : State} {f : StringBlock → StringBlock} {c : NoteContext}
  (hc : (f (s.string i)).tracker.context = some c)

include hc

theorem restrikeNote_trigger (style : c.latched.style = .trigger) :
    restrikeNote i (s.modifyString i f) = s.modifyString i f := by
  simp [restrikeNote, hc, style, Style.reserves]

/-- The RESTRIKE of an announced FULL or GATE note crosses in full (R101). -/
theorem restrikeNote_announced (style : c.latched.style ≠ .trigger) (announced : c.announced = true) :
    restrikeNote i (s.modifyString i f) =
      (crossRoute .pass c.latched.route false true c.latched.counterIndex
        (mapTracker s.tables i (f (s.string i)) c (.restrike (gradeOf (f (s.string i)).stage.e))) s).state.modifyString i f := by
  have opened : ((s.modifyString i f).string i).tracker.context = some c := by rw [State.modifyString_string, hc]
  have reserves := (Style.reserves_iff _).mpr style
  simp only [restrikeNote, opened, reserves, announced, if_true, laterMessage_built opened (.inl announced), Bool.not_true]
  rw [crossTracker, reserves, crossRoute_apart, State.modifyString_string, State.modifyString_tables]
  rfl

/-- The context of a recovery start at its crossing (R101). -/
def NoteContext.recovering (e : Nat) (c : NoteContext) : NoteContext := { c with cause := .recovery, grade := gradeOf e }

/-- The recovery start of an unannounced FULL or GATE note (R101). -/
theorem restrikeNote_unannounced (style : c.latched.style ≠ .trigger) (unannounced : c.announced = false) :
    let e := (f (s.string i)).stage.e
    let m := mapTracker s.tables i (f (s.string i)) (c.recovering e) (.start .recovery c.pvComputed (gradeOf e) c.early)
    let x := crossRoute .pass c.latched.route false true c.latched.counterIndex m s
    restrikeNote i (s.modifyString i f) =
      x.state.modifyString i fun b => (f b).offered (c.recovering e) x.copied x.admitted := by
  intro e m x
  have reserves := (Style.reserves_iff _).mpr style
  have recovers : restrikeNote i (s.modifyString i f) = offerStart i .recovery (s.modifyString i fun b =>
      (f b).modifyTracker fun k => { k with context := k.context.map (·.recovering e) }) := by
    simp only [restrikeNote, State.modifyString_string, hc, reserves, unannounced, if_true, Bool.false_eq_true, if_false]
    rw [recoveryStart, State.modifyString_string]
    exact congrArg (offerStart i .recovery) (State.modifyString_modifyString i _ _ s)
  have opened : ((f (s.string i)).modifyTracker fun k =>
      { k with context := k.context.map (·.recovering e) }).tracker.context = some (c.recovering e) := by
    simp [hc]
  rw [recovers, offerStart_modifyString opened .recovery, show (c.recovering e).latched.style.reserves = true from reserves]
  rfl

end

/-- Settles O34. -/
theorem restrikeOfAnOpenNote : Obligations.RestrikeOfAnOpenNote := by
  intro i s c b hc state grade release sounding u offers copies free t
  have struck : t = restrikeNote i (s.modifyString i (·.struck)) := takeEdge_restrike state
  have opened : (s.string i).struck.tracker.context = some c := hc
  have touches : OneTracker i s t := takeEdge_touches i .restrike s
  have units (kept : Nat) :
      ((c.latched.route = .pass ∨ c.latched.route = .copy) ∧ s.eq.entries.length + s.eq.reserved + (1 + kept) ≤ 64) ↔
        (offers ∧ 1 + kept ≤ free) :=
    and_congr_right fun _ => by omega
  refine ⟨fun style => ?trigger, fun style announced => ?announced, fun style unannounced => ?unannounced, touches.others,
    touches.frame, ?status⟩
  case trigger => exact struck.trans (restrikeNote_trigger opened style)
  case announced =>
    intro m
    rw [restrikeNote_announced opened style announced] at struck
    obtain ⟨_, eq⟩ := (takesUnit_restrike (m := m) rfl true).crossRoute c.latched.route c.latched.counterIndex s
    refine ⟨?_, ?_, ?_, ?_⟩
    · rw [struck]
      exact congrArg (fun p : PerString StringBlock => p.set i (p.get i).struck) (crossRoute_queuesOnly _ _ _ _ _ m s).strings
    · rw [struck]; exact ⟨rfl, rfl, rfl, rfl⟩
    · rw [struck]; exact eq.trans (if_congr (units 0) rfl rfl)
    · rw [struck]; exact crossRoute_mq _ _ _ _ m s
  case unannounced =>
    intro again m admitted update
    set x := crossRoute .pass c.latched.route false true c.latched.counterIndex m s with hx
    have recovered : t = x.state.modifyString i fun b => b.struck.offered again x.copied x.admitted :=
      struck.trans (restrikeNote_unannounced opened style unannounced)
    obtain ⟨fits, eq⟩ := (takesUnit_start (m := m) rfl true).crossRoute c.latched.route c.latched.counterIndex s
    have results : x.admitted = decide admitted := by
      rw [Bool.eq_iff_iff, decide_eq_true_iff]
      exact fits.trans (units 1)
    have copied : x.copied = decide copies := by
      rw [hx, crossRoute_copied, Bool.eq_iff_iff, decide_eq_true_iff, Verdict.copies_iff]
    refine ⟨?_, ?_, ?_, ?_⟩
    · rw [recovered, State.modifyString_string, hx, (crossRoute_queuesOnly _ _ _ _ _ m s).string, ← hx, results, copied]
      simp only [StringBlock.offered, NoteContext.takeStartResult, decide_eq_true_iff]
      rw [show again.announced = false from unannounced, Bool.false_or]
      rfl
    · rw [recovered]; exact ⟨rfl, rfl, rfl, rfl⟩
    · rw [recovered]; exact eq.trans (if_congr (units 1) rfl rfl)
    · rw [recovered]; exact crossRoute_mq _ _ _ _ m s
  case status =>
    by_cases style : c.latched.style = .trigger
    · rw [struck, restrikeNote_trigger opened style]
      exact .refl _ _ _
    · cases announced : c.announced with
      | true =>
        rw [struck, restrikeNote_announced opened style announced]
        exact crossRoute_statusKept_of_not_pitch rfl _ _ _ _ _ s
      | false =>
        rw [struck, restrikeNote_unannounced opened style announced]
        exact crossRoute_statusKept_of_not_pitch rfl _ _ _ _ _ s

/-! ## The other edges -/

/-- Settles O30: the branch of the model for each edge, in the state that takes it. -/
theorem envelopeEdges : Obligations.EnvelopeEdges := by
  intro i s b
  refine ⟨fun silent => ?onset, fun attack => ?ends, fun sounding long => ?releases, fun sounding zero => ?falls,
    fun releasing => ?rise⟩
  case onset =>
    rw [takeEdge_onset i s silent, takeOnset, State.bumpCounter, StatusUnit.bump_eq]
    rfl
  case ends => simp only [takeEdge, show (s.string i).tracker.state = .attack from attack]; rfl
  case releases =>
    simp only [takeEdge, show (s.string i).tracker.state = .sounding from sounding]
    exact if_pos long
  case falls =>
    simp only [takeEdge, show (s.string i).tracker.state = .sounding from sounding]
    exact if_neg (Nat.not_lt.mpr (Nat.le_of_eq zero))
  case rise => simp only [takeEdge, show (s.string i).tracker.state = .releasing from releasing]; rfl

end Sys2Proof.Machine
end

section
/-!
PROOFS. Each timer runs in the tracker states that own it: the blocks of one string, and every event of its tracker (O6).
-/

namespace Sys2Proof.Machine

open Sys2Proof.Safety

/-! ## The timers and the context of a string -/

/-- A context is open in SOUNDING and RELEASING alone, and each timer runs in the tracker states that own it (R71 to R79, R82). -/
structure TimersOwned (b : StringBlock) : Prop where
  context : b.tracker.context.isSome = contextState b.tracker.state
  attack : b.timers.attack.running = decide (b.tracker.state = .attack)
  release : b.timers.release.running = decide (b.tracker.state = .releasing)
  update : b.timers.update.running = runsScheduler b.tracker

/-- Blocks whose tracker is the same and whose timers run as they ran. -/
theorem TimersOwned.of_running {b c : StringBlock} (h : TimersOwned b) (tracker : c.tracker = b.tracker)
    (attack : c.timers.attack.running = b.timers.attack.running)
    (release : c.timers.release.running = b.timers.release.running)
    (update : c.timers.update.running = b.timers.update.running) : TimersOwned c :=
  ⟨tracker ▸ h.context, tracker ▸ attack.trans h.attack, tracker ▸ release.trans h.release, tracker ▸ update.trans h.update⟩

theorem TimersOwned.congr {b c : StringBlock} (h : TimersOwned b) (tracker : c.tracker = b.tracker)
    (timers : c.timers = b.timers) : TimersOwned c :=
  h.of_running tracker (by rw [timers]) (by rw [timers]) (by rw [timers])

/-- In SOUNDING and RELEASING a note is open and the attack clock stopped. -/
theorem TimersOwned.playing {b : StringBlock} (h : TimersOwned b) (playing : contextState b.tracker.state = true) :
    b.timers.attack.running = false ∧ ∃ c, b.tracker.context = some c := by
  refine ⟨h.attack.trans (decide_eq_false fun attack => ?_), Option.isSome_iff_exists.mp (h.context.trans playing)⟩
  rw [attack] at playing
  cases playing

/-- In the other states no note is open, and the release counter and the scheduler are stopped. -/
theorem TimersOwned.silent {b : StringBlock} (h : TimersOwned b) (silent : contextState b.tracker.state = false) :
    b.tracker.context = none ∧ b.timers.release.running = false ∧ b.timers.update.running = false := by
  have closed : b.tracker.context = none := Option.not_isSome_iff_eq_none.mp (by simp [h.context, silent])
  refine ⟨closed, h.release.trans (decide_eq_false fun releasing => ?_), ?_⟩
  · rw [releasing] at silent
    cases silent
  · rw [h.update, runsScheduler, closed]

theorem TimersOwned.context_of_playing {b : StringBlock} (h : TimersOwned b) {c : NoteContext}
    (hc : b.tracker.context = some c) : contextState b.tracker.state = true := by
  rw [← h.context, hc]
  rfl

/-- A note's context changes and stays announced or not, and of its style. -/
theorem TimersOwned.mapContext {b : StringBlock} (h : TimersOwned b) (f : NoteContext → NoteContext)
    (hf : ∀ c, (f c).announced = c.announced ∧ (f c).latched.style = c.latched.style) :
    TimersOwned { b with tracker := { b.tracker with context := b.tracker.context.map f } } := by
  refine ⟨Option.isSome_map.trans h.context, h.attack, h.release, h.update.trans ?_⟩
  unfold runsScheduler
  cases b.tracker.context with
  | none => rfl
  | some c => simp [hf c]

/-- The end of a note stops the release counter and the scheduler, and takes the tracker where no timer runs (R75, R76, R79). -/
theorem TimersOwned.ended {b : StringBlock} (h : TimersOwned b) (playing : contextState b.tracker.state = true)
    {k : TrackerState} (hk : k = .silent ∨ k = .muted) :
    TimersOwned { b.closeContext with tracker := { b.closeContext.tracker with state := k } } := by
  obtain ⟨attack, _⟩ := h.playing playing
  rcases hk with rfl | rfl <;> exact ⟨rfl, attack, rfl, rfl⟩

/-- The attack's end stops the attack clock (R73, R74). -/
theorem TimersOwned.attackEnded {b : StringBlock} (h : TimersOwned b) (state : b.tracker.state = .attack)
    {after : TrackerState} (hafter : after = .silent ∨ after = .muted) :
    TimersOwned { b with
      timers := { b.timers with attack := b.timers.attack.stop }
      tracker := { b.tracker with state := after, attackPeak := 0 } } := by
  obtain ⟨closed, release, _⟩ := h.silent (by rw [state]; rfl)
  rcases hafter with rfl | rfl <;> exact ⟨by rw [closed]; rfl, rfl, release, h.update⟩

/-- A start stops the attack clock, and opens a note that is not yet announced (R74, R83). -/
theorem TimersOwned.startNote {b : StringBlock} (release : b.timers.release.running = false)
    (update : b.timers.update.running = false) {c : NoteContext} (unannounced : c.announced = false) :
    TimersOwned (b.startNote c) :=
  ⟨rfl, rfl, release, update.trans (by simp [StringBlock.startNote, runsScheduler, unannounced])⟩

/-- An offered start runs the scheduler where it has announced a FULL note (R77). -/
theorem TimersOwned.offered {b : StringBlock} (h : TimersOwned b) {c : NoteContext} (hc : b.tracker.context = some c)
    (copied admitted : Bool) : TimersOwned (b.offered c copied admitted) := by
  refine ⟨(h.context_of_playing hc).symm, h.attack, h.release, ?_⟩
  have before : b.timers.update.running = (c.announced && decide (c.latched.style = .full)) := by
    rw [h.update, runsScheduler, hc]
  by_cases started : admitted = true ∧ c.latched.style = .full
  · simp [StringBlock.offered, runsScheduler, NoteContext.takeStartResult, UpdateScheduler.start, started]
  · simp only [StringBlock.offered, runsScheduler, NoteContext.takeStartResult, if_neg started, before]
    grind

/-! ## What a tick leaves running -/

/-- A tick stops the attack clock at GU alone (R73). -/
theorem AttackClock.tick_running {c : AttackClock} (h : c.reachesGiveUp = false) : c.tick.running = c.running := by
  unfold AttackClock.reachesGiveUp at h
  unfold AttackClock.tick
  split
  · next running =>
    simp only [running, Bool.true_and, decide_eq_false_iff_not] at h
    simpa [running] using h
  · rfl

/-- A tick stops the release counter at 0 alone (R75). -/
theorem ReleaseCounter.tick_running {c : ReleaseCounter} (h : c.reachesZero = false) : c.tick.running = c.running := by
  unfold ReleaseCounter.reachesZero at h
  unfold ReleaseCounter.tick
  split
  · next running =>
    simp only [running, Bool.true_and, decide_eq_false_iff_not] at h
    simpa [running] using h
  · rfl

/-- A tick does not stop the scheduler (R78). -/
theorem UpdateScheduler.tick_running (u : UpdateScheduler) : u.tick.running = u.running := by
  unfold UpdateScheduler.tick
  split <;> rfl

/-! ## The events of a tracker -/

theorem setTracker_owned {i : StringNo} {s : State} (h : TimersOwned (s.string i))
    (quiet : contextState (s.string i).tracker.state = false) (notAttack : (s.string i).tracker.state ≠ .attack)
    {k : TrackerState} (hk : k = .silent ∨ k = .muted) : TimersOwned ((s.setTracker i k).string i) := by
  obtain ⟨closed, release, update⟩ := h.silent quiet
  rw [State.setTracker_string]
  rcases hk with rfl | rfl <;>
    exact ⟨by rw [closed]; rfl, h.attack.trans (decide_eq_false notAttack), release, h.update⟩

theorem endAttack_owned {i : StringNo} {s : State} (h : TimersOwned (s.string i))
    (state : (s.string i).tracker.state = .attack) {after : TrackerState} (hafter : after = .silent ∨ after = .muted) :
    TimersOwned ((endAttack i after s).string i) := by
  rw [endAttack, State.modifyString_string]
  exact h.attackEnded state hafter

theorem endNote_setTracker_owned {i : StringNo} {s : State} (h : TimersOwned (s.string i))
    (playing : contextState (s.string i).tracker.state = true) (cause : EndCause) {k : TrackerState}
    (hk : k = .silent ∨ k = .muted) : TimersOwned (((endNote i cause s).setTracker i k).string i) := by
  obtain ⟨_, c, hc⟩ := h.playing playing
  rw [State.setTracker_string, endNote_string_open hc]
  exact h.ended playing hk

theorem modifyContext_owned {i : StringNo} {s : State} (h : TimersOwned (s.string i)) (f : NoteContext → NoteContext)
    (hf : ∀ c, (f c).announced = c.announced ∧ (f c).latched.style = c.latched.style) :
    TimersOwned ((s.modifyContext i f).string i) := by
  rw [State.modifyContext_string]
  exact h.mapContext f hf

theorem backToSounding_owned {i : StringNo} {s : State} (h : TimersOwned (s.string i))
    (playing : contextState (s.string i).tracker.state = true) : TimersOwned ((backToSounding i s).string i) := by
  obtain ⟨attack, c, hc⟩ := h.playing playing
  rw [backToSounding, State.modifyString_string]
  exact ⟨by rw [hc]; rfl, attack, rfl, h.update⟩

theorem backToSounding_state (i : StringNo) (s : State) : ((backToSounding i s).string i).tracker.state = .sounding := by
  rw [backToSounding, State.modifyString_string]

theorem startNote_owned {i : StringNo} {s : State} (release : (s.string i).timers.release.running = false)
    (update : (s.string i).timers.update.running = false) (pv : Nat) (cause : StartCause) (grade peak : Nat) (early : Bool) :
    TimersOwned ((startNote i pv cause grade peak early s).string i) := by
  rw [startNote_string]
  exact (TimersOwned.startNote release update rfl).offered rfl _ _

section

variable {i : StringNo} {s : State} (h : TimersOwned (s.string i))

include h

theorem offerStart_owned (cause : StartCause) : TimersOwned ((offerStart i cause s).string i) := by
  cases hc : (s.string i).tracker.context with
  | none => simpa only [offerStart, hc] using h
  | some c =>
    rw [offerStart_eq hc, State.modifyString_string, (crossTracker_queuesOnly i c false _ s).string]
    exact h.offered hc _ _

theorem laterMessage_owned (m : TrackerMessage) : TimersOwned ((laterMessage i m s).state.string i) := by
  rw [laterMessage_string]
  exact h

theorem buildPitch_owned (cause : PitchCause) : TimersOwned ((buildPitch i cause s).string i) := by
  unfold buildPitch
  split
  · exact h
  · simp only
    split
    · split
      · exact modifyContext_owned (laterMessage_owned h _) _ fun _ => ⟨rfl, rfl⟩
      · exact laterMessage_owned h _
    · exact h

/-- A start from ATTACK (R92, R93). -/
theorem startFromAttack_owned (attack : (s.string i).tracker.state = .attack) (pv : Nat) (early : Bool) :
    TimersOwned ((startFromAttack i pv early s).string i) := by
  obtain ⟨_, release, update⟩ := h.silent (by rw [attack]; rfl)
  exact startNote_owned release update _ _ _ _ _

/-! ### Edges -/

theorem takeOnset_owned (silent : (s.string i).tracker.state = .silent) : TimersOwned ((takeOnset i s).string i) := by
  obtain ⟨closed, release, _⟩ := h.silent (by rw [silent]; rfl)
  rw [takeOnset_string]
  exact ⟨by rw [closed]; rfl, rfl, release, h.update⟩

/-- A FALL starts the release counter, or ends the note (R75, R102). -/
theorem fallInSounding_owned (sounding : (s.string i).tracker.state = .sounding) :
    TimersOwned ((fallInSounding i s).string i) := by
  have playing : contextState (s.string i).tracker.state = true := by rw [sounding]; rfl
  obtain ⟨attack, c, hc⟩ := h.playing playing
  unfold fallInSounding
  simp only
  split
  · rw [State.modifyString_string]
    exact ⟨by rw [hc]; rfl, attack, rfl, h.update⟩
  · exact endNote_setTracker_owned h playing _ (.inl rfl)

theorem restrikeNote_owned : TimersOwned ((restrikeNote i s).string i) := by
  unfold restrikeNote
  split
  · exact h
  · split
    · split
      · exact laterMessage_owned h _
      · refine offerStart_owned (modifyContext_owned h _ fun _ => ?_) .recovery
        exact ⟨rfl, rfl⟩
    · exact h

theorem takeEdge_owned (edge : Edge) : TimersOwned ((takeEdge i edge s).string i) := by
  unfold takeEdge
  split
  · next silent => exact takeOnset_owned h silent
  · next attack => exact endAttack_owned h attack (.inl rfl)
  · next sounding => exact fallInSounding_owned h sounding
  · next releasing => exact backToSounding_owned h (by rw [releasing]; rfl)
  · exact restrikeNote_owned h
  · next releasing => exact restrikeNote_owned (backToSounding_owned h (by rw [releasing]; rfl))
  · exact h

/-! ### Outcomes -/

theorem noteRange_owned (o : GridOutcome) : TimersOwned ((noteRange o s).string i) := by
  rw [noteRange_string]
  exact h

theorem clearEarly_owned (pv note : Nat) : TimersOwned ((clearEarly i pv note s).string i) := by
  have settled := modifyContext_owned h (fun k => { k with early := false, pvComputed := pv, note := noteOf pv })
    fun _ => ⟨rfl, rfl⟩
  unfold clearEarly
  simp only
  split
  · exact settled
  · exact buildPitch_owned settled _

/-- A change of note in mode SPLIT ends the note, so the start that follows finds its timers stopped (R98). -/
theorem changeNote_owned (playing : contextState (s.string i).tracker.state = true) (mode : LegatoMode) (pv : Nat) :
    TimersOwned ((changeNote i mode pv s).string i) := by
  obtain ⟨_, c, hc⟩ := h.playing playing
  cases mode with
  | glide =>
    refine buildPitch_owned (modifyContext_owned h _ fun _ => ?_) .slur
    exact ⟨rfl, rfl⟩
  | split =>
    have opened : ((s.modifyContext i fun k => { k with pvComputed := pv }).string i).tracker.context =
        some { c with pvComputed := pv } := by simp [hc]
    have ended := endNote_string_open opened .split
    exact startNote_owned (by rw [ended]; rfl) (by rw [ended]; rfl) _ _ _ _ _

theorem jumpReturns_owned (o : LockOutcome) : TimersOwned ((jumpReturns i o s).string i) := by
  unfold jumpReturns
  split
  · next returns => exact backToSounding_owned h (by rw [returns.2]; rfl)
  · exact h

theorem pitchOutcome_owned (playing : contextState (s.string i).tracker.state = true) (o : LockOutcome) (pv : Nat)
    (c : NoteContext) : TimersOwned ((pitchOutcome i o pv c s).string i) := by
  unfold pitchOutcome
  split
  · exact clearEarly_owned (jumpReturns_owned h o) _ _
  · split
    · exact changeNote_owned (backToSounding_owned h playing) (by rw [backToSounding_state]; rfl) _ _
    · exact modifyContext_owned (jumpReturns_owned h o) _ fun _ => ⟨rfl, rfl⟩

theorem takePitch_owned (o : LockOutcome) (found : GridOutcome × Nat) : TimersOwned ((takePitch i o found s).string i) := by
  unfold takePitch
  split
  · next attack =>
    split
    · exact startFromAttack_owned h attack _ _
    · exact h
  · next sounding _ => exact pitchOutcome_owned h (by rw [sounding]; rfl) _ _ _
  · next releasing _ => exact pitchOutcome_owned h (by rw [releasing]; rfl) _ _ _
  · exact h

theorem takeLocking_owned (o : LockOutcome) (a : Nat) : TimersOwned ((takeLocking i o a s).string i) := by
  unfold takeLocking
  simp only
  split
  · exact h
  · next found _ =>
    have taken := takePitch_owned (noteRange_owned h found.1) o found
    split
    · split
      · rw [placeTune, (placeMonitor_queuesOnly _ _).string]
        exact taken
      · exact taken
    · exact h

theorem takeOutcome_owned (o : LockOutcome) (accepted : Option Nat) : TimersOwned ((takeOutcome i o accepted s).string i) := by
  unfold takeOutcome
  split
  · split <;> exact h
  · split
    · exact takeLocking_owned h o _
    · exact h
  · exact h

/-! ### Commands to strings -/

theorem offString_owned : TimersOwned ((offString i s).string i) := by
  unfold offString
  split
  · next sounding => exact endNote_setTracker_owned h (by rw [sounding]; rfl) _ (.inr rfl)
  · next releasing => exact endNote_setTracker_owned h (by rw [releasing]; rfl) _ (.inr rfl)
  · next attack => exact endAttack_owned h attack (.inr rfl)
  · next silent => exact setTracker_owned h (by rw [silent]; rfl) (by rw [silent]; decide) (.inr rfl)
  · exact h

theorem panicString_owned : TimersOwned ((panicString i s).string i) := by
  unfold panicString
  split
  · next sounding => exact endNote_setTracker_owned h (by rw [sounding]; rfl) _ (.inl rfl)
  · next releasing => exact endNote_setTracker_owned h (by rw [releasing]; rfl) _ (.inl rfl)
  · next attack => exact endAttack_owned h attack (.inl rfl)
  · exact h
  · exact h

theorem onString_owned : TimersOwned ((onString i s).string i) := by
  unfold onString
  split
  · next muted => exact setTracker_owned h (by rw [muted]; rfl) (by rw [muted]; decide) (.inl rfl)
  · exact h

/-! ### Ticks -/

theorem takeEarlyPoint_owned : TimersOwned ((takeEarlyPoint i s).string i) := by
  have noted (outside : Bool) : ((if outside then s.causeFlag .range else s).string i) = s.string i := by
    cases outside <;> rfl
  unfold takeEarlyPoint
  simp only
  split
  · next attack =>
    split
    · exact startFromAttack_owned (by rw [noted]; exact h) (by rw [noted]; exact attack) _ _
    · rw [noted]; exact h
  · exact h

/-- The tick that brings the attack clock to GU stops it, and the tracker leaves ATTACK with it (R73, R94). -/
theorem attackTick_owned : TimersOwned ((attackTick i s).string i) := by
  unfold attackTick
  simp only
  split
  · next reaches =>
    have attack : (s.string i).tracker.state = .attack :=
      of_decide_eq_true (h.attack.symm.trans (Bool.and_eq_true_iff.mp reaches).1)
    rw [takeGiveUp, if_pos (by rw [State.modifyTimers_string]; exact attack), endAttack, State.modifyString_string,
      State.bumpCounter_string, State.modifyTimers_string]
    exact (h.attackEnded attack (.inl rfl)).of_running rfl rfl rfl rfl
  · next below =>
    have ticked : TimersOwned ((s.modifyTimers i fun t => { t with attack := t.attack.tick }).string i) := by
      rw [State.modifyTimers_string]
      exact h.of_running rfl (AttackClock.tick_running (Bool.eq_false_iff.mpr below)) rfl rfl
    split
    · exact takeEarlyPoint_owned ticked
    · exact ticked

/-- The tick that brings the release counter to 0 stops it, and the note ends with it (R75, R104). -/
theorem releaseTick_owned : TimersOwned ((releaseTick i s).string i) := by
  unfold releaseTick
  simp only
  split
  · next reaches =>
    have releasing : (s.string i).tracker.state = .releasing :=
      of_decide_eq_true (h.release.symm.trans (Bool.and_eq_true_iff.mp reaches).1)
    have playing : contextState (s.string i).tracker.state = true := by rw [releasing]; rfl
    obtain ⟨_, c, hc⟩ := h.playing playing
    rw [takeReleaseExpiry, if_pos (by rw [State.modifyTimers_string]; exact releasing), State.setTracker_string,
      endNote_string_open (c := c) (by rw [State.modifyTimers_string]; exact hc), State.modifyTimers_string]
    exact (h.ended playing (.inl rfl)).of_running rfl rfl rfl rfl
  · next above =>
    rw [State.modifyTimers_string]
    exact h.of_running rfl rfl (ReleaseCounter.tick_running (Bool.eq_false_iff.mpr above)) rfl

theorem updateTick_owned : TimersOwned ((updateTick i s).string i) := by
  have ticked : TimersOwned ((s.modifyTimers i fun t => { t with update := t.update.tick }).string i) := by
    rw [State.modifyTimers_string]
    exact h.of_running rfl rfl rfl (UpdateScheduler.tick_running _)
  unfold updateTick takeUpdateExpiry
  simp only
  split
  · split
    · exact buildPitch_owned ticked _
    · exact ticked
  · exact ticked

end

end Sys2Proof.Machine
end

section
/-!
PROOFS. Whatever happens, the timers of every string stay with the tracker states that own them (O6): the account of O9, with the
three timers and the tracker in the place of the validator and the record.
-/

namespace Sys2Proof.Machine

open Sys2Proof.Safety

/-! ## The timers of every string -/

/-- Each string's blocks change so that its timers stay with the tracker states that own them. -/
def EachKeepsTimers (s t : State) : Prop := ∀ i, TimersOwned (s.string i) → TimersOwned (t.string i)

theorem EachKeepsTimers.refl (s : State) : EachKeepsTimers s s := fun _ => id

theorem EachKeepsTimers.trans {s t u : State} (h : EachKeepsTimers s t) (k : EachKeepsTimers t u) : EachKeepsTimers s u :=
  fun i => k i ∘ h i

theorem eachKeepsTimers_of_strings {s t : State} (h : t.strings = s.strings) : EachKeepsTimers s t := fun i => by
  rw [show t.string i = s.string i from congrArg (PerString.get · i) h]
  exact id

theorem eachKeepsTimers_ofStrings (s : State) : OfStrings (EachKeepsTimers s) :=
  fun h strings _ => h.trans (eachKeepsTimers_of_strings strings)

/-- A change of one string that meets neither its tracker nor its timers. -/
theorem EachKeepsTimers.modifyString (i : StringNo) (f : StringBlock → StringBlock) (s : State)
    (tracker : (f (s.string i)).tracker = (s.string i).tracker) (timers : (f (s.string i)).timers = (s.string i).timers) :
    EachKeepsTimers s (s.modifyString i f) := by
  intro j h
  rw [State.string_modifyString]
  split
  · next e => exact (e ▸ h).congr tracker timers
  · exact h

theorem EachKeepsTimers.modifyAll (f : StringBlock → StringBlock) (s : State) (h : ∀ b, TimersOwned b → TimersOwned (f b)) :
    EachKeepsTimers s (s.modifyAll f) :=
  fun i => by rw [State.modifyAll_string]; exact h _

theorem forStrings_keepsTimers {event : StringNo → State → State} (h : ∀ i s, EachKeepsTimers s (event i s))
    (strings : List StringNo) (s : State) : EachKeepsTimers s (forStrings strings event s) :=
  forStrings_relates .refl (fun _ _ _ => .trans) event h strings s

/-- An event of one string, by what it does to that string's blocks. -/
theorem OneString.keepsTimers {i : StringNo} {s t : State} (h : OneString i s t)
    (own : TimersOwned (s.string i) → TimersOwned (t.string i)) : EachKeepsTimers s t := by
  intro j
  rcases eq_or_ne j i with rfl | hj
  · exact own
  · rw [h.others j hj]
    exact id

theorem OneRecord.keepsTimers {i : StringNo} {s t : State} (h : OneRecord i s t) : EachKeepsTimers s t :=
  h.oneString.keepsTimers fun own => by rw [h.block]; exact own.congr rfl rfl

/-- A SILENT or MUTED tracker with every timer stopped (R6, R9). -/
theorem timersOwned_silence (b : StringBlock) : TimersOwned b.silence := by
  by_cases muted : b.tracker.state = .muted
  · exact ⟨by simp [muted, contextState], by simp [muted], by simp [muted], rfl⟩
  · exact ⟨by simp [muted, contextState], by simp [muted], by simp [muted], rfl⟩

/-! ## Ticks -/

theorem modifyTicked_keepsTimers (i : StringNo) (f : TickTaken → TickTaken) (s : State) :
    EachKeepsTimers s (s.modifyTicked i f) :=
  .modifyString i _ s rfl rfl

theorem attackOnce_keepsTimers (i : StringNo) (s : State) : EachKeepsTimers s (attackOnce i s) := by
  unfold attackOnce
  split
  · exact .refl s
  · exact (modifyTicked_keepsTimers i _ s).trans ((attackTick_touches i _).keepsTimers attackTick_owned)

theorem releaseOnce_keepsTimers (i : StringNo) (s : State) : EachKeepsTimers s (releaseOnce i s) := by
  unfold releaseOnce
  split
  · exact .refl s
  · exact (modifyTicked_keepsTimers i _ s).trans ((releaseTick_touches i _).keepsTimers releaseTick_owned)

theorem updateOnce_keepsTimers (i : StringNo) (s : State) : EachKeepsTimers s (updateOnce i s) := by
  unfold updateOnce
  split
  · exact .refl s
  · exact (modifyTicked_keepsTimers i _ s).trans ((updateTick_touches i _).keepsTimers updateTick_owned)

theorem recordOnce_keepsTimers (i : StringNo) (s : State) : EachKeepsTimers s (recordOnce i s) :=
  (recordOnce_touches i s).keepsTimers fun own => by rw [recordOnce_block]; exact own.congr rfl rfl

theorem quietTimers_keepsTimers (i : StringNo) (s : State) : EachKeepsTimers s (quietTimers i s) := by
  have skip (c : Bool) (f : State → State) (hf : ∀ r, EachKeepsTimers r (f r)) (r : State) (h : EachKeepsTimers s r) :
      EachKeepsTimers s (if c = true then r else f r) := by
    split
    · exact h
    · exact h.trans (hf r)
  exact skip _ _ (updateOnce_keepsTimers i) _ (skip _ _ (releaseOnce_keepsTimers i) _
    (skip _ _ (attackOnce_keepsTimers i) _ (.refl s)))

theorem stringTick_keepsTimers (i : StringNo) (s : State) : EachKeepsTimers s (stringTick i s) :=
  ((((quietTimers_keepsTimers i s).trans (attackOnce_keepsTimers i _)).trans (releaseOnce_keepsTimers i _)).trans
    (updateOnce_keepsTimers i _)).trans (recordOnce_keepsTimers i _)

theorem dividerPeriod_keepsTimers (s : State) : EachKeepsTimers s (dividerPeriod s) := by
  unfold dividerPeriod
  split
  · split
    · exact eachKeepsTimers_of_strings rfl
    · rw [underflow_eq]
      refine (forStrings_keepsTimers stringTick_keepsTimers allStrings s).trans fun i own => ?_
      rw [reloaded_string]
      exact own.congr rfl rfl
  · exact .refl s

/-! ## Frame arrivals and the teardown -/

theorem takeReportedEdge_keepsTimers (i : StringNo) (edge : Option Edge) (s : State) :
    EachKeepsTimers s (takeReportedEdge i edge s) := by
  cases edge with
  | none => exact .refl s
  | some edge => exact (takeEdge_touches i edge s).oneString.keepsTimers fun own => takeEdge_owned own edge

/-- A raw period taken by the validator, the tracker and the record (R45, R186). -/
theorem takePeriod_keepsTimers (i : StringNo) (p : Nat) (s : State) : EachKeepsTimers s (takePeriod i p s) := by
  have judged (v : Validator) : EachKeepsTimers s (s.modifyString i fun b => { b with validator := v }) :=
    .modifyString i _ s rfl rfl
  unfold takePeriod
  exact ((judged _).trans ((takeOutcome_touches i _ _ _).oneString.keepsTimers fun own => takeOutcome_owned own _ _)).trans
    (recordPeriod_touches i p _).keepsTimers

theorem leaveStage_keepsTimers (i : StringNo) (r : StageReport) (s : State) : EachKeepsTimers s (leaveStage i r s) :=
  eachKeepsTimers_ofStrings s (EachKeepsTimers.modifyString i (fun b => { b with stage := r.stage }) s rfl rfl) rfl rfl

/-- The attack peak enters no timer (R91). -/
theorem followPeak_keepsTimers (i : StringNo) (s : State) : EachKeepsTimers s (followPeak i s) := by
  refine (followPeak_touches i s).keepsTimers fun own => ?_
  rw [followPeak, State.modifyString_string]
  split
  · exact ⟨own.context, own.attack, own.release, own.update⟩
  · exact own

/-- One string's turn at an arrival (R20). -/
theorem stringArrival_keepsTimers (samples : PerString Word) (i : StringNo) (s : State) :
    EachKeepsTimers s (stringArrival samples i s) := by
  set r := runStage samples s.plu.frameNo i (s.string i) with hr
  have edged : EachKeepsTimers s (takeReportedEdge i r.edge (followPeak i (leaveStage i r s))) :=
    ((leaveStage_keepsTimers i r s).trans (followPeak_keepsTimers i _)).trans (takeReportedEdge_keepsTimers i r.edge _)
  have arrives : stringArrival samples i s = deliverReports i r.edge r.period (followPeak i (leaveStage i r s)) := rfl
  rw [arrives]
  cases r.period with
  | none => rw [deliverReports_none]; exact edged
  | some p => rw [deliverReports_some]; exact edged.trans (takePeriod_keepsTimers i p _)

theorem frameArrival_keepsTimers (samples : PerString Word) (order : List StringNo) (s : State) :
    EachKeepsTimers s (frameArrival samples order s) :=
  (eachKeepsTimers_of_strings (t := { s with plu := { s.plu with frameNo := s.plu.frameNo + 1 } }) rfl).trans
    (forStrings_keepsTimers (stringArrival_keepsTimers samples) (servedOrder order allStrings) _)

/-- The teardown stops every timer and silences every tracker (R6). -/
theorem pickupTeardown_keepsTimers (s : State) : EachKeepsTimers s (pickupTeardown s) := by
  have cleared : EachKeepsTimers s (teardownCleared s) := fun i _ => by
    rw [teardownCleared_string]
    exact (timersOwned_silence (s.string i)).congr rfl rfl
  have last (t : State) : EachKeepsTimers t (teardownLast t) := eachKeepsTimers_of_strings rfl
  rw [pickupTeardown_eq]
  exact (cleared.trans (forStrings_keepsTimers (fun i t => (abortAndSeek_touches i t).keepsTimers) allStrings _)).trans (last _)

theorem pickupSlot_keepsTimers (f : PickupFrame) (order : List StringNo) (s : State) :
    EachKeepsTimers s (pickupSlot f order s) :=
  pickupSlot_keeps (eachKeepsTimers_ofStrings s) (fun _ _ _ h => h.trans (frameArrival_keepsTimers _ _ _))
    (fun _ h => h.trans (pickupTeardown_keepsTimers _)) f order s (.refl s)

/-! ## The commands -/

/-- STRING ON, STRING OFF and ALL NOTES END: the commands that write a tracker by its own events (R89, R105, R106). -/
theorem runStrings_keepTimers (params : List Payload) (s : State) :
    EachKeepsTimers s (runStringOn params s).state ∧ EachKeepsTimers s (runStringOff params s).state ∧
      EachKeepsTimers s (runAllNotesEnd params s).state := by
  have on (i : StringNo) (t : State) := (onString_touches i t).oneString.keepsTimers onString_owned
  have off (i : StringNo) (t : State) := (offString_touches i t).oneString.keepsTimers offString_owned
  have panic (i : StringNo) (t : State) := (panicString_touches i t).oneString.keepsTimers panicString_owned
  refine ⟨?_, ?_, ?_⟩
  · unfold runStringOn
    split
    · split
      · exact .refl s
      · exact forStrings_keepsTimers on _ s
    · exact .refl s
  · unfold runStringOff
    split
    · exact forStrings_keepsTimers off _ s
    · exact .refl s
  · unfold runAllNotesEnd
    split
    · exact forStrings_keepsTimers panic _ s
    · exact .refl s

/-- Every command's run keeps the timers: but for those of `runStrings_keepTimers` and RESTART, which silences every tracker (R9), a
command that writes a string's blocks writes neither its tracker nor its timers. -/
theorem run_keepsTimers (c : Command) (params : List Payload) (s : State) : EachKeepsTimers s (c.run params s).state := by
  obtain ⟨on, off, panic⟩ := runStrings_keepTimers params s
  cases c
  case stringOn => exact on
  case stringOff => exact off
  case allNotesEnd => exact panic
  case restart =>
    simp only [Command.run, runRestart]
    split
    · refine eachKeepsTimers_ofStrings s (EachKeepsTimers.modifyAll (·.linkLoss) s fun b _ => ?_) rfl rfl
      exact (timersOwned_silence b).congr rfl rfl
    · exact .refl s
  case restoreDefaults =>
    simp only [Command.run, runRestoreDefaults]
    split
    · split
      · exact .refl s
      · have restored : EachKeepsTimers s (restoredSettings s) := fun i own => by
          rw [restoredSettings_string]
          exact own.congr rfl rfl
        exact restored.trans (forStrings_keepsTimers (fun i t => (abortRecord_touches i t).keepsTimers) _ _)
    · exact .refl s
  case setStyle =>
    simp only [Command.run, runSetStyle]
    split
    · exact forStrings_keepsTimers (fun i t => .modifyString i _ t rfl rfl) _ s
    · exact .refl s
  case loadGrid =>
    simp only [Command.run, runLoadGrid]
    split
    · refine withString_keeps _ _ _ (.refl s) fun i => ?_
      split
      · exact .refl s
      · split
        · exact .refl s
        · exact .modifyString i _ s rfl rfl
    · exact .refl s
  case loadProfile =>
    simp only [Command.run, runLoadProfile]
    split
    · split
      · exact .refl s
      · next p _ =>
        refine withString_keeps _ _ _ (.refl s) fun i => ?_
        split
        · exact .refl s
        · have loaded : EachKeepsTimers s (s.modifyString i (·.loadProfile p)) := .modifyString i _ s rfl rfl
          exact loaded.trans (abortRecord_touches i _).keepsTimers
    · exact .refl s
  case loadAction =>
    simp only [Command.run, runLoadAction]
    split
    · split
      · exact .refl s
      · exact withString_keeps _ _ _ (.refl s) fun i => .modifyString i _ s rfl rfl
    · exact .refl s
  case loadCrosstalk =>
    simp only [Command.run, runLoadCrosstalk]
    split
    · exact withString_keeps _ _ _ (.refl s) fun i => .modifyString i _ s rfl rfl
    · exact .refl s
  case measure =>
    simp only [Command.run, runMeasure]
    split
    · refine withString_keeps _ _ _ (.refl s) fun i => ?_
      split
      · exact .refl s
      · exact .modifyString i _ s rfl rfl
    · exact .refl s
  case measureCancel =>
    simp only [Command.run, runMeasureCancel]
    split
    · refine withString_keeps _ _ _ (.refl s) fun i => ?_
      split
      · exact .modifyString i _ s rfl rfl
      · exact .refl s
    · exact .refl s
  all_goals exact eachKeepsTimers_of_strings (run_strings rfl params s)

/-! ## O6 -/

theorem keepsTimers_keptByCommands (s : State) : KeptByCommands (EachKeepsTimers s) where
  ofStrings := eachKeepsTimers_ofStrings s
  run c params t h := h.trans (run_keepsTimers c params t)
  seek i t h := h.trans (seekSlot_touches i t).keepsTimers

/-- Whatever happens, each string's timers stay with the tracker states that own them. -/
theorem Happens.keepsTimers {s t : State} (h : Happens s t) : EachKeepsTimers s t := by
  have commands := keepsTimers_keptByCommands s
  cases h with
  | nothing => exact .refl s
  | powerOn =>
    intro i _
    rw [show State.string { State.reset with pending := s.pending } i = .powerOn from reset_string i]
    exact ⟨rfl, rfl, rfl, rfl⟩
  | slot f order => exact pickupSlot_keepsTimers f order s
  | words f => exact commands.downstream f s (.refl s)
  | frame => exact commands.upstream s (.refl s)
  | period => exact dividerPeriod_keepsTimers s
  | command code params => exact commands.sendCommand code params s (.refl s)
  | attack i => exact (quietTimers_keepsTimers i s).trans (attackOnce_keepsTimers i _)
  | release i => exact (quietTimers_keepsTimers i s).trans (releaseOnce_keepsTimers i _)
  | update i => exact (quietTimers_keepsTimers i s).trans (updateOnce_keepsTimers i _)
  | record i => exact recordOnce_keepsTimers i s

/-- Settles O6: with the contexts open where the tracker's state has them, every step keeps each timer with the states that own
it. -/
theorem stepKeepsTheTimerLaw : Obligations.StepKeepsTheTimerLaw := by
  intro s t h contexts timers i
  have kept : EachKeepsTimers s t :=
    step_keeps (P := EachKeepsTimers s) (fun u _ k => k.trans (eachKeepsTimers_of_strings rfl))
      (fun _ _ happens k => k.trans happens.keepsTimers) h (.refl s)
  obtain ⟨attack, release, update⟩ := timers i
  have own := kept i ⟨(contexts i).1, attack, release, update⟩
  exact ⟨own.attack, own.release, own.update⟩

end Sys2Proof.Machine
end

section
/-!
PROOFS. The rows of the points of a string's timers: GIVE_UP and EARLY_POINT (O43), RELEASE_EXPIRY and UPDATE_EXPIRY (O44).
-/

namespace Sys2Proof.Machine

open Sys2Proof.Safety

/-! ## The timers that take the tick ahead of the point -/

/-- The release counter takes the tick ahead of the point: it has yet to take it, and does not reach 0 at it (log entry 5). -/
abbrev StringBlock.releaseAhead (b : StringBlock) : Prop :=
  b.ticked.release = false ∧ ¬(b.timers.release.running = true ∧ b.timers.release.value ≤ 1)

/-- The update scheduler takes the tick ahead of the point: it has yet to take it, and does not reach 0 at it (log entry 5). -/
abbrev StringBlock.updateAhead (b : StringBlock) : Prop :=
  b.ticked.update = false ∧ ¬(b.timers.update.running = true ∧ b.timers.update.value ≤ 1)

theorem passAttack_stopped {b : StringBlock} (h : b.timers.attack.running = false) :
    b.passAttack = { b with ticked := { b.ticked with attack := true } } := by
  have quiet : b.attackDue = false := by
    simp [StringBlock.attackDue, AttackClock.reachesGiveUp, AttackClock.reachesEarly, h]
  rw [StringBlock.passAttack, if_neg (Bool.eq_false_iff.mp quiet), StringBlock.quietAttack]
  split
  · next taken => rw [← taken]
  · simp [AttackClock.tick, h]

/-- Short of 0 the release counter's tick is one count down while it runs (R75). -/
theorem ReleaseCounter.tick_above {c : ReleaseCounter} (h : ¬(c.running = true ∧ c.value ≤ 1)) :
    c.tick = { c with value := if c.running = true then c.value - 1 else c.value } := by
  unfold ReleaseCounter.tick
  split
  · next running => rw [running, decide_eq_true (Nat.lt_of_not_le fun le => h ⟨running, le⟩)]
  · rfl

/-- Short of 0 the update scheduler's tick is one count down while it runs (R78). -/
theorem UpdateScheduler.tick_above {u : UpdateScheduler} (h : ¬(u.running = true ∧ u.value ≤ 1)) :
    u.tick = { u with value := if u.running = true then u.value - 1 else u.value } := by
  unfold UpdateScheduler.tick
  split
  · next running => rw [if_pos (Nat.lt_of_not_le fun le => h ⟨running, le⟩)]
  · rfl

/-- What the release counter does ahead of another timer's point. -/
theorem passRelease_eq (b : StringBlock) : b.passRelease = { b with
    timers := { b.timers with release := { b.timers.release with
      value := if b.releaseAhead ∧ b.timers.release.running = true then b.timers.release.value - 1
        else b.timers.release.value } }
    ticked := { b.ticked with release := b.ticked.release || decide b.releaseAhead } } := by
  by_cases ahead : b.releaseAhead
  · obtain ⟨untaken, above⟩ := id ahead
    have quiet : b.releaseDue = false := by simpa [StringBlock.releaseDue, ReleaseCounter.reachesZero, untaken] using above
    simp only [eq_true ahead, true_and, decide_true, Bool.or_true]
    rw [StringBlock.passRelease, if_neg (Bool.eq_false_iff.mp quiet), StringBlock.quietRelease, if_neg (Bool.eq_false_iff.mp untaken),
      ReleaseCounter.tick_above above]
  · have stands : b.passRelease = b := by
      by_cases taken : b.ticked.release = true
      · exact passRelease_taken taken
      · refine if_pos ?_
        simpa [StringBlock.releaseDue, ReleaseCounter.reachesZero, taken] using ahead
    simp only [stands, eq_false ahead, false_and, if_false, decide_false, Bool.or_false]

/-- What the update scheduler does ahead of another timer's point. -/
theorem passUpdate_eq (b : StringBlock) : b.passUpdate = { b with
    timers := { b.timers with update := { b.timers.update with
      value := if b.updateAhead ∧ b.timers.update.running = true then b.timers.update.value - 1
        else b.timers.update.value } }
    ticked := { b.ticked with update := b.ticked.update || decide b.updateAhead } } := by
  by_cases ahead : b.updateAhead
  · obtain ⟨untaken, above⟩ := id ahead
    have quiet : b.updateDue = false := by simpa [StringBlock.updateDue, UpdateScheduler.reachesZero, untaken] using above
    simp only [eq_true ahead, true_and, decide_true, Bool.or_true]
    rw [StringBlock.passUpdate, if_neg (Bool.eq_false_iff.mp quiet), StringBlock.quietUpdate, if_neg (Bool.eq_false_iff.mp untaken),
      UpdateScheduler.tick_above above]
  · have stands : b.passUpdate = b := by
      by_cases taken : b.ticked.update = true
      · exact passUpdate_taken taken
      · refine if_pos ?_
        simpa [StringBlock.updateDue, UpdateScheduler.reachesZero, taken] using ahead
    simp only [stands, eq_false ahead, false_and, if_false, decide_false, Bool.or_false]

theorem passRelease_stopped {b : StringBlock} (h : b.timers.release.running = false) :
    b.passRelease = { b with ticked := { b.ticked with release := true } } := by
  have quiet : b.releaseDue = false := by simp [StringBlock.releaseDue, ReleaseCounter.reachesZero, h]
  rw [StringBlock.passRelease, if_neg (Bool.eq_false_iff.mp quiet), StringBlock.quietRelease]
  split
  · next taken => rw [← taken]
  · simp [ReleaseCounter.tick, h]

theorem passUpdate_stopped {b : StringBlock} (h : b.timers.update.running = false) :
    b.passUpdate = { b with ticked := { b.ticked with update := true } } := by
  have quiet : b.updateDue = false := by simp [StringBlock.updateDue, UpdateScheduler.reachesZero, h]
  rw [StringBlock.passUpdate, if_neg (Bool.eq_false_iff.mp quiet), StringBlock.quietUpdate]
  split
  · next taken => rw [← taken]
  · simp [UpdateScheduler.tick, h]

/-! ## A timer's own point -/

/-- The attack clock's tick, with the point it reaches (R72, R73). -/
theorem attackOnce_due {i : StringNo} {s : State} (untaken : (s.string i).ticked.attack = false) :
    attackOnce i s =
      if (s.string i).timers.attack.reachesGiveUp then takeGiveUp i (s.modifyString i (·.quietAttack))
      else if (s.string i).timers.attack.reachesEarly then takeEarlyPoint i (s.modifyString i (·.quietAttack))
      else s.modifyString i (·.quietAttack) := by
  have neg := Bool.eq_false_iff.mp untaken
  have counts : (s.modifyTicked i fun k => { k with attack := true }).modifyTimers i (fun t => { t with attack := t.attack.tick }) =
      s.modifyString i (·.quietAttack) :=
    (modifyTicked_modifyTimers i _ _ s).trans (State.modifyString_congr (if_neg neg).symm)
  rw [attackOnce, if_neg neg, attackTick, counts]
  simp only [State.modifyTicked_string]

theorem releaseOnce_due {i : StringNo} {s : State} (untaken : (s.string i).ticked.release = false)
    (h : (s.string i).timers.release.reachesZero = true) :
    releaseOnce i s = takeReleaseExpiry i (s.modifyString i (·.quietRelease)) := by
  have neg := Bool.eq_false_iff.mp untaken
  have counts : (s.modifyTicked i fun k => { k with release := true }).modifyTimers i (fun t => { t with release := t.release.tick }) =
      s.modifyString i (·.quietRelease) :=
    (modifyTicked_modifyTimers i _ _ s).trans (State.modifyString_congr (if_neg neg).symm)
  rw [releaseOnce, if_neg neg, releaseTick, counts]
  simp only [State.modifyTicked_string, h, if_true]

theorem updateOnce_due {i : StringNo} {s : State} (untaken : (s.string i).ticked.update = false)
    (h : (s.string i).timers.update.reachesZero = true) :
    updateOnce i s = takeUpdateExpiry i (s.modifyString i (·.quietUpdate)) := by
  have neg := Bool.eq_false_iff.mp untaken
  have counts : (s.modifyTicked i fun k => { k with update := true }).modifyTimers i (fun t => { t with update := t.update.tick }) =
      s.modifyString i (·.quietUpdate) :=
    (modifyTicked_modifyTimers i _ _ s).trans (State.modifyString_congr (if_neg neg).symm)
  rw [updateOnce, if_neg neg, updateTick, counts]
  simp only [State.modifyTicked_string, h, if_true]

/-! ## The attack clock's points -/

/-- The blocks of a string after the attack clock's tick, with the other timers stopped: they take it too, and nothing of them
changes. -/
def StringBlock.clockTicked (b : StringBlock) : StringBlock := { b with
  timers := { b.timers with attack := b.timers.attack.tick }
  ticked := { b.ticked with attack := true, release := true, update := true } }

/-- The rows of the attack clock's points, with the string's other timers stopped (log entries 3 and 5). -/
theorem attackRow_eq {i : StringNo} {s : State} (untaken : (s.string i).ticked.attack = false)
    (due : (s.string i).attackDue = true) (release : (s.string i).timers.release.running = false)
    (update : (s.string i).timers.update.running = false) :
    attackOnce i (quietTimers i s) =
      if (s.string i).timers.attack.reachesGiveUp then takeGiveUp i (s.modifyString i (·.clockTicked))
      else takeEarlyPoint i (s.modifyString i (·.clockTicked)) := by
  have quiet : quietTimers i s =
      s.modifyString i fun b => { b with ticked := { b.ticked with release := true, update := true } } := by
    rw [quietTimers_eq]
    refine State.modifyString_congr ?_
    rw [StringBlock.passAttack, if_pos due, passRelease_stopped release]
    exact passUpdate_stopped update
  have ticked : (quietTimers i s).modifyString i (·.quietAttack) = s.modifyString i (·.clockTicked) := by
    rw [quiet, State.modifyString_modifyString]
    exact State.modifyString_congr (if_neg (Bool.eq_false_iff.mp untaken))
  have block : (quietTimers i s).string i =
      { s.string i with ticked := { (s.string i).ticked with release := true, update := true } } := by
    rw [quiet, State.modifyString_string]
  rw [attackOnce_due (by rw [block]; exact untaken), ticked, block]
  split
  · rfl
  · next below =>
    refine if_pos ?_
    simpa [StringBlock.attackDue, untaken, Bool.eq_false_iff.mpr below] using due

/-- GIVE_UP with its point at hand (R73). -/
theorem giveUpRow_eq {i : StringNo} {s : State} (hand : s.tickAtHand = true) (untaken : (s.string i).ticked.attack = false)
    (reaches : (s.string i).timers.attack.reachesGiveUp = true) (release : (s.string i).timers.release.running = false)
    (update : (s.string i).timers.update.running = false) :
    exec (.giveUp i) s = .next (takeGiveUp i (s.modifyString i (·.clockTicked))) := by
  have due : (s.string i).attackDue = true := by simp [StringBlock.attackDue, untaken, reaches]
  have atHand : giveUpAtHand i s = true := by simp [giveUpAtHand, hand, untaken, reaches]
  change Host.Outcome.next (occurs (giveUpAtHand i s) _ s) = _
  rw [atHand, occurs_true, attackRow_eq untaken due release update, if_pos reaches]

/-- EARLY_POINT with its point at hand, short of GU (R72). -/
theorem earlyPointRow_eq {i : StringNo} {s : State} (hand : s.tickAtHand = true) (untaken : (s.string i).ticked.attack = false)
    (reaches : (s.string i).timers.attack.reachesEarly = true) (below : (s.string i).timers.attack.reachesGiveUp = false)
    (release : (s.string i).timers.release.running = false) (update : (s.string i).timers.update.running = false) :
    exec (.earlyPoint i) s = .next (takeEarlyPoint i (s.modifyString i (·.clockTicked))) := by
  have due : (s.string i).attackDue = true := by simp [StringBlock.attackDue, untaken, reaches]
  have atHand : earlyPointAtHand i s = true := by simp [earlyPointAtHand, hand, untaken, reaches, below]
  change Host.Outcome.next (occurs (earlyPointAtHand i s) _ s) = _
  rw [atHand, occurs_true, attackRow_eq untaken due release update, if_neg (Bool.eq_false_iff.mp below)]

theorem AttackClock.tick_of_running {c : AttackClock} (running : c.running = true) (h : c.value + 1 ≤ 1023) :
    c.tick = ⟨decide (c.value + 1 < c.giveUp), c.value + 1, c.earlyCommit, c.giveUp⟩ := by
  rw [AttackClock.tick, if_pos running, Nat.min_eq_left h]

/-- The string's lookup of a period answers UNDER or OVER (R58, R93). -/
def OutsideGrid (grid : Option Grid) (p : Nat) : Prop :=
  ∃ pv, gridLookup grid p = some (.under, pv) ∨ gridLookup grid p = some (.over, pv)

/-- Records outside the grid are passed over, and noted where there are any (R93). -/
theorem early_passes {grid : Option Grid} {newer : List RawRecord} (h : ∀ q ∈ newer, OutsideGrid grid q.period)
    (rest : List RawRecord) :
    earlyPitch grid (newer ++ rest) = earlyPitch grid rest ∧ (newer ≠ [] → earlyOutside grid (newer ++ rest) = true) := by
  induction newer with
  | nil => exact ⟨rfl, fun h => absurd rfl h⟩
  | cons q newer ih =>
    obtain ⟨passes, _⟩ := ih fun k hk => h k (List.mem_cons_of_mem q hk)
    obtain ⟨pv, under | above⟩ := h q List.mem_cons_self
    · simp only [List.cons_append, earlyPitch, earlyOutside, under, passes, implies_true, and_self]
    · simp only [List.cons_append, earlyPitch, earlyOutside, above, passes, implies_true, and_self]

/-- The early point in ATTACK with no record inside the grid: the clock goes on, and records outside are noted (R93). -/
theorem takeEarlyPoint_none {i : StringNo} {s : State} (attack : (s.string i).tracker.state = .attack)
    (noneInside : earlyPitch (s.string i).grid (s.string i).validator.ring = none) :
    takeEarlyPoint i s =
      if earlyOutside (s.string i).grid (s.string i).validator.ring then s.causeFlag .range else s := by
  simp only [takeEarlyPoint, attack, noneInside, if_true]

/-- The early point in ATTACK with a record inside the grid: an early start at its pitch (R93). -/
theorem takeEarlyPoint_some {i : StringNo} {s : State} {pv : Nat} (attack : (s.string i).tracker.state = .attack)
    (inside : earlyPitch (s.string i).grid (s.string i).validator.ring = some pv) :
    takeEarlyPoint i s =
      startNote i pv .picked (gradeOf (s.string i).tracker.attackPeak) (s.string i).tracker.attackPeak true
        (if earlyOutside (s.string i).grid (s.string i).validator.ring then s.causeFlag .range else s) := by
  simp only [takeEarlyPoint, attack, inside, if_true, startFromAttack]
  split <;> rfl

/-- The give-up point in ATTACK: the onset is counted and the attack ends (R73, R94). -/
theorem takeGiveUp_attack {i : StringNo} {s : State} (attack : (s.string i).tracker.state = .attack) :
    takeGiveUp i s = { s with
      strings := s.strings.set i { s.string i with
        timers := { (s.string i).timers with attack := (s.string i).timers.attack.stop }
        tracker := { (s.string i).tracker with state := .silent, attackPeak := 0 } }
      su := { s.su with counters := countersAfter (11 + i.number) 1 s.su } } := by
  simp only [takeGiveUp, attack, if_true]
  exact congrArg (fun su => { endAttack i .silent s with su := su }) (StatusUnit.bump_eq (.unpitchedOnsets i) s.su)

/-- Settles O43: each row is the clock's tick and then its point, and the early point's search of the ring passes over the records
outside the grid. -/
theorem attackClockPoints : Obligations.AttackClockPoints := by
  intro i s b a up count untaken running attack closed release update giveUpMax ticked clock outside flagged
  have hand : s.tickAtHand = true := decide_eq_true ⟨up, count⟩
  have clocked (goes : Bool) (h : a.value + 1 ≤ 1023 ∧ decide (a.value + 1 < a.giveUp) = goes) :
      s.modifyString i (·.clockTicked) = s.modifyString i fun _ => clock goes := by
    obtain ⟨fits, goesOn⟩ := h
    refine State.modifyString_congr ?_
    rw [StringBlock.clockTicked, AttackClock.tick_of_running running fits, goesOn]
  refine ⟨fun atGiveUp => ?giveUp, fun atEarly below => ?early⟩
  case giveUp =>
    have reaches : a.reachesGiveUp = true := by simp [AttackClock.reachesGiveUp, running, atGiveUp]
    rw [giveUpRow_eq hand untaken reaches release update, clocked false ⟨by omega, decide_eq_false (by omega)⟩]
    have block : (s.modifyString i fun _ => clock false).string i = clock false := State.modifyString_string i _ s
    rw [takeGiveUp_attack (by rw [block]; exact attack), block]
    simp only [State.modifyString, PerString.set_set, AttackClock.stop, clock, closed]
  case early =>
    have reaches : a.reachesEarly = true := by simp [AttackClock.reachesEarly, running, ← atEarly]; omega
    have short : a.reachesGiveUp = false := by simp [AttackClock.reachesGiveUp]; omega
    rw [earlyPointRow_eq hand untaken reaches short release update, clocked true ⟨by omega, decide_eq_true (by omega)⟩]
    have block : (s.modifyString i fun _ => clock true).string i = clock true := State.modifyString_string i _ s
    have noted : (s.modifyString i fun _ => clock true).causeFlag .range =
        { s with strings := s.strings.set i (clock true), su := flagged } :=
      congrArg (fun su => { s with strings := s.strings.set i (clock true), su := su }) (StatusUnit.cause_eq .range s.su)
    refine ⟨fun empty => ?empty, fun nonempty out => ?outside, fun newer r older pv ring out within => ?inside⟩
    case empty =>
      rw [takeEarlyPoint_none (by rw [block]; exact attack) (by rw [block]; simp only [clock, empty, earlyPitch]), block]
      simp only [clock, empty, earlyOutside, Bool.false_eq_true, if_false]
      rfl
    case outside =>
      obtain ⟨passes, outsideNoted⟩ := early_passes out []
      rw [List.append_nil] at passes outsideNoted
      rw [takeEarlyPoint_none (by rw [block]; exact attack) (by rw [block]; exact passes), block, noted]
      exact congrArg Host.Outcome.next (if_pos (outsideNoted nonempty))
    case inside =>
      obtain ⟨passes, outsideNoted⟩ := early_passes out (r :: older)
      have found : earlyPitch b.grid b.validator.ring = some pv := by
        rw [ring, passes]
        simp only [earlyPitch, within]
      rw [takeEarlyPoint_some (by rw [block]; exact attack) (by rw [block]; exact found), block, noted]
      refine congrArg (fun t => Host.Outcome.next (startNote i pv .picked _ _ true t)) ?_
      by_cases first : newer = []
      · have unnoted : earlyOutside b.grid b.validator.ring = false := by
          rw [ring, first]
          simp only [List.nil_append, earlyOutside, within]
        rw [if_pos first]
        exact if_neg (Bool.eq_false_iff.mp unnoted)
      · rw [if_neg first]
        exact if_pos (ring ▸ outsideNoted first)

/-! ## The expiries of the release counter and the update scheduler -/

/-- The blocks of a string after the tick of a release expiry: the scheduler goes first where it reaches no point, and the
stopped attack clock takes the tick with nothing changed. -/
def StringBlock.releaseTicked (b : StringBlock) : StringBlock := { b with
  timers := { b.timers with
    release := b.timers.release.tick
    update := { b.timers.update with
      value := if b.updateAhead ∧ b.timers.update.running = true then b.timers.update.value - 1 else b.timers.update.value } }
  ticked := { b.ticked with attack := true, release := true, update := b.ticked.update || decide b.updateAhead } }

/-- The blocks of a string after the tick of an update expiry: the release counter goes first where it reaches no point. -/
def StringBlock.updateTicked (b : StringBlock) : StringBlock := { b with
  timers := { b.timers with
    update := b.timers.update.tick
    release := { b.timers.release with
      value := if b.releaseAhead ∧ b.timers.release.running = true then b.timers.release.value - 1 else b.timers.release.value } }
  ticked := { b.ticked with attack := true, release := b.ticked.release || decide b.releaseAhead, update := true } }

/-- RELEASE_EXPIRY with its point at hand (R75, log entries 3 and 5). -/
theorem releaseExpiryRow_eq {i : StringNo} {s : State} (hand : s.tickAtHand = true) (untaken : (s.string i).ticked.release = false)
    (reaches : (s.string i).timers.release.reachesZero = true) (attack : (s.string i).timers.attack.running = false) :
    exec (.releaseExpiry i) s = .next (takeReleaseExpiry i (s.modifyString i (·.releaseTicked))) := by
  have atHand : releaseAtHand i s = true := by simp [releaseAtHand, hand, untaken, reaches]
  have due : (s.string i).releaseDue = true := by simp [StringBlock.releaseDue, untaken, reaches]
  have quiet : quietTimers i s = s.modifyString i fun b => { b with ticked := { b.ticked with attack := true } }.passUpdate := by
    rw [quietTimers_eq]
    refine State.modifyString_congr ?_
    rw [passAttack_stopped attack]
    exact congrArg StringBlock.passUpdate (if_pos due)
  obtain ⟨fresh, zero⟩ : ((quietTimers i s).string i).ticked.release = false ∧
      ((quietTimers i s).string i).timers.release.reachesZero = true := by
    rw [quiet, State.modifyString_string, passUpdate_eq]
    exact ⟨untaken, reaches⟩
  have counts : (quietTimers i s).modifyString i (·.quietRelease) = s.modifyString i (·.releaseTicked) := by
    rw [quiet, State.modifyString_modifyString]
    refine State.modifyString_congr ?_
    rw [Function.comp_apply, passUpdate_eq]
    exact if_neg (Bool.eq_false_iff.mp untaken)
  change Host.Outcome.next (occurs (releaseAtHand i s) _ s) = _
  rw [atHand, occurs_true, releaseOnce_due fresh zero, counts]

/-- UPDATE_EXPIRY with its point at hand (R78, log entries 3 and 5). -/
theorem updateExpiryRow_eq {i : StringNo} {s : State} (hand : s.tickAtHand = true) (untaken : (s.string i).ticked.update = false)
    (reaches : (s.string i).timers.update.reachesZero = true) (attack : (s.string i).timers.attack.running = false) :
    exec (.updateExpiry i) s = .next (takeUpdateExpiry i (s.modifyString i (·.updateTicked))) := by
  have atHand : updateAtHand i s = true := by simp [updateAtHand, hand, untaken, reaches]
  have due : (s.string i).updateDue = true := by simp [StringBlock.updateDue, untaken, reaches]
  have quiet : quietTimers i s = s.modifyString i fun b => { b with ticked := { b.ticked with attack := true } }.passRelease := by
    rw [quietTimers_eq]
    refine State.modifyString_congr ?_
    rw [passAttack_stopped attack, passRelease_eq]
    exact if_pos due
  obtain ⟨fresh, zero⟩ : ((quietTimers i s).string i).ticked.update = false ∧
      ((quietTimers i s).string i).timers.update.reachesZero = true := by
    rw [quiet, State.modifyString_string, passRelease_eq]
    exact ⟨untaken, reaches⟩
  have counts : (quietTimers i s).modifyString i (·.quietUpdate) = s.modifyString i (·.updateTicked) := by
    rw [quiet, State.modifyString_modifyString]
    refine State.modifyString_congr ?_
    rw [Function.comp_apply, passRelease_eq]
    exact if_neg (Bool.eq_false_iff.mp untaken)
  change Host.Outcome.next (occurs (updateAtHand i s) _ s) = _
  rw [atHand, occurs_true, updateOnce_due fresh zero, counts]

/-- The model's distance of two pitch values is the magnitude of their difference (R78). -/
theorem pvDistance_eq (p q : Nat) : (pvDistance p q : Int) = |(p : Int) - q| := by
  rw [pvDistance]
  rcases Nat.le_total p q with h | h
  · rw [abs_of_nonpos (by omega)]
    omega
  · rw [abs_of_nonneg (by omega)]
    omega

/-- The update test in the terms of the statements (R78). -/
theorem updateTest_iff {b : StringBlock} {c : NoteContext} (opened : b.tracker.context = some c) :
    updateTest b = true ↔ b.validator.accepted ≠ none ∧ c.early = false ∧
      (c.pvQueued = none ∨ ∃ q, c.pvQueued = some q ∧ (b.timers.update.deadband : Int) ≤ |(c.pvComputed : Int) - q|) := by
  simp only [updateTest, opened, Bool.and_eq_true, Bool.not_eq_true', and_assoc, Option.isSome_iff_ne_none]
  cases c.pvQueued with
  | none => simp only [true_or]
  | some q => simp only [decide_eq_true_eq, ← pvDistance_eq, Nat.cast_le, reduceCtorEq, Option.some.injEq, exists_eq_left', false_or]

/-- Settles O44: each row is the tick of the string's timers and then its expiry, and the update test is read in the statement's
terms. -/
theorem releaseAndUpdateExpiries : Obligations.ReleaseAndUpdateExpiries := by
  intro i s c b u release up count opened attack
  have hand : s.tickAtHand = true := decide_eq_true ⟨up, count⟩
  refine ⟨?release, ?update⟩
  case release =>
    intro untaken last releasing ahead ended
    have reaches : release.reachesZero = true := by rw [last]; rfl
    have counts : release.tick = ⟨false, 0⟩ := by rw [last]; rfl
    rw [releaseExpiryRow_eq hand untaken reaches attack, takeReleaseExpiry,
      if_pos (by rw [State.modifyString_string]; exact releasing)]
    have state : endNote i .release (s.modifyString i (·.releaseTicked)) = ended := by
      refine congrArg (endNote i .release) (State.modifyString_congr (g := fun _ => _) ?_)
      rw [StringBlock.releaseTicked, counts]
    rw [state]
    rfl
  case update =>
    intro untaken running last ahead ticked far
    have reaches : u.reachesZero = true := by simp [UpdateScheduler.reachesZero, running, last]
    have counts : u.tick = { u with value := u.period } := by simp [UpdateScheduler.tick, running, last]
    have state : s.modifyString i (·.updateTicked) = ticked := by
      refine State.modifyString_congr (g := fun _ => _) ?_
      rw [StringBlock.updateTicked, counts]
    have deadband : (s.string i).updateTicked.timers.update.deadband = u.deadband := congrArg (·.deadband) counts
    have test : updateTest (ticked.string i) = true ↔ b.validator.accepted ≠ none ∧ c.early = false ∧ far := by
      rw [← state, State.modifyString_string, updateTest_iff (b := (s.string i).updateTicked) opened, deadband]
      rfl
    rw [updateExpiryRow_eq hand untaken reaches attack, state, takeUpdateExpiry]
    refine ⟨fun accepted settled apart => ?passes, fun fails => ?fails⟩
    case passes => rw [if_pos (test.mpr ⟨accepted, settled, apart⟩)]
    case fails =>
      rw [if_neg fun h => ?_]
      obtain ⟨accepted, settled, apart⟩ := test.mp h
      rcases fails with unheard | early | near
      · exact accepted unheard
      · exact Bool.false_ne_true (settled.symm.trans early)
      · exact near apart

end Sys2Proof.Machine
end

section
/-!
PROOFS. The event queue keeps its capacity, its reservations and its one PITCH a string through every admission (O5).
-/

namespace Sys2Proof.Machine

open Sys2Proof.Safety

/-! ## The queue alone -/

/-- A queue within its capacity that has reserved `held` units and holds at most one PITCH of each string (R145, R146, R149). -/
structure QueueLawful (q : EventQueue) (held : Nat) : Prop where
  capacity : q.entries.length + q.reserved ≤ 64
  reserved : q.reserved = held
  onePitch : ∀ i, (q.entries.filter (·.isPitchOf i)).length ≤ 1

/-- A message at the tail adds a PITCH of its string only where none was queued (R149). -/
theorem onePitch_append {l : List Message} {m : Message} (h : ∀ i, (l.filter (·.isPitchOf i)).length ≤ 1)
    (fresh : m.isPitch = true → l.any (·.isPitchOf m.string) = false) (i : StringNo) :
    ((l ++ [m]).filter (·.isPitchOf i)).length ≤ 1 := by
  rw [List.filter_append, List.length_append]
  cases pitch : m.isPitchOf i with
  | false => simpa [pitch] using h i
  | true =>
    obtain ⟨isPitch, rfl⟩ : m.isPitch = true ∧ m.string = i := by simpa [Message.isPitchOf] using pitch
    have none : l.filter (·.isPitchOf m.string) = [] :=
      List.filter_eq_nil_iff.mpr fun k hk => List.any_eq_false.mp (fresh isPitch) k hk
    simp [none, pitch]

/-- A PITCH replaced in place stays a PITCH of its string (R149). -/
theorem replacedPitch_isPitchOf (queued arriving : Message) (i : StringNo) :
    (replacedPitch queued arriving).isPitchOf i = queued.isPitchOf i := by
  unfold replacedPitch
  split
  · next pitch _ => simp [Message.isPitchOf, Message.isPitch, pitch]
  · rfl

section

variable {q : EventQueue} {held : Nat} (h : QueueLawful q held) {m : Message}

include h

theorem QueueLawful.enqueue (room : q.entries.length + q.reserved + 1 ≤ 64)
    (fresh : m.isPitch = true → q.entries.any (·.isPitchOf m.string) = false) :
    QueueLawful ⟨q.entries ++ [m], q.reserved⟩ held where
  capacity := by simp only [List.length_append, List.length_singleton]; omega
  reserved := h.reserved
  onePitch := onePitch_append h.onePitch fresh

/-- A NOTE START that reserves the unit of its NOTE END (R146). -/
theorem QueueLawful.reserve (room : q.entries.length + q.reserved + 2 ≤ 64) (start : m.isStart = true) :
    QueueLawful ⟨q.entries ++ [m], q.reserved + 1⟩ (held + 1) where
  capacity := by simp only [List.length_append, List.length_singleton]; omega
  reserved := by rw [h.reserved]
  onePitch := onePitch_append h.onePitch fun pitch => by
    unfold Message.isStart at start
    unfold Message.isPitch at pitch
    split at start <;> simp_all

theorem QueueLawful.replace :
    QueueLawful ⟨q.entries.map fun k => if k.isPitchOf m.string then replacedPitch k m else k, q.reserved⟩ held where
  capacity := by simpa only [List.length_map] using h.capacity
  reserved := h.reserved
  onePitch i := by
    have same : (fun k : Message => k.isPitchOf i) ∘ (fun k => if k.isPitchOf m.string then replacedPitch k m else k) =
        fun k => k.isPitchOf i := by
      funext k
      simp only [Function.comp_apply]
      split
      · exact replacedPitch_isPitchOf k m i
      · rfl
    rw [List.filter_map, List.length_map, same]
    exact h.onePitch i

/-- A NOTE END takes the unit that was reserved for it (R148). -/
theorem QueueLawful.ended (reserved : 1 ≤ held) (j : StringNo) (notPitch : m.isPitch = false) :
    QueueLawful ⟨(q.entries.filter fun k => !k.isPitchOf j) ++ [m], q.reserved - 1⟩ (held - 1) where
  capacity := by
    have shorter := q.entries.length_filter_le fun k => !k.isPitchOf j
    have capacity := h.capacity
    have same := h.reserved
    simp only [List.length_append, List.length_singleton]
    omega
  reserved := by rw [h.reserved]
  onePitch := onePitch_append
    (fun i => ((List.filter_sublist.filter fun k : Message => k.isPitchOf i).length_le).trans (h.onePitch i))
    fun pitch => by rw [notPitch] at pitch; cases pitch

end

/-! ## Messages that neither take nor use a reservation -/

/-- The message takes no reservation and uses none: it is no NOTE START that reserves, and no NOTE END of a tracker (R146 to
R149). -/
structure LeavesReservations (reserves : Bool) (m : Message) : Prop where
  start : m.isStart = true → reserves = false
  noteEnd : ∀ cause, m.body = .noteEnd cause → m.injected = true

theorem admitOne_lawful {s : State} {held : Nat} (h : QueueLawful s.eq held) {m : Message} (notPitch : m.isPitch = false) :
    QueueLawful (admitOne m s).state.eq held := by
  unfold admitOne EventQueue.load Config.eventQueueSize EventQueue.enqueue
  split
  · next room => exact h.enqueue room fun pitch => by rw [notPitch] at pitch; cases pitch
  · exact h

theorem admitPitch_lawful {s : State} {held : Nat} (h : QueueLawful s.eq held) (m : Message) :
    QueueLawful (admitPitch m s).state.eq held := by
  unfold admitPitch EventQueue.load Config.eventQueueSize EventQueue.enqueue
  split
  · exact h.replace
  · next fresh =>
    split
    · next room => exact h.enqueue room fun _ => by simpa using fresh
    · exact h

/-- The admission of such a message keeps the queue's laws with R as it stands (R147, R149). -/
theorem QueueLawful.admission_keeps {s : State} {held : Nat} (h : QueueLawful s.eq held) {reserves : Bool} {m : Message}
    (leaves : LeavesReservations reserves m) : QueueLawful (admitMessage reserves m s).state.eq held := by
  unfold admitMessage
  cases body : m.body with
  | noteStart =>
    obtain rfl := leaves.start (by simp [Message.isStart, body])
    exact admitOne_lawful h (by simp [Message.isPitch, body])
  | pitch => exact admitPitch_lawful h m
  | restrike => exact admitOne_lawful h (by simp [Message.isPitch, body])
  | noteEnd cause =>
    simp only [leaves.noteEnd cause body, if_true]
    exact admitOne_lawful h (by simp [Message.isPitch, body])
  | tune => exact h

theorem admitStage_lawful {s : State} {held : Nat} (h : QueueLawful s.eq held) {reserves : Bool} {m : Message}
    (leaves : LeavesReservations reserves m) (index : Option Nat) :
    QueueLawful (admitStage reserves index m s).state.eq held := by
  rw [(admitStage_eq reserves index m s).2.1]
  exact h.admission_keeps leaves

theorem crossRoute_lawful {s : State} {held : Nat} (h : QueueLawful s.eq held) {reserves : Bool} {m : Message}
    (leaves : LeavesReservations reserves m) (verdict route : Verdict) (withheld : Bool) (index : Option Nat) :
    QueueLawful (crossRoute verdict route withheld reserves index m s).state.eq held := by
  have routed : QueueLawful (routeStage (verdict.higher route) index m s).eq held := by
    rw [routeStage_eq]
    exact h
  unfold crossRoute
  simp only
  split
  · exact admitStage_lawful routed leaves index
  · exact routed

theorem crossAdmit_lawful {s : State} {held : Nat} (h : QueueLawful s.eq held) {m : Message}
    (leaves : LeavesReservations false m) (verdict : Verdict) (index : Option Nat) :
    QueueLawful (crossAdmit verdict index m s).state.eq held := by
  unfold crossAdmit
  split
  · exact admitStage_lawful h leaves index
  · exact h

end Sys2Proof.Machine
end

section
/-!
PROOFS. The notes of the strings against the event queue's reservations: how each event of a tracker keeps the account (O5).
-/

namespace Sys2Proof.Machine

open Sys2Proof.Safety

/-! ## The account of the open notes -/

/-- What the queue's reservations and the law of the open notes read of a string: of its open note, whether it is announced and
monitored, its style and its route. -/
def StringBlock.noteTerms (b : StringBlock) : Option (Bool × Bool × Style × Verdict) :=
  b.tracker.context.map fun c => (c.announced, c.monitored, c.latched.style, c.latched.route)

/-- The law of one open note: its announcement and its monitor copy came by its route (R86, R135). -/
def RouteLawful (c : NoteContext) : Prop :=
  (c.announced = true → c.latched.route.offers = true) ∧ (c.monitored = true → c.latched.route.copies = true)

/-- One string's part of the law of the contexts (R27, R82). -/
def ContextLawful (b : StringBlock) : Prop :=
  b.tracker.context.isSome = contextState b.tracker.state ∧ b.stage.trough.isSome = b.tracker.context.isSome

/-- The event queue keeps its laws, R counting the strings that hold a reservation, and every open note its own (R145, R146,
R149). -/
structure NoteAccount (s : State) : Prop where
  queue : QueueLawful s.eq (reservations s)
  notes : NoteLaw s

/-- The account of the notes, with every context open where its tracker's state has it. -/
structure NotesLawful (s : State) : Prop extends NoteAccount s where
  context : ∀ i, ContextLawful (s.string i)

theorem notesLawful_iff (s : State) : NotesLawful s ↔ EventQueueLaws s ∧ ContextLaw s ∧ NoteLaw s :=
  ⟨fun h => ⟨⟨h.queue.capacity, h.queue.reserved, h.queue.onePitch⟩, h.context, h.notes⟩,
    fun ⟨queue, context, notes⟩ => ⟨⟨⟨queue.capacity, queue.reserved, queue.onePitch⟩, notes⟩, context⟩⟩

/-! ## What the account reads -/

theorem reservationHeld_congr {b c : StringBlock} (h : c.noteTerms = b.noteTerms) : reservationHeld c = reservationHeld b := by
  have read (b : StringBlock) : reservationHeld b = (b.noteTerms.map fun t => t.1 && t.2.2.1.reserves).getD false := by
    unfold reservationHeld StringBlock.noteTerms
    cases b.tracker.context <;> rfl
  rw [read, read, h]

/-- The context whose terms stand keeps its law. -/
theorem routeLawful_congr {b c : StringBlock} (h : c.noteTerms = b.noteTerms)
    (law : ∀ d, b.tracker.context = some d → RouteLawful d) (d : NoteContext) (hd : c.tracker.context = some d) :
    RouteLawful d := by
  obtain ⟨e, he, terms⟩ := Option.map_eq_some_iff.mp (h.symm.trans (congrArg _ hd))
  obtain ⟨announced, monitored, style, route⟩ : e.announced = d.announced ∧ e.monitored = d.monitored ∧
    e.latched.style = d.latched.style ∧ e.latched.route = d.latched.route := by simpa using terms
  have := law e he
  rwa [RouteLawful, announced, monitored, route] at this

theorem not_held_of_closed {b : StringBlock} (h : b.tracker.context = none) : reservationHeld b = false := by
  rw [reservationHeld, h]

/-- An event of one string moves the number of reservations by what it does to that string's own. -/
theorem reservations_turn {i : StringNo} {s t : State} (others : ∀ j, j ≠ i → t.string j = s.string j) :
    reservations t + (if reservationHeld (s.string i) then 1 else 0) =
      reservations s + if reservationHeld (t.string i) then 1 else 0 := by
  have split (u : State) : reservations u =
      (allStrings.erase i).countP (fun j => reservationHeld (u.string j)) + if reservationHeld (u.string i) then 1 else 0 := by
    rw [reservations, ← List.countP_eq_length_filter, (List.perm_cons_erase (mem_allStrings i)).countP_eq, List.countP_cons]
  have rest : (allStrings.erase i).countP (fun j => reservationHeld (t.string j)) =
      (allStrings.erase i).countP fun j => reservationHeld (s.string j) :=
    List.countP_congr fun j hj => by rw [others j (allStrings_nodup.mem_erase_iff.mp hj).1]
  rw [split t, split s, rest]
  omega

/-- An event of one string keeps the account when that string's note keeps its law and the queue the one for its reservations. -/
theorem NoteAccount.turn {i : StringNo} {s t : State} (h : NoteAccount s) (others : ∀ j, j ≠ i → t.string j = s.string j)
    (note : ∀ c, (t.string i).tracker.context = some c → RouteLawful c) (queue : QueueLawful t.eq (reservations t)) :
    NoteAccount t where
  queue := queue
  notes j c hc := by
    rcases eq_or_ne j i with rfl | hj
    · exact note c hc
    · exact h.notes j c (others j hj ▸ hc)

/-- The account stands where the queue and the terms of every note do. -/
theorem NoteAccount.congr {s t : State} (h : NoteAccount s) (eq : t.eq = s.eq)
    (terms : ∀ i, (t.string i).noteTerms = (s.string i).noteTerms) : NoteAccount t where
  queue := by
    have same : reservations t = reservations s :=
      congrArg List.length (List.filter_congr fun i _ => reservationHeld_congr (terms i))
    rw [same, eq]
    exact h.queue
  notes i := routeLawful_congr (terms i) (h.notes i)

/-- The event queue, the terms of every note, the trackers' states and the presence of the troughs stand. -/
structure SameNotes (s t : State) : Prop where
  eq : t.eq = s.eq
  terms : ∀ i, (t.string i).noteTerms = (s.string i).noteTerms
  state : ∀ i, (t.string i).tracker.state = (s.string i).tracker.state
  trough : ∀ i, (t.string i).stage.trough.isSome = (s.string i).stage.trough.isSome

/-- Whether a context is open is one of its terms. -/
theorem isSome_noteTerms (b : StringBlock) : b.noteTerms.isSome = b.tracker.context.isSome := Option.isSome_map

theorem ContextLawful.congr {b c : StringBlock} (h : ContextLawful b) (terms : c.noteTerms = b.noteTerms)
    (state : c.tracker.state = b.tracker.state) (trough : c.stage.trough.isSome = b.stage.trough.isSome) : ContextLawful c := by
  unfold ContextLawful
  rw [← isSome_noteTerms, terms, isSome_noteTerms, state, trough]
  exact h

section

variable {s : State} (h : NotesLawful s)

include h

theorem NotesLawful.congr {t : State} (same : SameNotes s t) : NotesLawful t where
  toNoteAccount := h.toNoteAccount.congr same.eq same.terms
  context i := (h.context i).congr (same.terms i) (same.state i) (same.trough i)

theorem NotesLawful.ofStrings {t : State} (strings : t.strings = s.strings) (eq : t.eq = s.eq) : NotesLawful t := by
  have string (i : StringNo) : t.string i = s.string i := congrArg (PerString.get · i) strings
  exact h.congr ⟨eq, fun i => by rw [string], fun i => by rw [string], fun i => by rw [string]⟩

theorem NotesLawful.sameMessages {t : State} (same : SameMessages s t) : NotesLawful t := h.ofStrings same.strings same.eq

/-- A change of one string that keeps the terms of its note and its law of the context. -/
theorem NotesLawful.modifyString (i : StringNo) (f : StringBlock → StringBlock)
    (terms : (f (s.string i)).noteTerms = (s.string i).noteTerms)
    (context : ContextLawful (s.string i) → ContextLawful (f (s.string i))) : NotesLawful (s.modifyString i f) where
  toNoteAccount := h.toNoteAccount.congr rfl fun j => by
    rw [State.string_modifyString]
    split
    · next e => rw [terms, e]
    · rfl
  context j := by
    rw [State.string_modifyString]
    split
    · exact context (h.context i)
    · exact h.context j

theorem NotesLawful.modifyAll (f : StringBlock → StringBlock) (terms : ∀ b, (f b).noteTerms = b.noteTerms)
    (context : ∀ b, ContextLawful b → ContextLawful (f b)) : NotesLawful (s.modifyAll f) where
  toNoteAccount := h.toNoteAccount.congr rfl fun i => by rw [State.modifyAll_string, terms]
  context i := by
    rw [State.modifyAll_string]
    exact context _ (h.context i)

theorem NotesLawful.modifyContext (i : StringNo) (f : NoteContext → NoteContext)
    (hf : ∀ c, ((f c).announced, (f c).monitored, (f c).latched.style, (f c).latched.route) =
      (c.announced, c.monitored, c.latched.style, c.latched.route)) : NotesLawful (s.modifyContext i f) := by
  refine h.modifyString i _ ?_ fun law => ⟨Option.isSome_map.trans law.1, law.2.trans Option.isSome_map.symm⟩
  simp only [StringBlock.noteTerms, StringBlock.modifyTracker, Option.map_map]
  exact Option.map_congr fun c _ => hf c

theorem NotesLawful.modifyTimers (i : StringNo) (f : Timers → Timers) : NotesLawful (s.modifyTimers i f) :=
  h.modifyString i _ rfl id

theorem NotesLawful.modifyTicked (i : StringNo) (f : TickTaken → TickTaken) : NotesLawful (s.modifyTicked i f) :=
  h.modifyString i _ rfl id

theorem NotesLawful.causeFlag (f : Flag) : NotesLawful (s.causeFlag f) := h.ofStrings rfl rfl

theorem NotesLawful.bumpCounter (c : StatusCounter) : NotesLawful (s.bumpCounter c) := h.ofStrings rfl rfl

theorem NotesLawful.placeMonitor (m : Message) : NotesLawful (s.placeMonitor m) :=
  h.ofStrings (placeMonitor_queuesOnly m s).strings (placeMonitor_eq m s)

/-- No event of a measurement record meets the notes. -/
theorem NotesLawful.oneRecord {i : StringNo} {t : State} (event : OneRecord i s t) : NotesLawful t := by
  have own {α : Type} (read : StringBlock → α) (apart : ∀ b r, read { b with record := r } = read b) (j : StringNo) :
      read (t.string j) = read (s.string j) := by
    rcases eq_or_ne j i with rfl | hj
    · rw [event.block, apart]
    · rw [event.others j hj]
  exact h.congr ⟨event.eq, own _ fun _ _ => rfl, own (·.tracker.state) fun _ _ => rfl,
    own (·.stage.trough.isSome) fun _ _ => rfl⟩

/-- What a string's event leaves, where the account is kept and its own context is lawful. -/
theorem NotesLawful.turn {i : StringNo} {t : State} (others : ∀ j, j ≠ i → t.string j = s.string j) (account : NoteAccount t)
    (context : ContextLawful (t.string i)) : NotesLawful t where
  toNoteAccount := account
  context j := by
    rcases eq_or_ne j i with rfl | hj
    · exact context
    · rw [others j hj]
      exact h.context j

/-- In the states that have no context none is open. -/
theorem NotesLawful.closed {i : StringNo} (silent : contextState (s.string i).tracker.state = false) :
    (s.string i).tracker.context = none :=
  Option.not_isSome_iff_eq_none.mp (by simp [(h.context i).1, silent])

end

/-! ## Messages of an open note -/

/-- A message of the tracker that is no start and no end crosses and leaves every reservation as it stands (R147, R149). -/
theorem leavesReservations_later (reserves : Bool) {m : Message} (notStart : m.isStart = false)
    (notEnd : ∀ cause, m.body ≠ .noteEnd cause) : LeavesReservations reserves m :=
  ⟨fun start => absurd (notStart.symm.trans start) Bool.false_ne_true, fun cause body => absurd body (notEnd cause)⟩

section

variable {s : State} (i : StringNo)

/-- A crossing leaves the strings, so the queue's laws are all there is to keep. -/
theorem NotesLawful.queuesOnly {t : State} (h : NotesLawful s) (only : QueuesOnly s t)
    (queue : QueueLawful t.eq (reservations s)) : NotesLawful t := by
  have held : reservations t = reservations s :=
    congrArg List.length (List.filter_congr fun i _ => by rw [only.string])
  exact ⟨⟨held ▸ queue, fun i c hc => h.notes i c (only.string i ▸ hc)⟩, fun i => by rw [only.string]; exact h.context i⟩

/-- A PITCH or RESTRIKE of an open note (R86). -/
theorem laterMessage_lawful (h : NotesLawful s) {m : TrackerMessage}
    (leaves : ∀ c, LeavesReservations c.latched.style.reserves (mapTracker s.tables i (s.string i) c m)) :
    NotesLawful (laterMessage i m s).state := by
  refine h.queuesOnly (laterMessage_queuesOnly i m s) ?_
  unfold laterMessage
  split
  · exact h.queue
  · next c _ =>
    split
    · exact crossRoute_lawful h.queue (leaves c) _ _ _ _
    · exact h.queue

theorem buildPitch_lawful (h : NotesLawful s) (cause : PitchCause) : NotesLawful (buildPitch i cause s) := by
  unfold buildPitch
  split
  · exact h
  · next c _ =>
    have built := laterMessage_lawful i h (m := .pitch cause c.pvComputed) fun _ => leavesReservations_later _ rfl nofun
    simp only
    split
    · split
      · exact built.modifyContext i _ fun _ => rfl
      · exact built
    · exact h

/-! ## The start and the end of a note -/

/-- The account after a start's crossing and the change of its string: the note that the start opens, or starts again, holds the
unit that its crossing reserved (R83, R101, R146). -/
theorem NoteAccount.started (h : NoteAccount s) (unheld : reservationHeld (s.string i) = false) {m : Message}
    (start : m.isStart = true) (index : Option Nat) (f : StringBlock → StringBlock) {c : NoteContext}
    (opened : (f (s.string i)).tracker.context = some c)
    (announced : c.announced = (crossRoute .pass c.latched.route false c.latched.style.reserves index m s).admitted)
    (monitored : c.monitored = true → c.latched.route.copies = true) :
    NoteAccount ((crossRoute .pass c.latched.route false c.latched.style.reserves index m s).state.modifyString i f) := by
  set x := crossRoute .pass c.latched.route false c.latched.style.reserves index m s with hx
  have only : QueuesOnly s x.state := crossRoute_queuesOnly _ _ _ _ _ _ s
  have string : (x.state.modifyString i f).string i = f (s.string i) := by
    rw [State.modifyString_string, only.string]
  have others (j : StringNo) (hj : j ≠ i) : (x.state.modifyString i f).string j = s.string j := by
    rw [State.modifyString_string_other f x.state hj, only.string]
  obtain ⟨fits, queue⟩ := (takesUnit_start start c.latched.style.reserves).crossRoute c.latched.route index s
  rw [← hx] at fits queue
  have held : reservationHeld (f (s.string i)) = (x.admitted && c.latched.style.reserves) := by
    rw [reservationHeld, opened, ← announced]
  have count := reservations_turn others
  rw [string, held, unheld] at count
  refine h.turn others (fun d hd => ?_) ?_
  · obtain rfl : c = d := Option.some.inj (opened.symm.trans (string ▸ hd))
    exact ⟨fun admitted => (Verdict.offers_iff _).mpr (fits.mp (announced.symm.trans admitted)).1, monitored⟩
  · rw [State.modifyString_eq, queue]
    cases admitted : x.admitted with
    | false =>
      rw [if_neg fun room => by rw [fits.mpr room] at admitted; cases admitted]
      rw [admitted] at count
      rw [show reservations (x.state.modifyString i f) = reservations s by simpa using count]
      exact h.queue
    | true =>
      have room := fits.mp admitted
      rw [if_pos room]
      rw [admitted] at count
      cases reserves : c.latched.style.reserves with
      | false =>
        rw [reserves] at count room
        rw [show reservations (x.state.modifyString i f) = reservations s by simpa using count]
        exact h.queue.enqueue room.2 fun pitch => by
          unfold Message.isStart at start
          unfold Message.isPitch at pitch
          split at start <;> simp_all
      | true =>
        rw [reserves] at count room
        rw [show reservations (x.state.modifyString i f) = reservations s + 1 by simpa using count]
        exact h.queue.reserve room.2 start

/-- A note starts on a string with none open (R83). -/
theorem startNote_account (h : NoteAccount s) (closed : (s.string i).tracker.context = none) (pv : Nat) (cause : StartCause)
    (grade peak : Nat) (early : Bool) : NoteAccount (startNote i pv cause grade peak early s) := by
  rw [startNote_eq]
  refine h.started i (not_held_of_closed closed) (c := (startContext i pv cause grade peak early s).takeStartResult
    (startCrossing i pv cause grade peak early s).copied (startCrossing i pv cause grade peak early s).admitted) rfl _ _ rfl rfl
    fun copied => ?_
  exact (crossRoute_copied _ _ _ _ _ s).symm.trans copied

theorem contextLawful_startNote (pv : Nat) (cause : StartCause) (grade peak : Nat) (early : Bool) :
    ContextLawful ((startNote i pv cause grade peak early s).string i) := by
  rw [startNote_string]
  exact ⟨rfl, rfl⟩

theorem startNote_lawful (h : NotesLawful s) (closed : (s.string i).tracker.context = none) (pv : Nat) (cause : StartCause)
    (grade peak : Nat) (early : Bool) : NotesLawful (startNote i pv cause grade peak early s) :=
  h.turn (startNote_touches i pv cause grade peak early s).others
    (startNote_account i h.toNoteAccount closed pv cause grade peak early) (contextLawful_startNote i pv cause grade peak early)

/-- A start that is offered again for a note not yet announced (R101). -/
theorem offerStart_lawful (h : NotesLawful s) {c : NoteContext} (opened : (s.string i).tracker.context = some c)
    (unannounced : c.announced = false) (cause : StartCause) : NotesLawful (offerStart i cause s) := by
  have unheld : reservationHeld (s.string i) = false := by simp [reservationHeld, opened, unannounced]
  have context : ContextLawful ((offerStart i cause s).string i) := by
    rw [offerStart_eq opened, State.modifyString_string, (crossTracker_queuesOnly i c false _ s).string]
    obtain ⟨state, trough⟩ := h.context i
    rw [opened] at state trough
    exact ⟨state, trough⟩
  refine h.turn (offerStart_touches i cause s).others ?_ context
  rw [offerStart_eq opened]
  refine h.started i unheld (c := c.takeStartResult _ _) rfl _ _ rfl ?_ fun monitored => ?_
  · rw [NoteContext.takeStartResult, unannounced]
    rfl
  · rcases Bool.or_eq_true_iff.mp monitored with before | copied
    · exact (h.notes i c opened).2 before
    · exact (crossRoute_copied _ _ _ _ _ s).symm.trans copied

/-- The end of a note gives back the unit it held (R84, R148). -/
theorem endNote_account (h : NoteAccount s) (cause : EndCause) : NoteAccount (endNote i cause s) := by
  have closed := endNote_context i cause s
  have others := (endNote_touches i cause s).others
  have count := reservations_turn others
  rw [not_held_of_closed closed] at count
  refine h.turn others (fun c hc => by rw [closed] at hc; cases hc) ?_
  cases held : reservationHeld (s.string i) with
  | false =>
    rw [held] at count
    rw [endNote_unheld i cause s (by simp [held]), show reservations (endNote i cause s) = reservations s by simpa using count]
    exact h.queue
  | true =>
    obtain ⟨m, _, body, queue⟩ := endNote_held i cause s h.notes held
    rw [held] at count
    simp only [if_true, Bool.false_eq_true, if_false, Nat.add_zero] at count
    rw [queue, show reservations (endNote i cause s) = reservations s - 1 by omega]
    exact h.queue.ended (by omega) i (by simp [Message.isPitch, body])

/-- A note ends and its tracker leaves the states that have one open (R104 to R106). -/
theorem endNote_setTracker_lawful (h : NotesLawful s) (cause : EndCause) {k : TrackerState} (hk : contextState k = false) :
    NotesLawful ((endNote i cause s).setTracker i k) := by
  have ended : ((endNote i cause s).string i).stage.trough = none := by
    rcases Option.eq_none_or_eq_some (s.string i).tracker.context with closed | ⟨c, opened⟩
    · have trough := (h.context i).2
      rw [closed] at trough
      simpa [endNote, closed] using trough
    · rw [endNote_string_open opened]
      rfl
  refine h.turn ((endNote_touches i cause s).trans (.setTracker i k _)).others
    ((endNote_account i h.toNoteAccount cause).congr rfl fun j => ?_) ?_
  · rcases eq_or_ne j i with rfl | hj
    · rw [State.setTracker_string]; rfl
    · rw [State.setTracker_string_other k _ hj]
  · rw [State.setTracker_string]
    refine ⟨?_, ?_⟩
    · simp [endNote_context, hk]
    · simp [endNote_context, ended]

end

end Sys2Proof.Machine
end

section
/-!
PROOFS. Every event of a tracker, every tick, frame arrival, teardown and slot keeps the laws of the event queue and of the open
notes (O5).
-/

namespace Sys2Proof.Machine

open Sys2Proof.Safety

section

variable {s : State} (h : NotesLawful s) (i : StringNo)

include h

/-! ## Envelope edges -/

/-- A start from ATTACK finds no note open (R92, R93). -/
theorem startFromAttack_lawful (attack : (s.string i).tracker.state = .attack) (pv : Nat) (early : Bool) :
    NotesLawful (startFromAttack i pv early s) :=
  startNote_lawful i h (h.closed (by rw [attack]; rfl)) pv .picked _ _ early

/-- A tracker that goes from one state to another that owns the context alike. -/
theorem setTracker_lawful {k : TrackerState} (hk : contextState k = contextState (s.string i).tracker.state) :
    NotesLawful (s.setTracker i k) :=
  h.modifyString i _ rfl fun law => ⟨law.1.trans hk.symm, law.2⟩

theorem takeOnset_lawful (silent : (s.string i).tracker.state = .silent) : NotesLawful (takeOnset i s) :=
  (h.modifyString i _ rfl fun law => ⟨law.1.trans (by rw [silent]; rfl), law.2⟩).bumpCounter _

theorem endAttack_lawful (attack : (s.string i).tracker.state = .attack) {after : TrackerState}
    (hafter : contextState after = false) : NotesLawful (endAttack i after s) :=
  h.modifyString i _ rfl fun law => ⟨law.1.trans (by rw [attack, hafter]; rfl), law.2⟩

theorem backToSounding_lawful (playing : contextState (s.string i).tracker.state = true) : NotesLawful (backToSounding i s) :=
  h.modifyString i _ rfl fun law => ⟨law.1.trans playing, law.2⟩

theorem fallInSounding_lawful (sounding : (s.string i).tracker.state = .sounding) : NotesLawful (fallInSounding i s) := by
  unfold fallInSounding
  simp only
  split
  · exact h.modifyString i _ rfl fun law => ⟨law.1.trans (by rw [sounding]; rfl), law.2⟩
  · exact endNote_setTracker_lawful i h _ rfl

/-- A restrike sends a RESTRIKE for an announced note and starts an unannounced one again (R101). -/
theorem restrikeNote_lawful : NotesLawful (restrikeNote i s) := by
  unfold restrikeNote
  split
  · exact h
  · next c opened =>
    split
    · split
      · exact laterMessage_lawful i h fun _ => leavesReservations_later _ rfl nofun
      · next unannounced =>
        have recovers := h.modifyContext i (fun c => { c with cause := .recovery, grade := gradeOf (s.string i).stage.e })
          fun _ => rfl
        refine offerStart_lawful i recovers (c := { c with cause := .recovery, grade := gradeOf (s.string i).stage.e }) ?_
          (Bool.eq_false_iff.mpr unannounced) .recovery
        rw [State.modifyContext_string, opened]
        rfl
    · exact h

theorem takeEdge_lawful (edge : Edge) : NotesLawful (takeEdge i edge s) := by
  unfold takeEdge
  split
  · next silent => exact takeOnset_lawful h i silent
  · next attack => exact endAttack_lawful h i attack rfl
  · next sounding => exact fallInSounding_lawful h i sounding
  · next releasing => exact backToSounding_lawful h i (by rw [releasing]; rfl)
  · exact restrikeNote_lawful h i
  · next releasing => exact restrikeNote_lawful (backToSounding_lawful h i (by rw [releasing]; rfl)) i
  · exact h

/-! ## Outcomes -/

theorem noteRange_lawful (o : GridOutcome) : NotesLawful (noteRange o s) := by
  cases o
  · exact h.causeFlag _
  · exact h
  · exact h.causeFlag _

theorem clearEarly_lawful (pv note : Nat) : NotesLawful (clearEarly i pv note s) := by
  have settled := h.modifyContext i (fun k => { k with early := false, pvComputed := pv, note := noteOf pv }) fun _ => rfl
  unfold clearEarly
  simp only
  split
  · exact settled
  · exact buildPitch_lawful i settled _

theorem movePitch_lawful (pv : Nat) : NotesLawful (movePitch i pv s) := h.modifyContext i _ fun _ => rfl

/-- In mode SPLIT the note ends before the legato start opens the next (R98). -/
theorem changeNote_lawful (mode : LegatoMode) (pv : Nat) : NotesLawful (changeNote i mode pv s) := by
  cases mode with
  | glide =>
    refine buildPitch_lawful i (h.modifyContext i _ fun _ => ?_) .slur
    rfl
  | split =>
    have moved := movePitch_lawful h i pv
    have ended := endNote_account i moved.toNoteAccount .split
    exact h.turn (changeNote_touches i .split pv s).others
      (startNote_account i ended (endNote_context i .split _) pv .legato _ _ false)
      (contextLawful_startNote i pv .legato _ _ false)

theorem jumpReturns_lawful (o : LockOutcome) : NotesLawful (jumpReturns i o s) := by
  unfold jumpReturns
  split
  · next returns => exact backToSounding_lawful h i (by rw [returns.2]; rfl)
  · exact h

theorem pitchOutcome_lawful (playing : contextState (s.string i).tracker.state = true) (o : LockOutcome) (pv : Nat)
    (c : NoteContext) : NotesLawful (pitchOutcome i o pv c s) := by
  unfold pitchOutcome
  split
  · exact clearEarly_lawful (jumpReturns_lawful h i o) i pv _
  · split
    · exact changeNote_lawful (backToSounding_lawful h i playing) i _ pv
    · exact movePitch_lawful (jumpReturns_lawful h i o) i pv

theorem takePitch_lawful (o : LockOutcome) (found : GridOutcome × Nat) : NotesLawful (takePitch i o found s) := by
  unfold takePitch
  split
  · next attack =>
    split
    · exact startFromAttack_lawful h i attack _ _
    · exact h
  · next sounding _ => exact pitchOutcome_lawful h i (by rw [sounding]; rfl) o _ _
  · next releasing _ => exact pitchOutcome_lawful h i (by rw [releasing]; rfl) o _ _
  · exact h

theorem takeLocking_lawful (o : LockOutcome) (a : Nat) : NotesLawful (takeLocking i o a s) := by
  unfold takeLocking
  simp only
  split
  · exact h
  · next found _ =>
    have taken := takePitch_lawful (noteRange_lawful h found.1) i o found
    split
    · split
      · exact taken.placeMonitor _
      · exact taken
    · exact h

theorem takeOutcome_lawful (o : LockOutcome) (accepted : Option Nat) : NotesLawful (takeOutcome i o accepted s) := by
  unfold takeOutcome
  split
  · split
    · exact (h.causeFlag _).bumpCounter _
    · exact h
  · split
    · exact takeLocking_lawful h i o _
    · exact h
  · exact h

/-! ## Expiries and commands to strings -/

theorem takeEarlyPoint_lawful : NotesLawful (takeEarlyPoint i s) := by
  have noted (outside : Bool) : NotesLawful (if outside then s.causeFlag .range else s) := by
    cases outside
    · exact h
    · exact h.causeFlag _
  have string (outside : Bool) : (if outside then s.causeFlag .range else s).string i = s.string i := by
    cases outside <;> rfl
  unfold takeEarlyPoint
  simp only
  split
  · next attack =>
    split
    · exact startFromAttack_lawful (noted _) i (by rw [string]; exact attack) _ _
    · exact noted _
  · exact h

theorem takeGiveUp_lawful : NotesLawful (takeGiveUp i s) := by
  unfold takeGiveUp
  simp only
  split
  · next attack => exact endAttack_lawful (h.bumpCounter _) i attack rfl
  · exact h.bumpCounter _

theorem takeReleaseExpiry_lawful : NotesLawful (takeReleaseExpiry i s) := by
  unfold takeReleaseExpiry
  split
  · exact endNote_setTracker_lawful i h _ rfl
  · exact h

theorem takeUpdateExpiry_lawful : NotesLawful (takeUpdateExpiry i s) := by
  unfold takeUpdateExpiry
  split
  · exact buildPitch_lawful i h _
  · exact h

theorem offString_lawful : NotesLawful (offString i s) := by
  unfold offString
  split
  · exact endNote_setTracker_lawful i h _ rfl
  · exact endNote_setTracker_lawful i h _ rfl
  · next attack => exact endAttack_lawful h i attack rfl
  · next silent => exact setTracker_lawful h i (by rw [silent]; rfl)
  · exact h

theorem panicString_lawful : NotesLawful (panicString i s) := by
  unfold panicString
  split
  · exact endNote_setTracker_lawful i h _ rfl
  · exact endNote_setTracker_lawful i h _ rfl
  · next attack => exact endAttack_lawful h i attack rfl
  · exact h
  · exact h

theorem onString_lawful : NotesLawful (onString i s) := by
  unfold onString
  split
  · next muted => exact setTracker_lawful h i (by rw [muted]; rfl)
  · exact h

/-! ## Ticks -/

theorem attackOnce_lawful : NotesLawful (attackOnce i s) := by
  have ticked := (h.modifyTicked i fun k => { k with attack := true }).modifyTimers i fun t => { t with attack := t.attack.tick }
  unfold attackOnce attackTick
  simp only
  split
  · exact h
  · split
    · exact takeGiveUp_lawful ticked i
    · split
      · exact takeEarlyPoint_lawful ticked i
      · exact ticked

theorem releaseOnce_lawful : NotesLawful (releaseOnce i s) := by
  have ticked := (h.modifyTicked i fun k => { k with release := true }).modifyTimers i fun t =>
    { t with release := t.release.tick }
  unfold releaseOnce releaseTick
  simp only
  split
  · exact h
  · split
    · exact takeReleaseExpiry_lawful ticked i
    · exact ticked

theorem updateOnce_lawful : NotesLawful (updateOnce i s) := by
  have ticked := (h.modifyTicked i fun k => { k with update := true }).modifyTimers i fun t => { t with update := t.update.tick }
  unfold updateOnce updateTick
  simp only
  split
  · exact h
  · split
    · exact takeUpdateExpiry_lawful ticked i
    · exact ticked

theorem recordOnce_lawful : NotesLawful (recordOnce i s) := by
  unfold recordOnce
  split
  · exact h
  · exact (h.modifyTicked i _).oneRecord (recordTick_touches i _)

theorem quietTimers_lawful : NotesLawful (quietTimers i s) := by
  have skip (reaches : Bool) {once : State → State} (takes : ∀ t, NotesLawful t → NotesLawful (once t)) {t : State}
      (ht : NotesLawful t) : NotesLawful (if reaches then t else once t) := by
    split
    · exact ht
    · exact takes t ht
  exact skip _ (fun _ ht => updateOnce_lawful ht i) (skip _ (fun _ ht => releaseOnce_lawful ht i)
    (skip _ (fun _ ht => attackOnce_lawful ht i) h))

theorem stringTick_lawful : NotesLawful (stringTick i s) :=
  recordOnce_lawful (updateOnce_lawful (releaseOnce_lawful (attackOnce_lawful (quietTimers_lawful h i) i) i) i) i

/-- The underflow clears the marks of the tick and reloads the divider (R68). -/
theorem reloaded_lawful : NotesLawful (reloaded s) :=
  (h.modifyAll (fun b => { b with ticked := .clear }) (fun _ => rfl) fun _ => id).ofStrings rfl rfl

theorem dividerPeriod_lawful : NotesLawful (dividerPeriod s) := by
  unfold dividerPeriod
  split
  · split
    · exact h.ofStrings rfl rfl
    · rw [underflow_eq]
      exact reloaded_lawful
        (forStrings_keeps (P := NotesLawful) stringTick (fun i _ ht => stringTick_lawful ht i) allStrings s h)
  · exact h

/-! ## Frame arrivals -/

/-- A run of the stage keeps the trough with the context (R27). -/
theorem leaveStage_lawful (samples : PerString Word) (n : BitVec 24) :
    NotesLawful (leaveStage i (runStage samples n i (s.string i)) s) := by
  refine (h.modifyString i (fun b => { b with stage := (runStage samples n i (s.string i)).stage }) rfl fun law =>
    ⟨law.1, Eq.trans ?_ law.2⟩).ofStrings rfl rfl
  rw [runStage_trough]
  unfold troughAfter
  split
  · split
    · next restrikes =>
      obtain ⟨low, present, _⟩ := (restrikes_iff _ _ _).mp restrikes
      rw [present]
      rfl
    · exact Option.isSome_map
  · rfl

theorem followPeak_lawful : NotesLawful (followPeak i s) := by
  refine h.modifyString i _ ?_ fun law => ?_
  · split <;> rfl
  · split <;> exact law

theorem takePeriod_lawful (p : Nat) : NotesLawful (takePeriod i p s) := by
  unfold takePeriod
  have judged := h.modifyString i
    (fun b => { b with validator := ((s.string i).validator.take (s.string i).profile p).validator }) rfl id
  exact (takeOutcome_lawful judged i _ _).oneRecord (recordPeriod_touches i p _)

theorem deliverReports_lawful (edge : Option Edge) (period : Option Nat) : NotesLawful (deliverReports i edge period s) := by
  have edged : NotesLawful (takeReportedEdge i edge s) := by
    cases edge with
    | none => exact h
    | some edge => exact takeEdge_lawful h i edge
  cases period with
  | none => rw [deliverReports_none]; exact edged
  | some p => rw [deliverReports_some]; exact takePeriod_lawful edged i p

theorem stringArrival_lawful (samples : PerString Word) : NotesLawful (stringArrival samples i s) :=
  deliverReports_lawful (followPeak_lawful (leaveStage_lawful h i samples s.plu.frameNo) i) i _ _

theorem frameArrival_lawful (samples : PerString Word) (order : List StringNo) :
    NotesLawful (frameArrival samples order s) :=
  forStrings_keeps (P := NotesLawful) _ (fun i _ ht => stringArrival_lawful ht i samples) _ _ (h.ofStrings rfl rfl)

/-! ## The pickup teardown -/

/-- The teardown's notes end one after another, and no reservation is left when the trackers are silenced (R6, R148). -/
theorem teardownCleared_lawful : NotesLawful (teardownCleared s) := by
  have ended : NoteAccount (forStrings allStrings linkEnd s) :=
    forStrings_keeps (P := NoteAccount) linkEnd (fun i _ ht => endNote_account i ht .link) allStrings s h.toNoteAccount
  have released : (forStrings allStrings linkEnd s).eq.reserved = 0 := by
    rw [(forStrings_linkEnd_eq allStrings allStrings_nodup s h.notes).1, h.queue.reserved]
    exact Nat.sub_self _
  have closed (i : StringNo) : ((teardownCleared s).string i).tracker.context = none := by
    rw [teardownCleared_string, silence_clearStage_eq]
  have none : reservations (teardownCleared s) = 0 :=
    List.length_eq_zero_iff.mpr (List.filter_eq_nil_iff.mpr fun i _ => by simp [not_held_of_closed (closed i)])
  refine ⟨⟨⟨ended.queue.capacity, released.trans none.symm, ended.queue.onePitch⟩,
    fun i c hc => by rw [closed] at hc; cases hc⟩, fun i => ?_⟩
  rw [teardownCleared_string, silence_clearStage_eq]
  refine ⟨?_, rfl⟩
  simp only
  split <;> rfl

theorem teardownLast_lawful : NotesLawful (teardownLast s) := h.ofStrings rfl rfl

theorem pickupTeardown_lawful : NotesLawful (pickupTeardown s) := by
  rw [pickupTeardown_eq]
  exact teardownLast_lawful (forStrings_keeps (P := NotesLawful) abortAndSeek
    (fun i _ ht => ht.oneRecord (abortAndSeek_touches i _)) allStrings _ (teardownCleared_lawful h))

theorem pickupSlot_lawful (f : PickupFrame) (order : List StringNo) : NotesLawful (pickupSlot f order s) := by
  rcases pickupSlot_cases f order s with same | ⟨samples, t, same, arrives⟩ | ⟨t, same, ends⟩
  · exact h.sameMessages same
  · rw [arrives]
    exact frameArrival_lawful (h.sameMessages same) samples order
  · rw [ends]
    exact pickupTeardown_lawful (h.sameMessages same)

end

end Sys2Proof.Machine
end

section
/-!
PROOFS. Every command keeps the laws of the event queue and of the open notes; with the ticks, arrivals and frames this settles O5.
-/

namespace Sys2Proof.Machine

open Sys2Proof.Safety

/-! ## The commands -/

/-- A message injected at any point takes and uses no reservation (R138, R147, R148). -/
theorem leavesReservations_injected {m : Message} (injected : m.injected = true) : LeavesReservations false m :=
  ⟨fun _ => rfl, fun _ _ => injected⟩

section

variable {s : State} (h : NotesLawful s)

include h

theorem carriedOut_lawful (adjusted : Bool) : NotesLawful (carriedOut adjusted s).state := h

theorem runLoadGrid_lawful (params : List Payload) : NotesLawful (runLoadGrid params s).state := by
  unfold runLoadGrid
  split
  · refine withString_keeps _ _ _ h fun i => ?_
    split
    · exact h
    · split
      · exact h
      · exact carriedOut_lawful (h.modifyString i _ rfl fun law => law) _
  · exact h

theorem runLoadProfile_lawful (params : List Payload) : NotesLawful (runLoadProfile params s).state := by
  unfold runLoadProfile
  split
  · split
    · exact h
    · next p _ =>
      refine withString_keeps _ _ _ h fun i => ?_
      split
      · exact h
      · exact (h.modifyString i (·.loadProfile p) rfl id).oneRecord (abortRecord_touches i _)
  · exact h

theorem runLoadAction_lawful (params : List Payload) : NotesLawful (runLoadAction params s).state := by
  unfold runLoadAction
  split
  · split
    · exact h
    · exact withString_keeps _ _ _ h fun i => carriedOut_lawful (h.modifyString i _ rfl fun law => law) _
  · exact h

theorem runLoadCrosstalk_lawful (params : List Payload) : NotesLawful (runLoadCrosstalk params s).state := by
  unfold runLoadCrosstalk
  split
  · exact withString_keeps _ _ _ h fun i => carriedOut_lawful (h.modifyString i _ rfl fun law => law) _
  · exact h

theorem runSetStyle_lawful (params : List Payload) : NotesLawful (runSetStyle params s).state := by
  unfold runSetStyle
  split
  · exact forStrings_keeps (P := NotesLawful) _ (fun i _ ht => ht.modifyString i _ rfl id) _ s h
  · exact h

theorem runStringOn_lawful (params : List Payload) : NotesLawful (runStringOn params s).state := by
  unfold runStringOn
  split
  · split
    · exact h
    · exact forStrings_keeps (P := NotesLawful) _ (fun i _ ht => onString_lawful ht i) _ s h
  · exact h

theorem runStringOff_lawful (params : List Payload) : NotesLawful (runStringOff params s).state := by
  unfold runStringOff
  split
  · exact forStrings_keeps (P := NotesLawful) _ (fun i _ ht => offString_lawful ht i) _ s h
  · exact h

theorem runAllNotesEnd_lawful (params : List Payload) : NotesLawful (runAllNotesEnd params s).state := by
  unfold runAllNotesEnd
  split
  · exact forStrings_keeps (P := NotesLawful) _ (fun i _ ht => panicString_lawful ht i) _ s h
  · exact h

theorem runMeasure_lawful (params : List Payload) : NotesLawful (runMeasure params s).state := by
  unfold runMeasure
  split
  · refine withString_keeps _ _ _ h fun i => ?_
    split
    · exact h
    · exact carriedOut_lawful (h.oneRecord (.modifyRecord i _ s)) _
  · exact h

theorem runMeasureCancel_lawful (params : List Payload) : NotesLawful (runMeasureCancel params s).state := by
  unfold runMeasureCancel
  split
  · refine withString_keeps _ _ _ h fun i => ?_
    split
    · exact carriedOut_lawful (h.oneRecord (.modifyRecord i _ s)) _
    · exact h
  · exact h

theorem crossInjected_lawful (point : InjectPoint) (j : Injection) : NotesLawful (crossInjected point j s).state := by
  refine h.queuesOnly (crossInjected_queuesOnly point j s) ?_
  cases point
  · exact crossRoute_lawful h.queue (leavesReservations_injected rfl) _ _ _ _
  · exact crossRoute_lawful h.queue (leavesReservations_injected rfl) _ _ _ _
  · exact crossAdmit_lawful h.queue (leavesReservations_injected rfl) _ _

theorem runInject_lawful (params : List Payload) : NotesLawful (runInject params s).state := by
  have replies {x : Crossing} (clamped : Bool) (hx : NotesLawful x.state) : NotesLawful (injectReply clamped x).state := by
    unfold injectReply
    split
    · exact hx.causeFlag _
    · exact hx
  unfold runInject
  split
  · split
    · exact withString_keeps _ _ _ h fun i => replies _ (crossInjected_lawful h _ _)
    · exact h
  · exact h

/-- RESTORE DEFAULTS clears the stages and leaves the troughs, and closes no context (R31, R182). -/
theorem runRestoreDefaults_lawful (params : List Payload) : NotesLawful (runRestoreDefaults params s).state := by
  have restored : NotesLawful (restoredSettings s) :=
    (h.modifyAll (·.restoreDefaults) (fun _ => rfl) fun _ => id).ofStrings rfl rfl
  unfold runRestoreDefaults
  split
  · split
    · exact h
    · exact forStrings_keeps (P := NotesLawful) _ (fun i _ ht => ht.oneRecord (abortRecord_touches i _)) _ _ restored
  · exact h

end

/-- With the event queue empty, R at 0 and every context closed, the laws hold (R9, R82, R145). -/
theorem notesLawful_of_silent {s : State} (eq : s.eq = ⟨[], 0⟩)
    (silent : ∀ i, (s.string i).tracker.context = none ∧ contextState (s.string i).tracker.state = false ∧
      (s.string i).stage.trough = none) : NotesLawful s where
  queue := by
    have none : reservations s = 0 :=
      List.length_eq_zero_iff.mpr (List.filter_eq_nil_iff.mpr fun i _ => by simp [not_held_of_closed (silent i).1])
    rw [eq, none]
    exact ⟨Nat.zero_le _, rfl, fun _ => Nat.zero_le _⟩
  notes i c hc := by
    rw [(silent i).1] at hc
    cases hc
  context i := by
    obtain ⟨closed, state, trough⟩ := silent i
    exact ⟨by rw [closed, state]; rfl, by rw [closed, trough]; rfl⟩

theorem linkLossEffect_lawful (s : State) : NotesLawful (linkLossEffect s) := by
  refine notesLawful_of_silent rfl fun i => ?_
  rw [show (linkLossEffect s).string i = (s.string i).linkLoss from State.modifyAll_string (·.linkLoss) s i,
    StringBlock.linkLoss_eq]
  refine ⟨rfl, ?_, rfl⟩
  simp only
  split <;> rfl

theorem run_lawful {s : State} (h : NotesLawful s) (c : Command) (params : List Payload) :
    NotesLawful (c.run params s).state := by
  cases c
  case loadGrid => exact runLoadGrid_lawful h params
  case loadProfile => exact runLoadProfile_lawful h params
  case loadAction => exact runLoadAction_lawful h params
  case loadCrosstalk => exact runLoadCrosstalk_lawful h params
  case setStyle => exact runSetStyle_lawful h params
  case stringOn => exact runStringOn_lawful h params
  case stringOff => exact runStringOff_lawful h params
  case allNotesEnd => exact runAllNotesEnd_lawful h params
  case measure => exact runMeasure_lawful h params
  case measureCancel => exact runMeasureCancel_lawful h params
  case inject => exact runInject_lawful h params
  case restoreDefaults => exact runRestoreDefaults_lawful h params
  case restart =>
    simp only [Command.run, runRestart]
    split
    · exact linkLossEffect_lawful s
    · exact h
  all_goals exact h.sameMessages (run_sameMessages (by rfl) (by nofun) params s)

/-! ## O5 -/

/-- A message that leaves the event queue frees its unit and touches no reservation (R152). -/
theorem notesLawful_keptOnTheLane : KeptOnTheLane NotesLawful where
  same h := h.sameMessages
  leaves source s h := by
    cases source with
    | rq => exact h.ofStrings rfl rfl
    | mq => exact h.ofStrings rfl rfl
    | eq =>
      have capacity := h.queue.capacity
      have shorter : s.eq.entries.tail.length ≤ s.eq.entries.length := by rw [List.length_tail]; exact Nat.sub_le _ _
      refine ⟨⟨⟨?_, h.queue.reserved, fun i => ?_⟩, h.notes⟩, h.context⟩
      · simp only [State.dropHead]
        omega
      · exact (((List.tail_sublist _).filter _).length_le).trans (h.queue.onePitch i)
  run c params _ h := run_lawful h c params
  seek i s h := h.oneRecord (seekSlot_touches i s)

/-- Whatever happens, the laws of the event queue and of the open notes are kept. -/
theorem Happens.notesLawful {s t : State} (happens : Happens s t) (h : NotesLawful s) : NotesLawful t := by
  have lane := notesLawful_keptOnTheLane
  cases happens with
  | nothing => exact h
  | powerOn =>
    refine notesLawful_of_silent rfl fun i => ?_
    rw [show State.string { State.reset with pending := s.pending } i = .powerOn from reset_string i]
    exact ⟨rfl, rfl, rfl⟩
  | slot f order => exact pickupSlot_lawful h f order
  | words f => exact lane.downstream f s h
  | frame => exact lane.upstream s h
  | period => exact dividerPeriod_lawful h
  | command code params => exact lane.sendCommand code params s h
  | attack i => exact attackOnce_lawful (quietTimers_lawful h i) i
  | release i => exact releaseOnce_lawful (quietTimers_lawful h i) i
  | update i => exact updateOnce_lawful (quietTimers_lawful h i) i
  | record i => exact recordOnce_lawful h i

/-- Settles O5: R counts the announced FULL and GATE notes through every start and end, the one PITCH of a string is replaced in
place, and everything that happens keeps this with the contexts and the routes of the open notes. -/
theorem stepKeepsTheEventQueueLaws : Obligations.StepKeepsTheEventQueueLaws := by
  intro s t h queue context notes
  exact (notesLawful_iff t).mp (step_keeps (P := NotesLawful) (fun _ _ hs => hs.ofStrings rfl rfl)
    (fun _ _ happens => happens.notesLawful) h ((notesLawful_iff s).mpr ⟨queue, context, notes⟩))

end Sys2Proof.Machine
end

section
/-!
PROOFS. Every command and event has a next state and leaves the waiting commands (O2).
-/

namespace Sys2Proof.Machine

/-! ## The waiting commands -/

theorem pickupTeardown_pending (s : State) : (pickupTeardown s).pending = s.pending := (pickupTeardown_sharedKept s).pending

theorem frameArrival_pending (samples : PerString Word) (order : List StringNo) (s : State) :
    (frameArrival samples order s).pending = s.pending :=
  (frameArrival_sharedKept samples order s).pending

theorem pickupSlot_pending (f : PickupFrame) (order : List StringNo) (s : State) :
    (pickupSlot f order s).pending = s.pending := by
  have bridged (badRun : Nat) (t : State) : (repeatLast badRun order t).pending = t.pending := by
    unfold repeatLast
    simp only
    split
    · exact frameArrival_pending _ _ _
    · rfl
  unfold pickupSlot judgeSlot
  split
  · split
    · split
      · unfold goodWhileSearching
        simp only
        split
        · rfl
        · exact frameArrival_pending _ _ _
      · exact frameArrival_pending _ _ _
      · exact frameArrival_pending _ _ _
    · unfold badFrame
      split
      · rfl
      · exact bridged _ _
      · split
        · exact bridged _ _
        · exact pickupTeardown_pending _
  · rfl

theorem downstream_pending (f : DownstreamFrame) (s : State) : (downstream f s).pending = s.pending := by
  have words (t : State) : (takeDownstream f t).pending = t.pending := (takeDownstream_wordsKeep f t).pending
  have reaches (t : State) : (synthLinkUp t).pending = t.pending := by rw [synthLinkUp_eq]
  unfold downstream syncedFrame unsyncedFrame
  split
  · split
    · simp only
      split
      · rfl
      · rw [words, State.doPart_pending, reaches]
    · exact words _
  · split
    · rfl
    · split <;> rfl

theorem upstream_pending (s : State) : (upstream s).pending = s.pending := by
  unfold upstream
  split
  · exact ((afterLaneSlot_wordsKeep _).trans (afterLaneSlot_wordsKeep _)).pending
  · rfl

theorem reloaded_pending (s : State) : (reloaded s).pending = s.pending := rfl

theorem dividerPeriod_pending (s : State) : (dividerPeriod s).pending = s.pending := by
  unfold dividerPeriod
  split
  · split
    · rfl
    · rw [underflow_eq, reloaded_pending]
      exact (forStrings_sharedKept stringTick (fun i t => (stringTick_touches i t).sharedKept) allStrings s).pending
  · rfl

/-- Whatever happens, the commands that wait are left alone. -/
theorem Happens.pending {s t : State} (happens : Happens s t) : t.pending = s.pending := by
  cases happens with
  | nothing => rfl
  | powerOn => rfl
  | slot f order => exact pickupSlot_pending f order s
  | words f => exact downstream_pending f s
  | frame => exact upstream_pending s
  | period => exact dividerPeriod_pending s
  | command code params => exact (sendCommand_wordsKeep code params s).pending
  | attack i => exact ((quietTimers_touches i s).trans (attackOnce_touches i _)).pending
  | release i => exact ((quietTimers_touches i s).trans (releaseOnce_touches i _)).pending
  | update i => exact ((quietTimers_touches i s).trans (updateOnce_touches i _)).pending
  | record i => exact (recordOnce_touches i s).pending

/-- Each arm of `exec` answers with a next state (log entry 11). -/
theorem exec_next (c : Instr) (s : State) : ∃ t, exec c s = .next t := by
  cases c <;> exact ⟨_, rfl⟩

/-- Settles O2. -/
theorem everyCommandCompletes : Obligations.EveryCommandCompletes := by
  intro c s
  obtain ⟨t, answers⟩ := exec_next c s
  exact ⟨t, answers, (exec_happens c s t answers).pending⟩

end Sys2Proof.Machine
end

section
/-!
PROOFS. A PITCH of an open note: its admission, its crossing and the Pv last queued (O35).
-/

namespace Sys2Proof.Machine

open Sys2Proof.Safety

/-- A change of an open context, as a change of its string's blocks. -/
theorem State.modifyContext_open {i : StringNo} {s : State} {c : NoteContext} (hc : (s.string i).tracker.context = some c)
    (f : NoteContext → NoteContext) :
    s.modifyContext i f = { s with strings := s.strings.set i { s.string i with
      tracker := { (s.string i).tracker with context := some (f c) } } } := by
  refine (State.modifyString_congr (g := fun b => { b with tracker := { b.tracker with context := some (f c) } }) ?_).trans rfl
  simp only [StringBlock.modifyTracker, hc, Option.map_some]

/-! ## The admission of a PITCH -/

/-- The queue takes a PITCH of the string: one is queued that it replaces, or a unit is free (R149). -/
def PitchFits (i : StringNo) (q : EventQueue) : Prop :=
  (∃ k ∈ q.entries, k.isPitchOf i = true) ∨ q.entries.length + q.reserved + 1 ≤ 64

theorem admitMessage_of_isPitch {m : Message} (h : m.isPitch = true) (reserves : Bool) (s : State) :
    admitMessage reserves m s = admitPitch m s := by
  unfold Message.isPitch at h
  unfold admitMessage
  split at h <;> simp_all

theorem admitPitch_admitted_iff (m : Message) (s : State) : (admitPitch m s).admitted = true ↔ PitchFits m.string s.eq := by
  unfold admitPitch PitchFits EventQueue.load Config.eventQueueSize
  simp only [← List.any_eq_true]
  split
  · next queued => simp [queued]
  · next fresh => split <;> simp_all

/-- What the admission of a PITCH leaves in the event queue goes by the event queue alone (R149). -/
theorem admitPitch_eq_congr (m : Message) {s t : State} (same : s.eq = t.eq) :
    (admitPitch m s).state.eq = (admitPitch m t).state.eq := by
  have queue (u : State) : (admitPitch m u).state.eq =
      if u.eq.entries.any (·.isPitchOf m.string) then
        { u.eq with entries := u.eq.entries.map fun q => if q.isPitchOf m.string then replacedPitch q m else q }
      else if u.eq.load + 1 ≤ Config.eventQueueSize then u.eq.enqueue m else u.eq := by
    unfold admitPitch
    split
    · rfl
    · split <;> rfl
  rw [queue, queue, same]

/-! ## The crossing of a PITCH -/

section

variable {m : Message} (h : m.isPitch = true)

include h

/-- A PITCH is admitted where it is offered, not withheld, and fits the queue (R133, R135, R149). -/
theorem crossRoute_pitch_admitted_iff (route : Verdict) (withheld reserves : Bool) (index : Option Nat) (s : State) :
    (crossRoute .pass route withheld reserves index m s).admitted = true ↔
      withheld = false ∧ (route = .pass ∨ route = .copy) ∧ PitchFits m.string s.eq := by
  rw [← Verdict.offers_iff]
  cases withheld with
  | true => simp [crossRoute]
  | false =>
    cases offers : route.offers with
    | false => simp [(crossRoute_unoffered offers false reserves index m s).1]
    | true =>
      rw [(crossRoute_offered offers reserves index m s).1, admitMessage_of_isPitch h, admitPitch_admitted_iff, routeStage_eq]
      simp

/-- An admitted PITCH leaves the queue its admission leaves (R136). -/
theorem crossRoute_pitch_eq {route : Verdict} {withheld reserves : Bool} {index : Option Nat} {s : State}
    (admitted : (crossRoute .pass route withheld reserves index m s).admitted = true) :
    (crossRoute .pass route withheld reserves index m s).state.eq = (admitMessage reserves m s).state.eq := by
  obtain ⟨_, _, r, same, _, _, queued⟩ := crossRoute_admitted .pass route withheld reserves index m s admitted
  rw [queued, admitMessage_of_isPitch h, admitMessage_of_isPitch h]
  exact admitPitch_eq_congr m same

/-- Of the status unit the crossing of a PITCH touches UPDATE_LOST, MONITOR_LOST and their counters alone (R149, R154). -/
theorem crossRoute_statusKept_of_pitch (verdict route : Verdict) (withheld reserves : Bool) (index : Option Nat) (s : State) :
    StatusKept [6, 7] [4, 5] s.su (crossRoute verdict route withheld reserves index m s).state.su := by
  have routed := (routeStage_statusKept (verdict.higher route) index m s).mono (flags' := [6, 7]) (counters' := [4, 5])
    (by decide) (by decide)
  have lost (r : State) : StatusKept [6, 7] [4, 5] r.su (admitPitch m r).state.su := by
    unfold admitPitch
    split
    · exact .refl _ _ _
    · split
      · exact .refl _ _ _
      · exact ((cause_statusKept .updateLost r.su).mono (by decide) (List.nil_subset _)).trans
          ((bump_statusKept .updatesLost _).mono (List.nil_subset _) (by decide))
  unfold crossRoute
  simp only
  split
  · rw [admitStage_su, admitMessage_of_isPitch h]
    exact routed.trans (lost _)
  · exact routed

end

/-! ## The PITCH of an open note -/

section

variable {i : StringNo} {s : State} {c : NoteContext} (hc : (s.string i).tracker.context = some c)

include hc

/-- A note that is not FULL, or is neither announced nor monitored, builds no PITCH (R85, R86). -/
theorem buildPitch_unbuilt (cause : PitchCause) (h : c.latched.style ≠ .full ∨ (c.announced = false ∧ c.monitored = false)) :
    buildPitch i cause s = s := by
  simp only [buildPitch, hc, laterMessage]
  rcases h with style | ⟨unannounced, unmonitored⟩
  · rw [if_neg style]
  · simp [unannounced, unmonitored]

/-- The PITCH of a FULL note that is announced or monitored crosses, and Pv last queued follows its admission (R84 to R86). -/
theorem buildPitch_built (cause : PitchCause) (full : c.latched.style = .full) (h : c.announced = true ∨ c.monitored = true) :
    let x := crossRoute .pass c.latched.route (!c.announced) true c.latched.counterIndex
      (mapTracker s.tables i (s.string i) c (.pitch cause c.pvComputed)) s
    buildPitch i cause s =
      if x.admitted then x.state.modifyContext i fun k => { k with pvQueued := some c.pvComputed } else x.state := by
  simp only [buildPitch, hc, laterMessage_built hc h, crossTracker, full, Style.reserves, if_true]

end

/-- Settles O35. -/
theorem pitchOfAnOpenNote : Obligations.PitchOfAnOpenNote := by
  intro i cause s c hc b m t offered admitted
  set x := crossRoute .pass c.latched.route (!c.announced) true c.latched.counterIndex m s with hx
  have kept := crossRoute_queuesOnly .pass c.latched.route (!c.announced) true c.latched.counterIndex m s
  have strings : x.state.strings = s.strings := PerString.eq_of_get kept.string
  have admitted_iff : x.admitted = true ↔ c.announced = true ∧ offered ∧ admitted := by
    rw [hx, crossRoute_pitch_admitted_iff (m := m) rfl, Bool.not_eq_false']
    rfl
  have unbuilt (h : c.latched.style ≠ .full ∨ (c.announced = false ∧ c.monitored = false)) : t = s :=
    buildPitch_unbuilt hc cause h
  have built (full : c.latched.style = .full) (h : c.announced = true ∨ c.monitored = true) : t =
      if x.admitted then x.state.modifyContext i fun k => { k with pvQueued := some c.pvComputed } else x.state :=
    buildPitch_built hc cause full h
  have sent (full : c.latched.style = .full) (h : c.announced = true ∨ c.monitored = true) : SentAs x.state t := by
    rw [built full h]
    split <;> exact ⟨rfl, rfl, rfl, rfl⟩
  have either (P : Prop) (silent : t = s → P)
      (crossed : c.latched.style = .full → c.announced = true ∨ c.monitored = true → P) : P := by
    by_cases full : c.latched.style = .full
    · by_cases heard : c.announced = true ∨ c.monitored = true
      · exact crossed full heard
      · exact silent (unbuilt (.inr (by simpa using heard)))
    · exact silent (unbuilt (.inl full))
  refine ⟨unbuilt, fun full announced hoffered hadmitted => ?admitted, fun hnot => ?refused, fun full heard => ?crossing,
    (buildPitch_touches i cause s).frame, ?status⟩
  case admitted =>
    have isAdmitted := admitted_iff.mpr ⟨announced, hoffered, hadmitted⟩
    refine ⟨?_, (sent full (.inl announced)).eq.trans (crossRoute_pitch_eq (m := m) rfl isAdmitted)⟩
    have string : x.state.string i = b := kept.string i
    rw [built full (.inl announced), if_pos isAdmitted, State.modifyContext_open (c := c) (by rw [string, hc]), string, strings]
  case refused =>
    have notAdmitted : x.admitted = false := by
      by_contra h
      obtain ⟨announced, hoffered, hadmitted⟩ := admitted_iff.mp (by simpa using h)
      rcases hnot with unannounced | unoffered | refused
      · rw [announced] at unannounced; cases unannounced
      · exact unoffered hoffered
      · exact refused hadmitted
    refine either _ (fun same => ⟨by rw [same], by rw [same]⟩) fun full heard => ?_
    rw [built full heard, notAdmitted]
    exact ⟨strings, crossRoute_not_admitted _ _ _ _ _ _ _ notAdmitted⟩
  case crossing => exact ⟨sent full heard, (sent full heard).mq.trans (crossRoute_mq _ _ _ _ m s)⟩
  case status =>
    refine either _ (fun same => by rw [same]; exact .refl _ _ _) fun full heard => ?_
    rw [(sent full heard).su]
    exact crossRoute_statusKept_of_pitch (m := m) rfl _ _ _ _ _ s

end Sys2Proof.Machine
end

section
/-!
PROOFS. How a tracker takes the outcomes of its validator, with a note open and without (O32, O33).
-/

namespace Sys2Proof.Machine

open Sys2Proof.Safety

/-! ## The lookup and the TUNE -/

theorem LockOutcome.tunes_iff {o : LockOutcome} (locks : o.locks = true) : o.tunes = true ↔ o ≠ .merge := by
  cases o <;> simp_all [LockOutcome.locks, LockOutcome.tunes]

theorem LockOutcome.locks_iff (o : LockOutcome) : o.locks = true ↔ o = .lock ∨ o = .glide ∨ o = .merge ∨ o = .jump := by
  cases o <;> simp [LockOutcome.locks]

/-- The flag of a lookup that answers outside the grid (R17, R60, R87). -/
theorem noteRange_eq (found : GridOutcome) (s : State) : noteRange found s =
    { s with su := { s.su with flags := if found = .within then s.su.flags else flagsAfter 8 s.su } } := by
  unfold noteRange
  split
  · rfl
  · exact congrArg (fun su => { s with su := su }) (StatusUnit.cause_eq .range s.su)
  · exact congrArg (fun su => { s with su := su }) (StatusUnit.cause_eq .range s.su)

/-- The part after an outcome, with the TUNE of a stream that is on placed last; a MERGE places none (R87, R155). -/
def tunedAfter (i : StringNo) (o : LockOutcome) (pv : Nat) (b : StringBlock) (u : State) : State :=
  if b.profile.monitorStream = true ∧ o ≠ .merge then u.placeMonitor ⟨i, 0, false, false, .tune pv⟩ else u

section

variable {i : StringNo} {s : State} {o : LockOutcome} {a pv : Nat} {found : GridOutcome}

theorem takeOutcome_miss (left : Option Nat) : takeOutcome i .miss left s = s := by
  cases left <;> rfl

/-- A LOST where no note is open is no lock loss (R91). -/
theorem takeOutcome_lost_closed (left : Option Nat) (closed : (s.string i).tracker.context = none) :
    takeOutcome i .lost left s = s := by
  cases left <;> simp [takeOutcome, closed]

/-- A LOST while a note is open is a lock loss (R99). -/
theorem takeOutcome_lost_open {c : NoteContext} (left : Option Nat) (hc : (s.string i).tracker.context = some c) :
    takeOutcome i .lost left s =
      { s with su := { s.su with flags := flagsAfter 9 s.su, counters := countersAfter (17 + i.number) 1 s.su } } := by
  have lost : takeOutcome i .lost left s = lostInNote i s := by cases left <;> simp [takeOutcome, hc]
  rw [lost, lostInNote, State.cause_bump_eq]
  cases i <;> rfl

/-- An outcome that locks makes its lookup (R87). -/
theorem takeOutcome_locking (locks : o.locks = true) (a : Nat) : takeOutcome i o (some a) s = takeLocking i o a s := by
  cases o with
  | lock | glide | merge | jump => rfl
  | lost | unlocked | miss => cases locks

/-- An outcome the tracker follows or the stream tells is taken, and told (R87, R92, R95). -/
theorem takeOutcome_told (locks : o.locks = true) (look : gridLookup (s.string i).grid a = some (found, pv))
    (heard : (s.string i).tracker.state.followsPitch = true ∨ ((s.string i).profile.monitorStream = true ∧ o ≠ .merge)) :
    takeOutcome i o (some a) s = tunedAfter i o pv (s.string i) (takePitch i o (found, pv) (noteRange found s)) := by
  rw [takeOutcome_locking locks]
  simp only [takeLocking, look, Bool.and_eq_true, LockOutcome.tunes_iff locks, if_pos heard]
  rfl

/-- An outcome that the tracker does not follow and the stream does not tell is nothing (R87, R88, R90). -/
theorem takeOutcome_untold (locks : o.locks = true) (follows : (s.string i).tracker.state.followsPitch = false)
    (quiet : ¬((s.string i).profile.monitorStream = true ∧ o ≠ .merge)) : takeOutcome i o (some a) s = s := by
  rw [takeOutcome_locking locks, takeLocking]
  split
  · rfl
  · exact if_neg (by simpa [LockOutcome.tunes_iff locks, follows] using quiet)

end

/-! ## The pitch of an open note -/

/-- The blocks of a string whose tracker holds an open context in a state, its release counter counting or not. -/
def StringBlock.noteHeld (k : NoteContext) (state : TrackerState) (counting : Bool) (b : StringBlock) : StringBlock := { b with
  timers := { b.timers with release := { b.timers.release with running := counting } }
  tracker := { b.tracker with state := state, context := some k } }

/-- A string whose block is held stays as it stands when its own terms are given again. -/
theorem StringBlock.noteHeld_self {b : StringBlock} {c : NoteContext} (hc : b.tracker.context = some c) :
    b.noteHeld c b.tracker.state b.timers.release.running = b := by
  simp only [StringBlock.noteHeld, ← hc]

theorem modifyContext_noteHeld (i : StringNo) (k : NoteContext) (state : TrackerState) (counting : Bool)
    (f : NoteContext → NoteContext) (s : State) :
    (s.modifyString i (·.noteHeld k state counting)).modifyContext i f = s.modifyString i (·.noteHeld (f k) state counting) :=
  State.modifyString_modifyString i _ _ s

/-- Where an outcome leaves the tracker of an open note: a JUMP returns it to SOUNDING and stops a release, any other outcome leaves
both (R103). -/
def StringBlock.heldAfter (o : LockOutcome) (k : NoteContext) (b : StringBlock) : StringBlock :=
  if o = .jump then b.noteHeld k .sounding (b.timers.release.running && decide (b.tracker.state = .sounding))
  else b.noteHeld k b.tracker.state b.timers.release.running

section

variable {i : StringNo} {s : State} {c : NoteContext} {o : LockOutcome} (hc : (s.string i).tracker.context = some c)
  (active : (s.string i).tracker.state = .sounding ∨ (s.string i).tracker.state = .releasing)

include hc

theorem backToSounding_eq : backToSounding i s = s.modifyString i (·.noteHeld c .sounding false) :=
  State.modifyString_congr (by simp only [StringBlock.noteHeld, ← hc]; rfl)

include active

theorem jumpReturns_eq : jumpReturns i o s = s.modifyString i (·.heldAfter o c) := by
  unfold jumpReturns StringBlock.heldAfter
  by_cases jump : o = .jump
  · simp only [jump, if_true, true_and]
    rcases active with sounding | releasing
    · rw [if_neg (by simp [sounding])]
      refine (State.modifyString_same ?_).symm
      simpa [sounding] using StringBlock.noteHeld_self hc
    · rw [if_pos releasing, backToSounding_eq hc]
      exact State.modifyString_congr (by simp [releasing])
  · simp only [jump, if_false, false_and]
    exact (State.modifyString_same (StringBlock.noteHeld_self hc)).symm

theorem jumpReturns_modifyContext (f : NoteContext → NoteContext) :
    (jumpReturns i o s).modifyContext i f = s.modifyString i (·.heldAfter o (f c)) := by
  rw [jumpReturns_eq hc active]
  refine (State.modifyString_modifyString i _ _ s).trans (State.modifyString_congr ?_)
  unfold StringBlock.heldAfter
  simp only [Function.comp_apply]
  split <;> rfl

/-- A pitch within the note, or a GLIDE or MERGE, moves the note's Pv (R95). -/
theorem pitchOutcome_moves {pv : Nat} (early : c.early = false) (same : (o = .jump ∨ o = .lock) → noteOf pv = c.note) :
    pitchOutcome i o pv c s = s.modifyString i (·.heldAfter o { c with pvComputed := pv }) := by
  have unchanged : ¬((o = .jump ∨ o = .lock) ∧ noteOf pv ≠ c.note) := fun h => h.2 (same h.1)
  rw [pitchOutcome, if_neg (by simp [early]), if_neg unchanged]
  exact jumpReturns_modifyContext hc active _

/-- The first pitch after an early start settles the note it confirms (R96). -/
theorem pitchOutcome_settles {pv : Nat} (early : c.early = true) (same : noteOf pv = c.note) :
    pitchOutcome i o pv c s = s.modifyString i (·.heldAfter o { c with pvComputed := pv, early := false }) := by
  rw [pitchOutcome, if_pos early, clearEarly, if_pos same]
  rw [jumpReturns_modifyContext hc active, same]

/-- The first pitch after an early start retargets a note it does not confirm (R96). -/
theorem pitchOutcome_retargets {pv : Nat} (early : c.early = true) (differs : noteOf pv ≠ c.note) :
    pitchOutcome i o pv c s = buildPitch i .retarget
      (s.modifyString i (·.heldAfter o { c with pvComputed := pv, early := false, note := noteOf pv })) := by
  rw [pitchOutcome, if_pos early, clearEarly, if_neg differs]
  rw [jumpReturns_modifyContext hc active]

omit active in
/-- A change of note in mode GLIDE (R97). -/
theorem pitchOutcome_slurs {pv : Nat} (jumps : o = .jump ∨ o = .lock) (early : c.early = false) (differs : noteOf pv ≠ c.note)
    (mode : c.latched.legato = .glide) :
    pitchOutcome i o pv c s = buildPitch i .slur
      (s.modifyString i (·.noteHeld { c with pvComputed := pv, note := noteOf pv } .sounding false)) := by
  have changes : (o = .jump ∨ o = .lock) ∧ noteOf pv ≠ c.note := ⟨jumps, differs⟩
  rw [pitchOutcome, if_neg (by simp [early]), if_pos changes, mode, backToSounding_eq hc]
  simp only [changeNote, modifyContext_noteHeld]

omit active in
/-- A change of note in mode SPLIT: the end leaves the envelope, which the legato start reads (R98). -/
theorem pitchOutcome_splits {pv : Nat} (jumps : o = .jump ∨ o = .lock) (early : c.early = false) (differs : noteOf pv ≠ c.note)
    (mode : c.latched.legato = .split) :
    pitchOutcome i o pv c s = startNote i pv .legato (gradeOf (s.string i).stage.e) (s.string i).stage.e false
      (endNote i .split (s.modifyString i (·.noteHeld { c with pvComputed := pv } .sounding false))) := by
  have changes : (o = .jump ∨ o = .lock) ∧ noteOf pv ≠ c.note := ⟨jumps, differs⟩
  have string := State.modifyString_string i (·.noteHeld { c with pvComputed := pv } .sounding false) s
  have envelope : ((endNote i .split (s.modifyString i (·.noteHeld { c with pvComputed := pv } .sounding false))).string i).stage.e =
      (s.string i).stage.e := by
    rw [endNote_string_open (c := { c with pvComputed := pv }) (by rw [string]; rfl), string]
    rfl
  rw [pitchOutcome, if_neg (by simp [early]), if_pos changes, mode, backToSounding_eq hc]
  simp only [changeNote, startLegato, modifyContext_noteHeld, envelope]

/-- With a note open an outcome's pitch is the note's (R95). -/
theorem takeOutcome_of_open {a pv : Nat} {found : GridOutcome} (locks : o.locks = true)
    (look : gridLookup (s.string i).grid a = some (found, pv)) :
    takeOutcome i o (some a) s = tunedAfter i o pv (s.string i) (pitchOutcome i o pv c (noteRange found s)) := by
  have string := noteRange_string found s i
  rcases active with state | state <;>
    rw [takeOutcome_told locks look (.inl (by rw [state]; rfl))] <;>
    simp only [takePitch, string, state, hc]

end

/-- Settles O32. -/
theorem outcomesOfAnOpenNote : Obligations.OutcomesOfAnOpenNote := by
  intro i s c a found pv b hc active look note tuned noted holding stays returns sounds moved settled
  have noted_eq : noteRange found s = noted := noteRange_eq found s
  have open_ : (noted.string i).tracker.context = some c := hc
  have active_ : (noted.string i).tracker.state = .sounding ∨ (noted.string i).tracker.state = .releasing := active
  have told {o : LockOutcome} (locks : o.locks = true) :
      takeOutcome i o (some a) s = tuned o (pitchOutcome i o pv c noted) := by
    rw [← noted_eq]
    exact takeOutcome_of_open hc active locks look
  have stays_eq (k : NoteContext) {o : LockOutcome} (h : o ≠ .jump) : noted.modifyString i (·.heldAfter o k) = stays k := by
    simp only [StringBlock.heldAfter, if_neg h]
    rfl
  have returns_eq (k : NoteContext) : noted.modifyString i (·.heldAfter .jump k) = returns k := rfl
  refine ⟨fun early => ?glide, fun early => ?merge, fun early same => ?lock, fun early same => ?jump,
    fun o jumps early differs mode => ?slur, fun o jumps early differs mode => ?split,
    fun o ho early => ⟨fun same => ?settles, fun differs => ?retargets⟩,
    fun early => ⟨fun same => ?jumpSettles, fun differs => ?jumpRetargets⟩,
    fun left => takeOutcome_lost_open left hc, fun left => ⟨takeOutcome_miss left, takeOutcome_unlocked i left s⟩⟩
  case glide => rw [told rfl, pitchOutcome_moves open_ active_ early (by simp), stays_eq _ (by simp)]
  case merge =>
    rw [told rfl, pitchOutcome_moves open_ active_ early (by simp), stays_eq _ (by simp)]
    simp [tuned, moved]
  case lock => rw [told rfl, pitchOutcome_moves open_ active_ early fun _ => same, stays_eq _ (by simp)]
  case jump => rw [told rfl, pitchOutcome_moves open_ active_ early fun _ => same, returns_eq]
  case slur =>
    rw [told (by rcases jumps with rfl | rfl <;> rfl), pitchOutcome_slurs open_ jumps early differs mode]
    rfl
  case split =>
    rw [told (by rcases jumps with rfl | rfl <;> rfl), pitchOutcome_splits open_ jumps early differs mode]
    rfl
  case settles =>
    have locks : o.locks = true := by rcases ho with rfl | rfl | rfl <;> rfl
    rw [told locks, pitchOutcome_settles open_ active_ early same, stays_eq _ (by rcases ho with rfl | rfl | rfl <;> simp)]
  case retargets =>
    have locks : o.locks = true := by rcases ho with rfl | rfl | rfl <;> rfl
    rw [told locks, pitchOutcome_retargets open_ active_ early differs,
      stays_eq _ (by rcases ho with rfl | rfl | rfl <;> simp)]
    rfl
  case jumpSettles => rw [told rfl, pitchOutcome_settles open_ active_ early same, returns_eq]
  case jumpRetargets =>
    rw [told rfl, pitchOutcome_retargets open_ active_ early differs, returns_eq]
    rfl

/-! ## Outside a note -/

/-- Settles O33. -/
theorem outcomesOutsideANote : Obligations.OutcomesOutsideANote := by
  refine ⟨fun i s left closed => ⟨takeOutcome_miss left, takeOutcome_unlocked i left s, takeOutcome_lost_closed left closed⟩,
    fun i s o a closed bare => ?bare, ?locking⟩
  case bare =>
    cases locks : o.locks with
    | true =>
      rw [takeOutcome_locking locks, takeLocking, bare]
      rfl
    | false =>
      cases o with
      | lost => exact takeOutcome_lost_closed _ closed
      | unlocked | miss => rfl
      | lock | glide | merge | jump => cases locks
  case locking =>
    intro i s o a found pv b closed ho look peak flagged tune quiet then_
    have locks : o.locks = true := (LockOutcome.locks_iff o).mpr ho
    have quiet_iff : quiet ↔ ¬(b.profile.monitorStream = true ∧ o ≠ .merge) := by simp [quiet, imp_iff_not_or]
    have tuned (u : State) : tunedAfter i o pv b u = then_ u := by
      simp only [tunedAfter, then_, quiet_iff, ite_not]
      rfl
    have noted_eq : noteRange found s = flagged := noteRange_eq found s
    have string : flagged.string i = b := rfl
    have heard (h : b.tracker.state = .attack ∨ ¬quiet) :
        takeOutcome i o (some a) s = then_ (takePitch i o (found, pv) flagged) := by
      rw [← tuned, ← noted_eq]
      refine takeOutcome_told locks look (h.imp (fun attack => ?_) fun told => ?_)
      · rw [attack]; rfl
      · simpa only [quiet_iff, not_not] using told
    have unpitched (h : b.tracker.state = .silent ∨ b.tracker.state = .muted) : takePitch i o (found, pv) flagged = flagged := by
      rcases h with state | state <;> simp only [takePitch, string, state]
    refine ⟨fun attack within => ?starts, fun attack outside => ?outside, fun state hquiet => ?quiet, fun state told => ?told⟩
    case starts =>
      have unflagged : flagged = s := by simp only [flagged, if_pos within]
      rw [heard (.inl attack)]
      simp only [takePitch, string, attack, within, if_true]
      rw [unflagged]
      rfl
    case outside =>
      rw [heard (.inl attack)]
      simp only [takePitch, string, attack, if_neg outside]
    case quiet =>
      refine takeOutcome_untold locks ?_ (quiet_iff.mp hquiet)
      rcases state with state | state <;> (rw [state]; rfl)
    case told => rw [heard (.inr told), unpitched state]

end Sys2Proof.Machine
end

section
/-!
PROOFS. STRING ON, STRING OFF and ALL NOTES END: the notes of the named strings ended one after another (O52).
-/

namespace Sys2Proof.Machine

open Sys2Proof.Safety

/-! ## One string's note or attack ended by a command -/

/-- A string's note ends with a cause, if one is open, and its blocks become those of a string ended by a command (R105, R106). -/
def endString (cause : EndCause) (final : TrackerState) (i : StringNo) (s : State) : State :=
  (endNote i cause s).modifyString i fun _ => endedBlock final (s.string i)

theorem endNote_closed {i : StringNo} {s : State} (closed : (s.string i).tracker.context = none) (cause : EndCause) :
    endNote i cause s = s := by
  simp only [endNote, closed]

section

variable {i : StringNo} {s : State} (cause : EndCause) (final : TrackerState)

/-- The end of the note of a tracker in SOUNDING or RELEASING, which has one open (R105, R106). -/
theorem endNote_setTracker_eq (law : ContextLawful (s.string i))
    (active : (s.string i).tracker.state = .sounding ∨ (s.string i).tracker.state = .releasing) :
    (endNote i cause s).setTracker i final = endString cause final i s := by
  have playing : (s.string i).tracker.context.isSome = true := by
    rw [law.1]
    rcases active with state | state <;> (rw [state]; rfl)
  obtain ⟨c, hc⟩ := Option.isSome_iff_exists.mp playing
  refine State.modifyString_congr ?_
  rw [endNote_string_open hc]
  rcases active with state | state <;> (simp only [endedBlock, state]; rfl)

/-- Where no note is open, only the string's own blocks change (R105, R106). -/
theorem endString_closed (law : ContextLawful (s.string i)) (silent : contextState (s.string i).tracker.state = false) :
    endString cause final i s = s.modifyString i (endedBlock final) := by
  have closed : (s.string i).tracker.context = none := by
    rw [← Option.not_isSome_iff_eq_none, law.1, silent]
    exact Bool.false_ne_true
  rw [endString, endNote_closed closed]
  rfl

/-- An attack ended by a command (R105, R106). -/
theorem endAttack_eq (law : ContextLawful (s.string i)) (attack : (s.string i).tracker.state = .attack) :
    endAttack i final s = endString cause final i s := by
  rw [endString_closed cause final law (by rw [attack]; rfl)]
  refine State.modifyString_congr ?_
  simp only [endedBlock, attack]
  rfl

/-- A MUTED string is left as it stands (R105, R106). -/
theorem endString_muted (law : ContextLawful (s.string i)) (muted : (s.string i).tracker.state = .muted) :
    endString cause final i s = s := by
  rw [endString_closed cause final law (by rw [muted]; rfl)]
  exact State.modifyString_same (by simp only [endedBlock, muted])

/-- A SILENT string only changes its state (R105, R106). -/
theorem endString_silent (law : ContextLawful (s.string i)) (silent : (s.string i).tracker.state = .silent) :
    endString cause final i s = s.setTracker i final := by
  rw [endString_closed cause final law (by rw [silent]; rfl)]
  refine State.modifyString_congr ?_
  simp only [endedBlock, silent]
  rfl

/-- STRING OFF for one string (R105). -/
theorem offString_eq (law : ContextLawful (s.string i)) : offString i s = endString .off .muted i s := by
  unfold offString
  split
  · next state => exact endNote_setTracker_eq _ _ law (.inl state)
  · next state => exact endNote_setTracker_eq _ _ law (.inr state)
  · next state => exact endAttack_eq _ _ law state
  · next state => exact (endString_silent _ _ law state).symm
  · next state => exact (endString_muted _ _ law state).symm

/-- ALL NOTES END for one string (R106). -/
theorem panicString_eq (law : ContextLawful (s.string i)) : panicString i s = endString .panic .silent i s := by
  unfold panicString
  split
  · next state => exact endNote_setTracker_eq _ _ law (.inl state)
  · next state => exact endNote_setTracker_eq _ _ law (.inr state)
  · next state => exact endAttack_eq _ _ law state
  · next state =>
    rw [endString_silent _ _ law state]
    refine (State.modifyString_same ?_).symm
    simp only [StringBlock.modifyTracker, ← state]
  · next state => exact (endString_muted _ _ law state).symm

end

theorem endedBlock_muted_state (b : StringBlock) : (endedBlock .muted b).tracker.state = .muted := by
  unfold endedBlock
  split
  · assumption
  · rfl
  · rfl
  · rfl
  · rfl

/-! ## Strings ended one after another -/

theorem endString_string (cause : EndCause) (final : TrackerState) (i j : StringNo) (s : State) :
    (endString cause final i s).string j = if j = i then endedBlock final (s.string j) else s.string j := by
  rw [endString, State.string_modifyString]
  split
  · next h => rw [h]
  · next h => exact (endNote_touches i cause s).others j h

/-- An event that ends each string as its blocks stand, where the law of the contexts holds, ends a list of strings. -/
theorem forStrings_ends {event : StringNo → State → State} {cause : EndCause} {final : TrackerState}
    (ends : ∀ i s, ContextLawful (s.string i) → event i s = endString cause final i s) {strings : List StringNo}
    (nodup : strings.Nodup) {s : State} (law : ∀ i ∈ strings, ContextLawful (s.string i)) :
    forStrings strings event s = forStrings strings (endString cause final) s := by
  induction strings generalizing s with
  | nil => rfl
  | cons i rest ih =>
    obtain ⟨hi, hrest⟩ := List.nodup_cons.mp nodup
    rw [forStrings_cons, forStrings_cons, ends i s (law i List.mem_cons_self)]
    refine ih hrest fun j hj => ?_
    rw [endString_string, if_neg fun e : j = i => hi (e ▸ hj)]
    exact law j (List.mem_cons_of_mem i hj)

theorem forStrings_endString_string (cause : EndCause) (final : TrackerState) {strings : List StringNo} (nodup : strings.Nodup)
    (s : State) (j : StringNo) : (forStrings strings (endString cause final) s).string j =
      if j ∈ strings then endedBlock final (s.string j) else s.string j := by
  induction strings generalizing s with
  | nil => rfl
  | cons i rest ih =>
    obtain ⟨hi, hrest⟩ := List.nodup_cons.mp nodup
    rw [forStrings_cons, ih hrest, endString_string]
    by_cases hj : j = i
    · subst hj; simp [hi]
    · simp [hj]

/-- The messages are those of the notes ended one after another: a string's blocks do not enter another's end. -/
theorem forStrings_endString_sent (cause : EndCause) (final : TrackerState) {strings : List StringNo} (nodup : strings.Nodup)
    (s : State) : SentAs (forStrings strings (endNote · cause) s) (forStrings strings (endString cause final) s) := by
  induction strings generalizing s with
  | nil => exact ⟨rfl, rfl, rfl, rfl⟩
  | cons i rest ih =>
    obtain ⟨hi, hrest⟩ := List.nodup_cons.mp nodup
    have apart := forStrings_apart (endNote · cause) rest (fun j hj => endNote_apart (fun e : j = i => hi (e ▸ hj)) cause)
      (fun _ => endedBlock final (s.string i)) (endNote i cause s)
    obtain ⟨eq, mq, rc, su⟩ := ih hrest (endString cause final i s)
    rw [endString, apart] at eq mq rc su
    exact ⟨eq, mq, rc, su⟩

/-- What ended strings leave: the rest of the part, and of the status unit all but MONITOR_LOST and its counter (R148, R154). -/
structure EndsAlone (s t : State) : Prop where
  frame : { t with strings := s.strings, eq := s.eq, mq := s.mq, rc := s.rc, su := s.su } = s
  status : StatusKept [7] [5] s.su t.su

theorem EndsAlone.trans {s t u : State} (h : EndsAlone s t) (k : EndsAlone t u) : EndsAlone s u where
  frame := by
    have frame := h.frame
    rw [← k.frame] at frame
    exact frame
  status := h.status.trans k.status

theorem endString_alone (cause : EndCause) (final : TrackerState) (i : StringNo) (s : State) :
    EndsAlone s (endString cause final i s) :=
  ⟨(endNote_touches i cause s).frame, endNote_statusKept i cause s⟩

theorem forStrings_endString_alone (cause : EndCause) (final : TrackerState) (strings : List StringNo) (s : State) :
    EndsAlone s (forStrings strings (endString cause final) s) :=
  forStrings_relates (fun _ => ⟨rfl, .refl _ _ _⟩) (fun _ _ _ => .trans) _ (endString_alone cause final) strings s

/-! ## The NOTE ENDs in the event queue -/

theorem endNote_noteLaw {s : State} (law : NoteLaw s) (i : StringNo) (cause : EndCause) : NoteLaw (endNote i cause s) := by
  intro j c hc
  rcases eq_or_ne j i with rfl | hj
  · cases (endNote_context j cause s).symm.trans hc
  · exact law j c (by rw [← (endNote_touches i cause s).others j hj]; exact hc)

/-- The ends of other strings' notes leave a string's blocks and the NOTE ENDs that are queued. -/
structure EndsKept (i : StringNo) (s t : State) : Prop where
  string : t.string i = s.string i
  noteLaw : NoteLaw t
  queued : ∀ m ∈ s.eq.entries, ∀ cause, m.body = .noteEnd cause → m ∈ t.eq.entries

theorem endNote_keepsQueued {s : State} (law : NoteLaw s) (i : StringNo) (cause : EndCause) {m : Message}
    (hm : m ∈ s.eq.entries) {other : EndCause} (hbody : m.body = .noteEnd other) : m ∈ (endNote i cause s).eq.entries := by
  by_cases held : reservationHeld (s.string i) = true
  · obtain ⟨_, _, _, queue⟩ := endNote_held i cause s law held
    rw [queue]
    simp [hm, Message.isPitchOf, Message.isPitch, hbody]
  · rwa [endNote_unheld i cause s held]

/-- Each of the notes ended that held a reservation has its NOTE END queued (R86, R148). -/
theorem forStrings_endNote_queued {s : State} (law : NoteLaw s) (cause : EndCause) {strings : List StringNo}
    (nodup : strings.Nodup) {i : StringNo} (hi : i ∈ strings) (held : reservationHeld (s.string i) = true) :
    ∃ m ∈ (forStrings strings (endNote · cause) s).eq.entries, m.string = i ∧ m.body = .noteEnd cause := by
  obtain ⟨u, before, after⟩ := forStrings_turn (R := fun s t => NoteLaw s → EndsKept i s t)
    (fun _ law => ⟨rfl, law, fun _ hm _ _ => hm⟩)
    (fun _ _ _ h k law => ⟨((k (h law).noteLaw).string).trans (h law).string, (k (h law).noteLaw).noteLaw,
      fun m hm c hc => (k (h law).noteLaw).queued m ((h law).queued m hm c hc) c hc⟩)
    (endNote · cause) i
    (fun j s hj law => ⟨(endNote_touches j cause s).others i hj.symm, endNote_noteLaw law j cause,
      fun _ hm _ hc => endNote_keepsQueued law j cause hm hc⟩) nodup hi s
  obtain ⟨string, lawBefore, _⟩ := before law
  obtain ⟨m, hstring, hbody, queue⟩ := endNote_held i cause u lawBefore (by rw [string]; exact held)
  exact ⟨m, (after (endNote_noteLaw lawBefore i cause)).queued m (by simp [queue]) cause hbody, hstring, hbody⟩

/-! ## The commands -/

theorem mem_maskedStrings (mask : Payload) (i : StringNo) : i ∈ maskedStrings mask ↔ mask.getLsbD (i.number - 1) = true := by
  simp [maskedStrings, maskNames]

theorem onString_eq : onString = fun i s => s.modifyString i fun b =>
    if b.tracker.state = .muted then { b with tracker := { b.tracker with state := .silent } } else b := by
  funext i s
  unfold onString
  split
  · next muted => exact State.modifyString_congr (by simp only [if_pos muted]; rfl)
  · next on => exact (State.modifyString_same (if_neg on)).symm

/-- Settles O52. -/
theorem stringCommands : Obligations.StringCommands := by
  intro mask s h named effect ended
  have named_iff (i : StringNo) : i ∈ maskedStrings mask ↔ named i := mem_maskedStrings mask i
  have ends (c : Command) (cause : EndCause) (final : TrackerState) {strings : List StringNo} (nodup : strings.Nodup)
      (note : NoteLaw s) :
      let t := replied c .accept (forStrings strings (endString cause final) s)
      effect c t ∧ (∀ i, t.string i = if i ∈ strings then endedBlock final (s.string i) else s.string i) ∧
        SentAs (ended cause strings) t ∧
        ∀ i ∈ strings, reservationHeld (s.string i) = true → ∃ m ∈ t.eq.entries, m.string = i ∧ m.body = .noteEnd cause := by
    intro t
    obtain ⟨frame, status⟩ := forStrings_endString_alone cause final strings s
    obtain ⟨eq, mq, rc, su⟩ := forStrings_endString_sent cause final nodup s
    refine ⟨⟨congrArg (replied c .accept) frame, status⟩, forStrings_endString_string cause final nodup s, ⟨eq, mq, rc, su⟩,
      fun i hi held => ?_⟩
    have queued := forStrings_endNote_queued note cause nodup hi held
    rwa [← eq] at queued
  have nodup : (maskedStrings mask).Nodup := allStrings_nodup.filter _
  refine ⟨fun bare => ?noGrid, fun loaded => ?on, fun context note => ⟨?off, ?panic⟩⟩
  case noGrid =>
    have some_ : (maskedStrings mask).any (fun i => (s.string i).grid.isNone) = true := by
      obtain ⟨i, hi, hgrid⟩ := bare
      exact List.any_eq_true.mpr ⟨i, (named_iff i).mpr hi, by rw [hgrid]; rfl⟩
    refine exec_replies (c := .stringOn) h (by simp) rfl ?_
    simp only [Command.run, runStringOn, if_pos some_]
    rfl
  case on =>
    have none_ : ¬(maskedStrings mask).any (fun i => (s.string i).grid.isNone) = true := by
      simpa [named_iff] using loaded
    refine exec_replies (c := .stringOn) h (by simp) rfl ?_
    simp only [Command.run, runStringOn, if_neg none_, onString_eq, forStrings_masked]
    rfl
  case off =>
    obtain ⟨effected, strings, sent, queued⟩ := ends .stringOff .off .muted nodup note
    refine ⟨_, exec_replies (c := .stringOff) h (by simp) rfl ?_, effected, fun i hi => ?_, fun i hi => ?_, sent,
      fun i hi => queued i ((named_iff i).mpr hi)⟩
    · rw [← forStrings_ends (fun _ _ => offString_eq) nodup fun i _ => context i]
      rfl
    · rw [strings, if_pos ((named_iff i).mpr hi)]
      exact ⟨rfl, endedBlock_muted_state _⟩
    · rw [strings, if_neg (mt (named_iff i).mp hi)]
  case panic =>
    obtain ⟨effected, strings, sent, queued⟩ := ends .allNotesEnd .panic .silent allStrings_nodup note
    refine ⟨_, exec_replies (c := .allNotesEnd) h (by simp) rfl ?_, effected, fun i => ?_, sent,
      fun i => queued i (mem_allStrings i)⟩
    · rw [← forStrings_ends (fun _ _ => panicString_eq) allStrings_nodup fun i _ => context i]
      rfl
    · rw [strings, if_pos (mem_allStrings i)]

end Sys2Proof.Machine
end

section
/-!
PROOFS. The mapping tables: lookups and selectors (O27), the fields MAP makes of a tracker message (O28), LOAD MAP and CLEAR MAP
(O51).
-/

namespace Sys2Proof.Machine

open Sys2Proof.Safety

/-! ## A lookup in a mapping table -/

/-- A message without the key its table asks for misses (R117). -/
theorem MapTable.lookup_of_no_key {t : MapTable} {keys : MapKeys} (base : Nat) (h : keys.forMode t.keyMode = none) :
    t.lookup base keys = none := by
  rw [MapTable.lookup, h, Option.bind_none]

/-- An index of 256 or more is a miss (R117). -/
theorem MapTable.lookup_beyond {t : MapTable} {base k : Nat} {keys : MapKeys} (h : keys.forMode t.keyMode = some k)
    (beyond : 256 ≤ base + k) : t.lookup base keys = none := by
  rw [MapTable.lookup, h, Option.bind_some, Vector.getElem?_eq_none beyond, Option.getD_none, Option.map_none]

/-- An index inside the table answers its entry (R117). -/
theorem MapTable.lookup_within {t : MapTable} {base k : Nat} {keys : MapKeys} (h : keys.forMode t.keyMode = some k)
    (within : base + k < 256) : t.lookup base keys = (t.entries[base + k]).map (·.toNat) := by
  rw [MapTable.lookup, h, Option.bind_some, Vector.getElem?_eq_getElem within, Option.getD_some]

/-! ## The modes of a selector -/

section

variable {sel : Selector} (tables : Vector MapTable 4) (base : Nat) (keys : MapKeys) (source : Nat)

theorem Selector.resolve_source (h : sel.mode = .source) : sel.resolve tables base keys source = source := by
  rw [Selector.resolve, h]

theorem Selector.resolve_fixed (h : sel.mode = .fixed) : sel.resolve tables base keys source = sel.fixed := by
  rw [Selector.resolve, h]

theorem Selector.resolve_mapFirst (h : sel.mode = .mapFirst) :
    sel.resolve tables base keys source = (tables[sel.t1].lookup base keys).getD source := by
  rw [Selector.resolve, h]

theorem Selector.resolve_mapChain (h : sel.mode = .mapChain) : sel.resolve tables base keys source =
    ((tables[sel.t1].lookup base keys).or (tables[sel.t2].lookup base keys)).getD sel.fixed := by
  rw [Selector.resolve, h]

end

/-- Settles O27. -/
theorem selectorsAndTables : Obligations.SelectorsAndTables := by
  refine ⟨?lookup, ?resolve⟩
  case lookup =>
    intro t base keys key
    have key_eq : keys.forMode t.keyMode = key := by
      simp only [key]
      cases t.keyMode <;> rfl
    exact ⟨fun absent => MapTable.lookup_of_no_key base (key_eq.trans absent), fun k given =>
      ⟨MapTable.lookup_beyond (key_eq.trans given), MapTable.lookup_within (key_eq.trans given)⟩⟩
  case resolve =>
    intro sel tables base keys source first second
    have chain (mode : sel.mode = .mapChain) : sel.resolve tables base keys source = (first.or second).getD sel.fixed :=
      Selector.resolve_mapChain tables base keys source mode
    have one (mode : sel.mode = .mapFirst) : sel.resolve tables base keys source = first.getD source :=
      Selector.resolve_mapFirst tables base keys source mode
    refine ⟨Selector.resolve_source tables base keys source, Selector.resolve_fixed tables base keys source,
      fun v mode hit => ?_, fun mode miss => ?_, fun v mode hit => ?_, fun v mode miss hit => ?_, fun mode miss missed => ?_⟩
    · rw [one mode, hit, Option.getD_some]
    · rw [one mode, miss, Option.getD_none]
    · rw [chain mode, hit, Option.some_or, Option.getD_some]
    · rw [chain mode, miss, hit, Option.none_or, Option.getD_some]
    · rw [chain mode, miss, missed, Option.none_or, Option.getD_none]

/-! ## The fields of a message at MAP -/

theorem velocityField_eq (v : Nat) : velocityField v = max 1 v := by
  unfold velocityField
  split <;> omega

/-- A bend is clamped to the span on either side (R126). -/
theorem clampBend_eq (span : Nat) (bend : Int) : clampBend span bend = max (-(64 * (span : Int))) (min (64 * span) bend) :=
  clampInt_eq (by omega) bend

/-- The grid position of a note in a loaded grid (R62). -/
theorem gridPosition_loaded {grid : Option Grid} {g : Grid} (h : grid = some g) (note : Nat) :
    gridPosition grid note = note - g.base := by
  rw [h, gridPosition, Option.map_some, Option.getD_some]

/-- Settles O28. -/
theorem mapFillsTheFields : Obligations.MapFillsTheFields := by
  intro tables i b c g loaded pv grade early cause end_ position keys resolve note velocity span bend fresh kept mapped
  have position_eq : gridPosition b.grid c.note = position := gridPosition_loaded loaded c.note
  have keys_eq (x : Nat) : trackerKeys i b.grid c x = keys x := by
    rw [trackerKeys, position_eq, positionKey]
  have note_eq (x : Nat) : trackerNote tables b c (keys x) = note x := by
    rewrite [trackerNote, sourceNote, position_eq]
    rfl
  have velocity_eq (x : Nat) : trackerVelocity tables c (keys x) x = velocity x := velocityField_eq _
  have bend_eq : clampBend c.latched.bendSpan (bendOf pv c.note) = bend := clampBend_eq _ _
  have start (cause : StartCause) : mapped (.start cause pv grade early) =
      ⟨i, trackerLane tables i b c (.start cause pv grade early) (keys grade), false, false,
        .noteStart cause (note grade) (velocity grade) early bend⟩ := by
    simp only [mapped, mapTracker, TrackerMessage.grade, trackerBody, keys_eq, note_eq, velocity_eq, bend_eq]
  refine ⟨start .picked, start .legato, start .recovery, ?pitch, ?restrike, rfl⟩
  case pitch => simp only [mapped, mapTracker, TrackerMessage.grade, trackerBody, trackerLane, keys_eq, note_eq, bend_eq, kept]
  case restrike => simp only [mapped, mapTracker, TrackerMessage.grade, trackerBody, trackerLane, keys_eq, velocity_eq, kept]

/-! ## LOAD MAP and CLEAR MAP -/

@[simp] theorem State.modifyTable_self (n : Fin 4) (f : MapTable → MapTable) (s : State) :
    (s.modifyTable n f).tables[n] = f s.tables[n] :=
  Vector.getElem_set_self n.isLt

theorem State.modifyTable_other {n k : Fin 4} (h : k ≠ n) (f : MapTable → MapTable) (s : State) :
    (s.modifyTable n f).tables[k] = s.tables[k] :=
  Vector.getElem_set_ne n.isLt k.isLt fun same => h (Fin.ext same.symm)

/-- A run of words written into the entries of a table, entry by entry (R118). -/
theorem writeEntries_getElem? (words : List Payload) (start : Nat) (entries : Vector (Option (BitVec 7)) 256) (k : Nat)
    (hk : k < 256) : (writeEntries words start entries)[k]? =
      if h : start ≤ k ∧ k - start < words.length then some (mapEntryOf words[k - start]) else entries[k]? := by
  induction words generalizing start entries with
  | nil => simp [writeEntries]
  | cons w rest ih =>
    rw [writeEntries, ih]
    rcases lt_trichotomy k start with below | rfl | above
    · rw [dif_neg (by omega), dif_neg (by omega), Vector.getElem?_setIfInBounds_ne (by omega)]
    · rw [dif_neg (by omega), dif_pos (by simp), Vector.getElem?_setIfInBounds_self_of_lt hk]
      simp
    · obtain ⟨d, rfl⟩ : ∃ d, k = start + 1 + d := ⟨k - (start + 1), by omega⟩
      have index : start + 1 + d - start = d + 1 := by omega
      simp only [Vector.getElem?_setIfInBounds_ne (show start ≠ start + 1 + d by omega), index, Nat.add_sub_cancel_left,
        List.length_cons, List.getElem_cons_succ, Nat.add_lt_add_iff_right, Nat.le_add_right, true_and,
        show start ≤ start + 1 + d by omega]

/-- A table with a run of words written into its entries (R118). -/
def MapTable.load (words : List Payload) (start : Nat) (m : MapTable) : MapTable :=
  { m with entries := writeEntries words start m.entries }

theorem MapTable.load_outside {words : List Payload} {start k : Nat} {m : MapTable} (hk : k < 256)
    (apart : k < start ∨ start + words.length ≤ k) : (m.load words start).entries[k]? = m.entries[k]? :=
  (writeEntries_getElem? words start m.entries k hk).trans (dif_neg (by omega))

theorem MapTable.load_within {words : List Payload} {start k : Nat} {m : MapTable} (hk : k < words.length)
    (fits : start + words.length ≤ 256) : (m.load words start).entries[start + k]? = some (mapEntryOf words[k]) := by
  refine (writeEntries_getElem? words start m.entries (start + k) (by omega)).trans ((dif_pos ⟨by omega, by omega⟩).trans ?_)
  simp only [Nat.add_sub_cancel_left]

theorem mapEntryOf_eq (w : Payload) :
    mapEntryOf w = if w.getLsbD 14 then none else some (BitVec.ofNat 7 (min 127 w.toNat)) := by
  rw [mapEntryOf, clamp_zero_le]

/-- A word of LOAD MAP was clamped (R118). -/
theorem any_mapEntryClamped_iff (words : List Payload) :
    words.any mapEntryClamped = true ↔ ∃ w ∈ words, w.getLsbD 14 = false ∧ 127 < w.toNat := by
  simp [mapEntryClamped]

/-- Settles O51. -/
theorem mapCommands : Obligations.MapCommands := by
  intro n start mode words s atOnce few table entry clamped runs sent
  have course {t : State} {body : ReplyBody} (hrun : Command.loadMap.run (table :: start :: words) s = ⟨t, body, []⟩) :
      sent = .next (replied .loadMap body t) :=
    exec_replies (c := .loadMap) atOnce (by simp only [List.length_cons]; omega)
      (decide_eq_true (by simp only [List.length_cons]; omega)) hrun
  simp only [Command.run, runLoadMap, table, withTable_word] at course
  refine ⟨fun outside => course ?range, fun inside => ?written, ?clear⟩
  case range => exact if_pos (by simp only [runs] at outside; omega)
  case written =>
    have loaded : (s.modifyTable n (·.load words start.toNat)).tables[n] = s.tables[n].load words start.toNat :=
      State.modifyTable_self n _ s
    have entry? (k : Nat) : (s.modifyTable n (·.load words start.toNat)).tables[n].entries[k]? =
        (s.tables[n].load words start.toNat).entries[k]? := by rw [loaded]
    have keyMode : (s.modifyTable n (·.load words start.toNat)).tables[n].keyMode = s.tables[n].keyMode := by
      rw [loaded, MapTable.load]
    refine ⟨_, course (if_neg (by simp only [runs] at inside; omega)), ⟨fun h => ?_, fun h => ?_⟩,
      fun k hk => State.modifyTable_other hk (·.load words start.toNat) s, keyMode, fun k hk apart => (entry? k).trans ?_,
      fun k hk => (entry? _).trans ?_⟩
    · rw [if_pos ((any_mapEntryClamped_iff words).mpr h)]
      rfl
    · rw [if_neg (mt (any_mapEntryClamped_iff words).mp h)]
      rfl
    · exact MapTable.load_outside hk apart
    · rw [MapTable.load_within hk inside.2, mapEntryOf_eq]
  case clear =>
    refine exec_replies (c := .clearMap) atOnce (by simp) rfl ?_
    simp only [Command.run, runClearMap, table, withTable_word, carriedOut_eq]
    rfl

end Sys2Proof.Machine
end

section
/-!
PROOFS. The words of READ ACTION, READ PROFILE, READ COUNTERS and READ STATUS COUNTERS (O57).
-/

namespace Sys2Proof.Machine

open Sys2Proof.Safety

/-! ## READ ACTION -/

theorem SelectorMode.code_lt (mode : SelectorMode) : mode.code < 2 ^ 2 := by cases mode <;> decide

/-- The two words of a selector with the fields of the first written out (R111, R129). -/
theorem Selector.words_eq (sel : Selector) : sel.words = [16 * sel.mode.code + 4 * sel.t1.val + sel.t2.val, sel.fixed] := by
  rw [Selector.words, field_eq 4 sel.mode.code_lt, field_eq 2 sel.t1.isLt, field_eq 0 sel.t2.isLt]
  congr 1
  omega

/-! ## READ COUNTERS and READ STATUS COUNTERS -/

/-- The words of a counter set in HIGH form with their fields written out (R143). -/
theorem highWords_eq (c : CounterSet) :
    highWords c = [BitVec.ofNat 15 (4 * (c.notes.toNat / 2 ^ 30) + c.messages.toNat / 2 ^ 30)] := by
  have notes := c.notes.isLt
  have messages := c.messages.isLt
  rw [highWords, payload]
  congr 2
  simp only [field, fieldOf]
  omega

/-- The words of a run of counter sets in LOW form (R143). -/
theorem counterWords_low (first number : Nat) (sets : Vector CounterSet 128) :
    counterWords 0 first number sets =
      (List.range' first number).flatMap fun k =>
        let c := sets[k]?.getD ⟨0, 0⟩
        [ BitVec.ofNat 15 (c.notes.toNat / 2 ^ 15 % 2 ^ 15), BitVec.ofNat 15 (c.notes.toNat % 2 ^ 15)
        , BitVec.ofNat 15 (c.messages.toNat / 2 ^ 15 % 2 ^ 15), BitVec.ofNat 15 (c.messages.toNat % 2 ^ 15) ] := by
  simp only [counterWords, if_true, lowWords, fieldOf_low]
  rw [List.range'_eq_map_range, List.flatMap_map, List.flatMap_def]
  rfl

/-- The words of a run of counter sets in HIGH form (R143). -/
theorem counterWords_high (first number : Nat) (sets : Vector CounterSet 128) :
    counterWords 1 first number sets =
      (List.range' first number).map fun k =>
        let c := sets[k]?.getD ⟨0, 0⟩
        BitVec.ofNat 15 (4 * (c.notes.toNat / 2 ^ 30) + c.messages.toNat / 2 ^ 30) := by
  simp only [counterWords, if_neg Nat.one_ne_zero, highWords_eq]
  rw [List.range'_eq_map_range, List.map_map, ← List.flatMap_def, ← List.map_eq_flatMap]
  rfl

/-- The words of a run of status counters (R181). -/
theorem statusCounterWords_eq (first number : Nat) (counters : Vector (BitVec 16) 24) :
    statusCounterWords first number counters =
      (List.range' first number).flatMap fun k =>
        let c := (counters[k]?.getD 0).toNat
        [BitVec.ofNat 15 (c / 2 ^ 15), BitVec.ofNat 15 (c % 2 ^ 15)] := by
  have high (c : BitVec 16) : fieldOf c.toNat 1 15 = c.toNat / 2 ^ 15 := by
    have := c.isLt
    unfold fieldOf
    omega
  simp only [statusCounterWords, high, fieldOf_low]
  rw [List.range'_eq_map_range, List.flatMap_map, List.flatMap_def]
  rfl

/-- Settles O57. -/
theorem readSettingsAndCountersCommands : Obligations.ReadSettingsAndCountersCommands := by
  intro i first number form s atOnce b a p word selector counters counts fits status fitsStatus
  have counted {body : ReplyBody} (hrun : Command.readCounters.run [first, number, form] s = ⟨s, body, []⟩) :
      counters = .next (replied .readCounters body s) := exec_replies (c := .readCounters) atOnce (by simp) rfl hrun
  have stated {body : ReplyBody} (hrun : Command.readStatusCounters.run [first, number] s = ⟨s, body, []⟩) :
      status = .next (replied .readStatusCounters body s) :=
    exec_replies (c := .readStatusCounters) atOnce (by simp) rfl hrun
  simp only [Command.run, runReadCounters] at counted
  simp only [Command.run, runReadStatusCounters] at stated
  refine ⟨?action, ?profile, fun outside => counted ?range, fun inside low => counted ?low, fun inside high => counted ?high,
    fun outside => stated ?statusRange, fun inside => stated ?statusRun⟩
  case action =>
    have selector_words (x : Selector) : x.words.map payload = selector x := by
      rw [Selector.words_eq]
      simp only [selector]
      cases x.mode <;> rfl
    refine exec_replies (c := .readAction) atOnce (by simp) rfl ?_
    simp only [Command.run, runReadAction, withString_stringWord, actionWords, List.map_cons, List.map_append, selector_words]
    rfl
  case profile =>
    refine exec_replies (c := .readProfile) atOnce (by simp) rfl ?_
    simp only [Command.run, runReadProfile, withString_stringWord]
    rfl
  case range => exact if_pos (by simp only [fits] at outside; omega)
  case low =>
    simp only [fits] at inside
    rw [if_neg (by omega), low, counterWords_low]
    rfl
  case high =>
    simp only [fits] at inside
    rw [if_neg (by omega), high, counterWords_high]
    rfl
  case statusRange => exact if_pos (by simp only [fitsStatus] at outside; omega)
  case statusRun =>
    simp only [fitsStatus] at inside
    rw [if_neg (by omega), statusCounterWords_eq]
    rfl

end Sys2Proof.Machine
end

section
/-!
PROOFS. INJECT: the message built at each point, its crossing, and the reply that follows it (O54).
-/

namespace Sys2Proof.Machine

open Sys2Proof.Safety

/-! ## The admission of an injected message -/

/-- The admission neither takes nor uses a reservation, and touches UPDATE_LOST and its counter alone of the status unit. -/
structure AdmittedPlainly (s : State) (a : Admission) : Prop where
  reserved : a.state.eq.reserved = s.eq.reserved
  status : StatusKept [6] [4] s.su a.state.su

/-- What changes no more of the part than the queued messages. -/
theorem AdmittedPlainly.ofEntries (s : State) (entries : List Message) (admitted : Bool) :
    AdmittedPlainly s ⟨{ s with eq := { s.eq with entries := entries } }, admitted⟩ :=
  ⟨rfl, .refl _ _ _⟩

theorem admitOne_plainly (m : Message) (s : State) : AdmittedPlainly s (admitOne m s) := by
  unfold admitOne
  split
  · exact .ofEntries s (s.eq.entries ++ [m]) true
  · exact .ofEntries s s.eq.entries false

/-- A refused PITCH sets UPDATE_LOST and counts (R149). -/
theorem admitPitch_plainly (m : Message) (s : State) : AdmittedPlainly s (admitPitch m s) := by
  unfold admitPitch
  split
  · exact .ofEntries s _ true
  · split
    · exact .ofEntries s (s.eq.entries ++ [m]) true
    · exact ⟨rfl, ((cause_statusKept .updateLost s.su).mono (List.Subset.refl _) (List.nil_subset _)).trans
        ((bump_statusKept .updatesLost _).mono (List.nil_subset _) (List.Subset.refl _))⟩

/-- An injected message is admitted so, whatever its kind (R147 to R149). -/
theorem admitMessage_injected {m : Message} (injected : m.injected = true) (s : State) :
    AdmittedPlainly s (admitMessage false m s) := by
  unfold admitMessage
  split
  · exact admitOne_plainly m s
  · exact admitPitch_plainly m s
  · exact admitOne_plainly m s
  · rw [if_pos injected]
    exact admitOne_plainly m s
  · exact .ofEntries s s.eq.entries false

/-! ## What a crossing does, by the verdict its message is held to -/

/-- The part with the monitor copy that a verdict calls for placed (R134). -/
def monitorCopied (held : Verdict) (m : Message) (s : State) : State :=
  if held = .copy ∨ held = .divert then s.placeMonitor { m with monitor := true } else s

/-- ROUTE leaves the queues and the status unit as the monitor copy does (R134, R140). -/
theorem routeStage_monitorCopied (held : Verdict) (index : Option Nat) (m : Message) (s : State) :
    (routeStage held index m s).eq = (monitorCopied held m s).eq ∧ (routeStage held index m s).mq = (monitorCopied held m s).mq ∧
      (routeStage held index m s).su = (monitorCopied held m s).su := by
  simp only [routeStage_eq, routeStage_mq, routeStage_su, Verdict.copies_iff, monitorCopied]
  split
  · exact ⟨(placeMonitor_eq _ s).symm, rfl, rfl⟩
  · exact ⟨rfl, rfl, rfl⟩

/-- The course of a crossing whose message leaves its verdicts at `held`, from the part `copied` that its monitor copy leaves: the
offer, and the admission where it is offered (R130, R133, R134, R136). -/
structure CrossedAs (held : Verdict) (m : Message) (copied : State) (x : Crossing) : Prop where
  offered : x.offered = true ↔ held = .pass ∨ held = .copy
  monitor : x.state.mq = copied.mq
  admission : x.offered = true → x.admitted = (admitMessage false m copied).admitted ∧
    x.state.eq = (admitMessage false m copied).state.eq ∧ x.state.su = (admitMessage false m copied).state.su
  unoffered : x.offered = false → x.admitted = false ∧ x.state.eq = copied.eq ∧ x.state.su = copied.su

/-- A message offered at ADMIT from a part whose queues and status unit are those of `copied`. -/
theorem crossedAs_of_offered {held : Verdict} (offers : held.offers = true) (index : Option Nat) (m : Message)
    {r copied : State} (same : r.eq = copied.eq ∧ r.mq = copied.mq ∧ r.su = copied.su) (placed : Bool) :
    CrossedAs held m copied
      ⟨(admitStage false index m r).state, placed, true, (admitStage false index m r).admitted⟩ := by
  obtain ⟨eq, mq, su⟩ := same
  obtain ⟨admitted, queued, monitor⟩ := admitStage_eq false index m r
  obtain ⟨sameAdmitted, sameQueued, sameStatus⟩ := admit_congr false m eq su
  exact ⟨⟨fun _ => (Verdict.offers_iff held).mp offers, fun _ => rfl⟩, monitor.trans mq,
    fun _ => ⟨admitted.trans sameAdmitted, queued.trans sameQueued, (admitStage_su false index m r).trans sameStatus⟩,
    fun unoffered => (nomatch unoffered)⟩

/-- A message that is not offered, likewise. -/
theorem crossedAs_of_unoffered {held : Verdict} (offers : held.offers = false) (m : Message) {r copied : State}
    (same : r.eq = copied.eq ∧ r.mq = copied.mq ∧ r.su = copied.su) (placed : Bool) :
    CrossedAs held m copied ⟨r, placed, false, false⟩ := by
  obtain ⟨eq, mq, su⟩ := same
  refine ⟨⟨fun offered => (nomatch offered), fun passes => ?_⟩, mq, fun offered => (nomatch offered), fun _ => ⟨rfl, eq, su⟩⟩
  rw [(Verdict.offers_iff held).mpr passes] at offers
  cases offers

theorem crossRoute_crossedAs (verdict route : Verdict) (index : Option Nat) (m : Message) (s : State) :
    CrossedAs (verdict.higher route) m (monitorCopied (verdict.higher route) m s)
      (crossRoute verdict route false false index m s) := by
  have same := routeStage_monitorCopied (verdict.higher route) index m s
  cases offers : (verdict.higher route).offers with
  | true =>
    simp only [crossRoute, offers, Bool.not_false, and_self, if_true]
    exact crossedAs_of_offered offers index m same _
  | false =>
    simp only [crossRoute, offers, Bool.false_eq_true, false_and, if_false]
    exact crossedAs_of_unoffered offers m same _

theorem crossAdmit_crossedAs (verdict : Verdict) (index : Option Nat) (m : Message) (s : State) :
    CrossedAs verdict m s (crossAdmit verdict index m s) := by
  cases offers : verdict.offers with
  | true =>
    rw [crossAdmit, if_pos offers]
    exact crossedAs_of_offered offers index m ⟨rfl, rfl, rfl⟩ false
  | false =>
    rw [crossAdmit, if_neg (Bool.eq_false_iff.mp offers)]
    exact crossedAs_of_unoffered offers m ⟨rfl, rfl, rfl⟩ false

section

variable {held : Verdict} {m : Message} {s copied : State} {x : Crossing} (h : CrossedAs held m copied x)
  (injected : m.injected = true)

include h injected

theorem CrossedAs.reserved : x.state.eq.reserved = copied.eq.reserved := by
  cases offer : x.offered with
  | true =>
    obtain ⟨_, queued, _⟩ := h.admission offer
    rw [queued, (admitMessage_injected injected copied).reserved]
  | false =>
    obtain ⟨_, queued, _⟩ := h.unoffered offer
    rw [queued]

theorem CrossedAs.statusKept (monitored : StatusKept [7] [5] s.su copied.su) : StatusKept [6, 7] [4, 5] s.su x.state.su := by
  have placed := monitored.mono (flags' := [6, 7]) (counters' := [4, 5]) (by decide) (by decide)
  cases offer : x.offered with
  | true =>
    obtain ⟨_, _, status⟩ := h.admission offer
    rw [status]
    exact placed.trans ((admitMessage_injected injected copied).status.mono (by decide) (by decide))
  | false =>
    obtain ⟨_, _, status⟩ := h.unoffered offer
    rw [status]
    exact placed

end

/-- What touches the queues, the counter sets and the status unit alone leaves the rest of the part as it was. -/
theorem QueuesOnly.frame {s t : State} (h : QueuesOnly s t) : { t with eq := s.eq, mq := s.mq, rc := s.rc, su := s.su } = s := by
  cases s
  cases t
  obtain ⟨rfl, rfl, rfl, rfl, rfl, rfl, _, rfl, rfl, rfl, _, rfl⟩ := h
  rfl

/-! ## The words of an INJECT -/

/-- The point's code (R137). -/
def InjectPoint.code : InjectPoint → Nat
  | .map => 0
  | .route => 1
  | .atAdmit => 2

/-- The kind's code (R137). -/
def InjectKind.code : InjectKind → Nat
  | .noteStart => 0
  | .pitch => 1
  | .restrike => 2
  | .noteEnd => 3

theorem exists_injectPoint {n : Nat} (h : n ≤ 2) : ∃ point, injectPointOf n = some point ∧ n = point.code := by
  rcases n with _ | _ | _ | n
  · exact ⟨.map, rfl, rfl⟩
  · exact ⟨.route, rfl, rfl⟩
  · exact ⟨.atAdmit, rfl, rfl⟩
  · omega

theorem exists_injectKind {n : Nat} (h : n ≤ 3) : ∃ kind, injectKindOf n = some kind ∧ n = kind.code := by
  rcases n with _ | _ | _ | _ | n
  · exact ⟨.noteStart, rfl, rfl⟩
  · exact ⟨.pitch, rfl, rfl⟩
  · exact ⟨.restrike, rfl, rfl⟩
  · exact ⟨.noteEnd, rfl, rfl⟩
  · omega

theorem InjectKind.hasNote_iff (kind : InjectKind) : kind.hasNote = true ↔ kind.code ≤ 1 := by
  cases kind <;> decide

theorem InjectKind.hasVelocity_iff (kind : InjectKind) : kind.hasVelocity = true ↔ kind.code = 0 ∨ kind.code = 2 := by
  cases kind <;> decide

/-- The words of an INJECT that are looked at and clamped (R137). -/
theorem injectClamped_iff (point : InjectPoint) (kind : InjectKind) (verdict note grade velocity lane : Nat) :
    injectClamped point kind verdict note grade velocity lane = true ↔
      4 ≤ verdict ∨ (kind.code ≤ 1 ∧ 127 < note) ∨ ((kind.code = 0 ∨ kind.code = 2) ∧ point.code = 0 ∧ 59 < grade) ∨
        ((kind.code = 0 ∨ kind.code = 2) ∧ point.code ≠ 0 ∧ (velocity = 0 ∨ 127 < velocity)) ∨
        (point.code ≠ 0 ∧ 15 < lane) := by
  have atMap : point = .map ↔ point.code = 0 := by cases point <;> decide
  simp only [injectClamped, usesGrade, usesVelocity, usesLane, Bool.or_eq_true, Bool.and_eq_true, decide_eq_true_eq,
    InjectKind.hasNote_iff, InjectKind.hasVelocity_iff, ne_eq, atMap, or_assoc, and_assoc]

/-! ## The reply -/

/-- REFUSED FULL, with QUEUE_FULL, where the event copy was offered and refused (R138). -/
theorem injectReply_refused (clamped : Bool) {x : Crossing} (offered : x.offered = true) (refused : x.admitted = false) :
    injectReply clamped x =
      ⟨{ x.state with su := { x.state.su with flags := flagsAfter 11 x.state.su } }, .refused .full, []⟩ := by
  simp [injectReply, offered, refused, State.causeFlag, StatusUnit.cause_eq, Flag.bit]

theorem injectReply_carriedOut (clamped : Bool) {x : Crossing} (h : x.offered = false ∨ x.admitted = true) :
    injectReply clamped x = carriedOut clamped x.state := by
  rcases h with h | h <;> simp [injectReply, h]

/-! ## The whole course of an INJECT -/

theorem monitorCopied_eq (held : Verdict) (m : Message) (s : State) : (monitorCopied held m s).eq = s.eq := by
  unfold monitorCopied
  split
  · exact placeMonitor_eq _ s
  · rfl

theorem monitorCopied_statusKept (held : Verdict) (m : Message) (s : State) :
    StatusKept [7] [5] s.su (monitorCopied held m s).su := by
  unfold monitorCopied
  split
  · exact placeMonitor_statusKept _ s
  · exact .refl _ _ _

/-- The keys of a message injected at MAP, with the grid position of its note written out (R128). -/
theorem injectedKeys_eq (b : StringBlock) (j : Injection) :
    let inGrid := fun g : Grid => g.base ≤ j.note ∧ j.note < g.base + g.entries.length
    let position := b.grid.bind fun g => if inGrid g then some ((j.string.number - 1) * 40 + (j.note - g.base)) else none
    injectedKeys b j = ⟨if j.kind.hasNote then some j.note else none, if j.kind.hasVelocity then some j.grade else none,
      if j.kind.hasNote then position else none⟩ := by
  intro inGrid position
  have position_eq : (injectedPosition b.grid j.note).map (positionKey j.string) = position := by
    simp only [injectedPosition, position]
    cases b.grid with
    | none => rfl
    | some g =>
      simp only [Option.bind_some, inGrid]
      split <;> rfl
  rw [injectedKeys, position_eq]

/-- The counter index of an injected message with the bank's bases written out (R115, R128, R138). -/
theorem injectedIndex_eq (b : StringBlock) (bankB : Bool) :
    let a := b.action
    let alternate := (a.bankSelect = .altOnB ∧ bankB = true) ∨ (a.bankSelect = .altOnA ∧ bankB = false)
    let countBase := if alternate then a.altCountBase else a.countBase
    injectedIndex b bankB =
      if countBase = 0 ∨ 128 ≤ countBase + a.injectedOffset then none else some (countBase + a.injectedOffset) := by
  intro a alternate countBase
  have base : a.countBaseInUse bankB = countBase := if_congr (a.bankSelect.usesAlternate_iff bankB) rfl rfl
  rw [injectedIndex, base, counterIndex]

/-- INJECT executed at once (R137, R138). -/
theorem exec_inject {point kind : Payload} {pt : InjectPoint} {kd : InjectKind} (hpoint : injectPointOf point.toNat = some pt)
    (hkind : injectKindOf kind.toNat = some kd) (i : StringNo) (verdict note bend grade velocity lane : Payload) {s : State}
    (atOnce : executesAtOnce s) :
    let x := crossInjected pt ⟨kd, i, .ofCode verdict.toNat, min 127 note.toNat, bend.toInt, min 59 grade.toNat,
      max 1 (min 127 velocity.toNat), min 15 lane.toNat⟩ s
    let r := injectReply (injectClamped pt kd verdict.toNat note.toNat grade.toNat velocity.toNat lane.toNat) x
    exec (.inject [point, kind, stringWord i, verdict, note, bend, grade, velocity, lane]) s =
      .next (replied .inject r.reply r.state) := by
  intro x r
  refine exec_replies (c := .inject) atOnce (by simp) rfl ?_
  simp only [Command.run, runInject, hpoint, hkind, withString_stringWord, clamp_zero_le, clamp_eq (show 1 ≤ 127 by decide)]
  change r = _
  simp only [r, injectReply]
  split <;> rfl

/-- Settles O54. -/
theorem injectCommand : Obligations.InjectCommand := by
  intro i point kind verdict note bend grade velocity lane s atOnce hpoint hkind b a bankB alternate mapBase countBase index noted
    stroked v n grade' velocity' lane' span bend' inGrid position keys body mapped plain x clamped sent message held copied
    admission
  obtain ⟨pt, pointOf, pointCode⟩ := exists_injectPoint hpoint
  obtain ⟨kd, kindOf, kindCode⟩ := exists_injectKind hkind
  let j : Injection := ⟨kd, i, v, n, bend.toInt, grade', velocity', lane'⟩
  have hasNote : kd.hasNote = true ↔ noted := by rw [InjectKind.hasNote_iff, ← kindCode]
  have hasVelocity : kd.hasVelocity = true ↔ stroked := by rw [InjectKind.hasVelocity_iff, ← kindCode]
  have clampedEq : injectClamped pt kd verdict.toNat note.toNat grade.toNat velocity.toNat lane.toNat = decide clamped := by
    rw [Bool.eq_iff_iff, injectClamped_iff, decide_eq_true_iff, ← kindCode, ← pointCode]
  have bodyEq (n velocity : Nat) : injectedBody b j n velocity = body n velocity := by
    simp only [injectedBody, clampBend_eq, body, kindCode, j]
    cases kd <;> rfl
  have keysEq : injectedKeys b j = keys := by
    refine (injectedKeys_eq b j).trans ?_
    simp only [keys, ← hasNote, ← hasVelocity]
    rfl
  have mapBaseEq : a.mapBaseInUse bankB = mapBase := if_congr (a.bankSelect.usesAlternate_iff bankB) rfl rfl
  have mappedEq : mapInjected s.tables b bankB j = mapped := by
    simp only [mapInjected, bodyEq, keysEq, velocityField_eq]
    rw [mapBaseEq]
    rfl
  have plainEq : plainInjected b j = plain := by
    simp only [plainInjected, bodyEq]
    rfl
  have indexEq : injectedIndex b bankB = index := injectedIndex_eq b bankB
  have crossing : crossInjected pt j s = x := by
    simp only [x, pointCode, ← mappedEq, ← plainEq, ← indexEq]
    cases pt <;> rfl
  have course : sent = .next (replied .inject (injectReply (decide clamped) x).reply (injectReply (decide clamped) x).state) := by
    rw [← clampedEq, ← crossing]
    exact exec_inject pointOf kindOf i verdict note bend grade velocity lane atOnce
  have injected : message.injected = true := by
    simp only [message]
    split <;> rfl
  have placed : copied = if point.toNat ≤ 1 then monitorCopied held message s else s := ite_and ..
  have crossed : CrossedAs held message copied x := by
    rw [placed, ← crossing]
    simp only [held, message, pointCode, ← mappedEq, ← plainEq]
    cases pt with
    | map => exact crossRoute_crossedAs v a.route _ _ s
    | route => exact crossRoute_crossedAs v a.route _ _ s
    | atAdmit => exact crossAdmit_crossedAs v _ _ s
  have copiedEq : copied.eq = s.eq := by
    rw [placed]
    split
    · exact monitorCopied_eq held message s
    · rfl
  have copiedStatus : StatusKept [7] [5] s.su copied.su := by
    rw [placed]
    split
    · exact monitorCopied_statusKept held message s
    · exact .refl _ _ _
  refine ⟨crossed.offered, crossed.monitor, crossed.admission, fun unoffered => ?unoffered, fun offered refused => ?refused,
    fun h => ?carriedOut, ?frame, (crossed.reserved injected).trans (congrArg _ copiedEq), crossed.statusKept injected copiedStatus⟩
  case unoffered =>
    obtain ⟨admitted, queued, status⟩ := crossed.unoffered unoffered
    exact ⟨admitted, queued.trans copiedEq, status⟩
  case refused => rw [course, injectReply_refused _ offered refused]
  case carriedOut => rw [course, injectReply_carriedOut _ h, carriedOut_eq]
  case frame =>
    rw [← crossing]
    exact (crossInjected_queuesOnly pt j s).frame

end Sys2Proof.Machine
end

section
/-!
PROOFS. Verdicts at ROUTE and ADMIT (O20), and the counter sets by the count point (O21).
-/

namespace Sys2Proof.Machine

open Sys2Proof.Safety

/-! ## The two courses of a crossing -/

/-- The higher of two verdicts is one of them (R131). -/
theorem Verdict.higher_eq (v w : Verdict) : v.higher w = v ∨ v.higher w = w := by
  unfold Verdict.higher
  split
  · exact .inr rfl
  · exact .inl rfl

/-- A message that leaves ROUTE at PASS or COPY and is not withheld is offered at ADMIT (R133). -/
theorem crossRoute_of_passes {v route : Verdict} (offers : (v.higher route).offers = true) (reserves : Bool)
    (index : Option Nat) (m : Message) (s : State) :
    let a := admitStage reserves index m (routeStage (v.higher route) index m s)
    crossRoute v route false reserves index m s = ⟨a.state, (v.higher route).copies, true, a.admitted⟩ := by
  simp [crossRoute, offers]

/-- The crossing of any other message ends after ROUTE (R133, R135). -/
theorem crossRoute_of_stops {v route : Verdict} {withheld : Bool} (stops : (v.higher route).offers = false ∨ withheld = true)
    (reserves : Bool) (index : Option Nat) (m : Message) (s : State) :
    crossRoute v route withheld reserves index m s =
      ⟨routeStage (v.higher route) index m s, (v.higher route).copies, false, false⟩ := by
  rcases stops with h | h <;> simp [crossRoute, h]

/-- Every message takes one of the two courses. -/
theorem passes_or_stops (held : Verdict) (withheld : Bool) :
    (held.offers = true ∧ withheld = false) ∨ (held.offers = false ∨ withheld = true) := by
  cases held.offers <;> cases withheld <;> simp

/-! ## Verdicts -/

/-- An offered copy meets the admission rules after its monitor copy is placed (R134, R136). -/
theorem admitStage_routeStage (held : Verdict) (reserves : Bool) (index : Option Nat) (m : Message) (s : State) :
    let a := admitStage reserves index m (routeStage held index m s)
    let b := admitMessage reserves m (monitorCopied held m s)
    a.admitted = b.admitted ∧ a.state.eq = b.state.eq ∧ a.state.su = b.state.su := by
  intro a b
  obtain ⟨eq, _, su⟩ := routeStage_monitorCopied held index m s
  obtain ⟨admitted, queued, _⟩ := admitStage_eq reserves index m (routeStage held index m s)
  obtain ⟨sameAdmitted, sameQueued, sameStatus⟩ := admit_congr reserves m eq su
  exact ⟨admitted.trans sameAdmitted, queued.trans sameQueued, (admitStage_su reserves index m _).trans sameStatus⟩

/-- A crossing reports a monitor copy by the verdict held at ROUTE alone, the offer by it and the withholding (R133 to R135). -/
theorem crossRoute_reports (v route : Verdict) (withheld reserves : Bool) (index : Option Nat) (m : Message) (s : State) :
    let x := crossRoute v route withheld reserves index m s
    x.copied = (v.higher route).copies ∧ (x.offered = true ↔ (v.higher route).offers = true ∧ withheld = false) := by
  intro x
  rcases passes_or_stops (v.higher route) withheld with ⟨offers, rfl⟩ | stops
  · simp [x, crossRoute_of_passes offers, offers]
  · have unoffered : ¬((v.higher route).offers = true ∧ withheld = false) := by rcases stops with h | h <;> simp [h]
    simp [x, crossRoute_of_stops stops, unoffered]

/-- What a crossing leaves in the queues and the status unit: what its monitor copy leaves there, and then, where it is offered,
its admission (R133 to R136). -/
theorem crossRoute_leaves (v route : Verdict) (withheld reserves : Bool) (index : Option Nat) (m : Message) (s : State) :
    let x := crossRoute v route withheld reserves index m s
    let copied := monitorCopied (v.higher route) m s
    let a := admitMessage reserves m copied
    x.state.mq = copied.mq ∧
    (x.offered = false → x.admitted = false ∧ x.state.eq = s.eq ∧ x.state.su = copied.su) ∧
    (x.offered = true → x.admitted = a.admitted ∧ x.state.eq = a.state.eq ∧ x.state.su = a.state.su) := by
  intro x copied a
  obtain ⟨eq, mq, su⟩ := routeStage_monitorCopied (v.higher route) index m s
  rcases passes_or_stops (v.higher route) withheld with ⟨offers, rfl⟩ | stops
  · have crossed : x = _ := crossRoute_of_passes offers reserves index m s
    obtain ⟨_, _, monitor⟩ := admitStage_eq reserves index m (routeStage (v.higher route) index m s)
    rw [crossed]
    exact ⟨monitor.trans mq, fun unoffered => (nomatch unoffered), fun _ => admitStage_routeStage _ reserves index m s⟩
  · have crossed : x = _ := crossRoute_of_stops stops reserves index m s
    rw [crossed]
    exact ⟨mq, fun _ => ⟨rfl, routeStage_eq _ index m s, su⟩, fun offered => (nomatch offered)⟩

/-- A message injected at ADMIT that is not offered leaves the part as it was, and none places a monitor copy (R138). -/
theorem crossAdmit_unoffered (v : Verdict) (index : Option Nat) (m : Message) (s : State) :
    (crossAdmit v index m s).copied = false ∧
      ((crossAdmit v index m s).offered = false → (crossAdmit v index m s).state = s) := by
  unfold crossAdmit
  split <;> simp

/-- Settles O20. -/
theorem verdictsNeverFall : Obligations.VerdictsNeverFall := by
  refine ⟨by decide, fun v w => ⟨v.higher_eq w, v.rank_le_higher_left w, v.rank_le_higher_right w⟩,
    fun v => ⟨v.copies_iff, v.offers_iff⟩, fun v route withheld reserves index m s => ?_⟩
  obtain ⟨copies, offers⟩ := crossRoute_reports v route withheld reserves index m s
  obtain ⟨monitor, unoffered, offered⟩ := crossRoute_leaves v route withheld reserves index m s
  obtain ⟨uncopied, untouched⟩ := crossAdmit_unoffered v index m s
  have injected := crossAdmit_crossedAs v index m s
  exact ⟨by rw [copies, Verdict.copies_iff], by rw [offers, Verdict.offers_iff], monitor, unoffered, offered,
    (crossRoute_queuesOnly v route withheld reserves index m s).frame, uncopied, injected.monitor, injected.offered,
    fun h => ⟨(injected.unoffered h).1, untouched h⟩, injected.admission⟩

/-! ## Counting -/

/-- Counting at one set changes that set alone; a vector without the set stays as it is (R139). -/
theorem getElem?_countAt (k : Nat) (isStart : Bool) (sets : Vector CounterSet 128) (n : Nat) :
    (countAt k isStart sets)[n]? = if n = k then sets[n]?.map (CounterSet.count isStart) else sets[n]? := by
  unfold countAt
  by_cases same : n = k
  · subst same
    by_cases bound : n < 128 <;> simp [bound]
  · rw [if_neg same, Vector.getElem?_setIfInBounds_ne (Ne.symm same)]

/-- A message with an index is counted at the set of its index and at set 0, once at each (R139). -/
theorem countMessage_sets {k : Nat} (positive : 1 ≤ k) (m : Message) (s : State) (n : Nat) :
    (s.countMessage (some k) m).rc.sets[n]? =
      if n = 0 ∨ n = k then s.rc.sets[n]?.map (CounterSet.count m.isStart) else s.rc.sets[n]? := by
  simp only [State.countMessage, getElem?_countAt]
  by_cases total : n = 0
  · have other : 0 ≠ k := by omega
    simp [total, other]
  · simp [total]

/-- Counting reads no more of the part than the counter sets. -/
theorem countMessage_rc_congr (index : Option Nat) (m : Message) {s t : State} (same : s.rc = t.rc) :
    (s.countMessage index m).rc = (t.countMessage index m).rc := by
  cases index with
  | none => exact same
  | some k => simp only [State.countMessage, same]

/-- ROUTE counts a message that leaves it at PASS or COPY, if it is the count point (R140). -/
theorem routeStage_rc (v : Verdict) (index : Option Nat) (m : Message) (s : State) :
    (routeStage v index m s).rc =
      if v.offers = true ∧ s.rc.countPoint = .route then (s.countMessage index m).rc else s.rc := by
  have copied : (if v.copies then s.placeMonitor { m with monitor := true } else s).rc = s.rc := by
    split
    · exact placeMonitor_rc _ s
    · rfl
  unfold routeStage
  simp only [copied]
  split
  · exact countMessage_rc_congr index m copied
  · exact copied

/-- ADMIT counts a message that it admits, if it is the count point (R141). -/
theorem admitStage_rc (reserves : Bool) (index : Option Nat) (m : Message) (s : State) :
    (admitStage reserves index m s).state.rc =
      if s.rc.countPoint = .atAdmit ∧ (admitStage reserves index m s).admitted = true then (s.countMessage index m).rc
      else s.rc := by
  rw [(admitStage_eq reserves index m s).1]
  unfold admitStage
  simp only [admit_rc, and_comm (a := s.rc.countPoint = .atAdmit)]
  split
  · exact countMessage_rc_congr index m (admit_rc reserves m s)
  · exact admit_rc reserves m s

/-- A crossing counts its message at ROUTE or at ADMIT, and so once at most (R140, R141). -/
theorem crossRoute_rc (v route : Verdict) (withheld reserves : Bool) (index : Option Nat) (m : Message) (s : State) :
    let x := crossRoute v route withheld reserves index m s
    x.state.rc =
      if (s.rc.countPoint = .route ∧ (v.higher route = .pass ∨ v.higher route = .copy)) ∨
        (s.rc.countPoint = .atAdmit ∧ x.admitted = true) then (s.countMessage index m).rc else s.rc := by
  intro x
  have routed := routeStage_rc (v.higher route) index m s
  simp only [← Verdict.offers_iff]
  rcases passes_or_stops (v.higher route) withheld with ⟨offers, rfl⟩ | stops
  · have crossed : x = _ := crossRoute_of_passes offers reserves index m s
    have admitted := admitStage_rc reserves index m (routeStage (v.higher route) index m s)
    rw [crossed]
    rw [(routeStage_queuesOnly (v.higher route) index m s).countPoint] at admitted
    cases point : s.rc.countPoint with
    | route => simpa [point, offers, routed] using admitted
    | atAdmit =>
      have uncounted : (routeStage (v.higher route) index m s).rc = s.rc := by simpa [point] using routed
      rw [countMessage_rc_congr index m uncounted, uncounted] at admitted
      simpa [point] using admitted
  · have crossed : x = _ := crossRoute_of_stops stops reserves index m s
    rw [crossed]
    simpa [and_comm] using routed

/-- A message injected at ADMIT is counted there or not at all (R140, R141). -/
theorem crossAdmit_rc (v : Verdict) (index : Option Nat) (m : Message) (s : State) :
    let y := crossAdmit v index m s
    y.state.rc = if s.rc.countPoint = .atAdmit ∧ y.admitted = true then (s.countMessage index m).rc else s.rc := by
  intro y
  cases offers : v.offers with
  | true =>
    have crossed : y = ⟨(admitStage false index m s).state, false, true, (admitStage false index m s).admitted⟩ :=
      if_pos offers
    rw [crossed]
    exact admitStage_rc false index m s
  | false =>
    have crossed : y = ⟨s, false, false, false⟩ := if_neg (Bool.eq_false_iff.mp offers)
    simp [crossed]

/-- The sets after a crossing that counts its message under a condition and leaves them otherwise. -/
theorem sets_of_counted {counted : Prop} [Decidable counted] {k : Nat} (positive : 1 ≤ k) {m : Message} {s : State} {rc : Rc}
    (h : rc = if counted then (s.countMessage (some k) m).rc else s.rc) (n : Nat) :
    rc.sets[n]? =
      if counted ∧ (n = 0 ∨ n = k) then s.rc.sets[n]?.map (CounterSet.count m.isStart) else s.rc.sets[n]? := by
  rw [h, ite_and]
  split
  · exact countMessage_sets positive m s n
  · rfl

/-- Settles O21. -/
theorem countingAtTheCountPoint : Obligations.CountingAtTheCountPoint := by
  intro v route withheld reserves m s grown held
  refine ⟨fun k positive _ => ?crossed, ?unindexed, fun k positive _ => ?injected⟩
  case crossed => exact fun n _ => sets_of_counted positive (crossRoute_rc v route withheld reserves (some k) m s) n
  case unindexed => exact (crossRoute_rc v route withheld reserves none m s).trans (ite_self _)
  case injected => exact fun n _ => sets_of_counted positive (crossAdmit_rc v (some k) m s) n

end Sys2Proof.Machine
end

section
/-!
PROOFS. What the events of the strings leave of the monitor queue's bound, of the records that wait for a reply slot and of a held
command: the ticks, the frame arrivals, the pickup teardown and the pickup link's slots (for O7).
-/

namespace Sys2Proof.Machine

open Sys2Proof.Safety

/-! ## The bound of the monitor queue -/

/-- An event that does not take the monitor queue past its 16 messages (R154). -/
def MonitorBounded (s t : State) : Prop := s.mq.length ≤ 16 → t.mq.length ≤ 16

theorem MonitorBounded.refl (s : State) : MonitorBounded s s := id

theorem MonitorBounded.trans {s t u : State} (h : MonitorBounded s t) (k : MonitorBounded t u) : MonitorBounded s u := k ∘ h

theorem MonitorBounded.of_mq {s t : State} (h : t.mq = s.mq) : MonitorBounded s t := by
  unfold MonitorBounded
  rw [h]
  exact id

/-- A crossing places one monitor copy at most (R134). -/
theorem crossRoute_monitor (verdict route : Verdict) (withheld reserves : Bool) (index : Option Nat) (m : Message) (s : State) :
    MonitorBounded s (crossRoute verdict route withheld reserves index m s).state := by
  intro h
  rw [(crossRoute_leaves verdict route withheld reserves index m s).1, monitorCopied]
  split
  · exact placeMonitor_bound _ s h
  · exact h

theorem crossTracker_monitor (i : StringNo) (c : NoteContext) (withheld : Bool) (m : TrackerMessage) (s : State) :
    MonitorBounded s (crossTracker i c withheld m s).state :=
  crossRoute_monitor _ _ _ _ _ _ s

section

variable (i : StringNo) (s : State)

theorem offerStart_monitor (cause : StartCause) : MonitorBounded s (offerStart i cause s) := by
  unfold offerStart
  split
  · exact .refl s
  · simp only
    split <;> exact crossTracker_monitor i _ _ _ s

theorem laterMessage_monitor (m : TrackerMessage) : MonitorBounded s (laterMessage i m s).state := by
  unfold laterMessage
  split
  · exact .refl s
  · split
    · exact crossTracker_monitor i _ _ _ s
    · exact .refl s

theorem buildPitch_monitor (cause : PitchCause) : MonitorBounded s (buildPitch i cause s) := by
  unfold buildPitch
  split
  · exact .refl s
  · simp only
    split
    · split <;> exact laterMessage_monitor i s _
    · exact .refl s

theorem endNote_monitor (cause : EndCause) : MonitorBounded s (endNote i cause s) := by
  unfold endNote
  split
  · exact .refl s
  · simp only
    split
    · exact laterMessage_monitor i s _
    · exact .refl s

theorem startNote_monitor (pv : Nat) (cause : StartCause) (grade peak : Nat) (early : Bool) :
    MonitorBounded s (startNote i pv cause grade peak early s) :=
  MonitorBounded.trans (t := storeLane i cause (s.modifyString i _)) (.of_mq rfl) (offerStart_monitor i _ cause)

theorem fallInSounding_monitor : MonitorBounded s (fallInSounding i s) := by
  unfold fallInSounding
  simp only
  split
  · exact .refl s
  · exact endNote_monitor i s _

theorem restrikeNote_monitor : MonitorBounded s (restrikeNote i s) := by
  unfold restrikeNote
  split
  · exact .refl s
  · split
    · split
      · exact laterMessage_monitor i s _
      · exact offerStart_monitor i (s.modifyContext i _) _
    · exact .refl s

theorem takeEdge_monitor (edge : Edge) : MonitorBounded s (takeEdge i edge s) := by
  unfold takeEdge
  split
  · exact .of_mq rfl
  · exact .of_mq rfl
  · exact fallInSounding_monitor i s
  · exact .of_mq rfl
  · exact restrikeNote_monitor i s
  · exact restrikeNote_monitor i (backToSounding i s)
  · exact .refl s

theorem clearEarly_monitor (pv note : Nat) : MonitorBounded s (clearEarly i pv note s) := by
  unfold clearEarly
  simp only
  split
  · exact .of_mq rfl
  · exact buildPitch_monitor i (s.modifyContext i _) _

theorem changeNote_monitor (mode : LegatoMode) (pv : Nat) : MonitorBounded s (changeNote i mode pv s) := by
  cases mode with
  | glide => exact buildPitch_monitor i (s.modifyContext i _) _
  | split => exact (endNote_monitor i (s.modifyContext i _) _).trans (startNote_monitor i _ _ _ _ _ _)

theorem jumpReturns_mq (o : LockOutcome) : (jumpReturns i o s).mq = s.mq := by
  unfold jumpReturns
  split <;> rfl

theorem noteRange_mq (o : GridOutcome) : (noteRange o s).mq = s.mq := by
  cases o <;> rfl

theorem pitchOutcome_monitor (o : LockOutcome) (pv : Nat) (c : NoteContext) : MonitorBounded s (pitchOutcome i o pv c s) := by
  unfold pitchOutcome
  split
  · exact MonitorBounded.trans (.of_mq (jumpReturns_mq i s o)) (clearEarly_monitor i _ pv _)
  · split
    · exact changeNote_monitor i (backToSounding i s) _ pv
    · exact .of_mq (jumpReturns_mq i s o)

theorem takePitch_monitor (o : LockOutcome) (found : GridOutcome × Nat) : MonitorBounded s (takePitch i o found s) := by
  unfold takePitch
  split
  · split
    · exact startNote_monitor i s _ _ _ _ _
    · exact .refl s
  · exact pitchOutcome_monitor i s o _ _
  · exact pitchOutcome_monitor i s o _ _
  · exact .refl s

/-- A locking outcome's TUNE enters the monitor queue after the messages it built (R87, R155). -/
theorem takeLocking_monitor (o : LockOutcome) (a : Nat) : MonitorBounded s (takeLocking i o a s) := by
  have taken (found : GridOutcome × Nat) : MonitorBounded s (takePitch i o found (noteRange found.1 s)) :=
    MonitorBounded.trans (.of_mq (noteRange_mq s found.1)) (takePitch_monitor i _ o found)
  unfold takeLocking
  simp only
  split
  · exact .refl s
  · split
    · split
      · exact (taken _).trans fun h => placeMonitor_bound _ _ h
      · exact taken _
    · exact .refl s

theorem takeOutcome_monitor (o : LockOutcome) (accepted : Option Nat) : MonitorBounded s (takeOutcome i o accepted s) := by
  unfold takeOutcome
  split
  · split
    · exact .of_mq rfl
    · exact .refl s
  · split
    · exact takeLocking_monitor i s o _
    · exact .refl s
  · exact .refl s

theorem takeEarlyPoint_monitor : MonitorBounded s (takeEarlyPoint i s) := by
  have noted (outside : Bool) : (if outside then s.causeFlag .range else s).mq = s.mq := by cases outside <;> rfl
  unfold takeEarlyPoint
  simp only
  split
  · split
    · exact MonitorBounded.trans (.of_mq (noted _)) (startNote_monitor i _ _ _ _ _ _)
    · exact .of_mq (noted _)
  · exact .refl s

theorem takeGiveUp_monitor : MonitorBounded s (takeGiveUp i s) := by
  unfold takeGiveUp
  simp only
  split <;> exact .of_mq rfl

theorem takeReleaseExpiry_monitor : MonitorBounded s (takeReleaseExpiry i s) := by
  unfold takeReleaseExpiry
  split
  · exact endNote_monitor i s _
  · exact .refl s

theorem takeUpdateExpiry_monitor : MonitorBounded s (takeUpdateExpiry i s) := by
  unfold takeUpdateExpiry
  split
  · exact buildPitch_monitor i s _
  · exact .refl s

theorem offString_monitor : MonitorBounded s (offString i s) := by
  unfold offString
  split
  · exact endNote_monitor i s _
  · exact endNote_monitor i s _
  · exact .of_mq rfl
  · exact .of_mq rfl
  · exact .refl s

theorem panicString_monitor : MonitorBounded s (panicString i s) := by
  unfold panicString
  split
  · exact endNote_monitor i s _
  · exact endNote_monitor i s _
  · exact .of_mq rfl
  · exact .refl s
  · exact .refl s

theorem onString_monitor : MonitorBounded s (onString i s) := by
  unfold onString
  split
  · exact .of_mq rfl
  · exact .refl s

end

/-! ## The producers of replies -/

/-- The reply queue is untouched, no command is newly held, no record newly WAITING but those of a list of strings, and the monitor
queue stays within its bound. -/
structure AddsWaiters (added : List StringNo) (s t : State) : Prop where
  rq : t.rq = s.rq
  held : ∀ b, t.cu = .held b → s.cu = .held b
  waiting : ∀ i, i ∉ added → (t.string i).record.state = .waiting → (s.string i).record.state = .waiting
  monitor : MonitorBounded s t

theorem AddsWaiters.refl (added : List StringNo) (s : State) : AddsWaiters added s s := ⟨rfl, fun _ => id, fun _ _ => id, .refl s⟩

theorem AddsWaiters.trans {added : List StringNo} {s t u : State} (h : AddsWaiters added s t) (k : AddsWaiters added t u) :
    AddsWaiters added s u :=
  ⟨k.rq.trans h.rq, fun b hb => h.held b (k.held b hb), fun i hi hw => h.waiting i hi (k.waiting i hi hw),
    h.monitor.trans k.monitor⟩

/-- What touches neither the strings nor the queues nor the command unit. -/
theorem AddsWaiters.ofSame {added : List StringNo} {s t : State} (strings : t.strings = s.strings) (rq : t.rq = s.rq)
    (mq : t.mq = s.mq) (cu : t.cu = s.cu) : AddsWaiters added s t :=
  ⟨rq, fun b hb => by rwa [cu] at hb, fun i _ hw => by rwa [State.string, strings] at hw, .of_mq mq⟩

/-- A change of one string: its record alone may come to wait. -/
theorem AddsWaiters.modifyString (added : List StringNo) (i : StringNo) (f : StringBlock → StringBlock) (s : State)
    (h : i ∉ added → (f (s.string i)).record.state = .waiting → (s.string i).record.state = .waiting) :
    AddsWaiters added s (s.modifyString i f) := by
  refine ⟨rfl, fun _ => id, fun j hj hw => ?_, .of_mq rfl⟩
  rcases eq_or_ne j i with rfl | hji
  · rw [State.modifyString_string] at hw
    exact h hj hw
  · rwa [State.modifyString_string_other f s hji] at hw

/-- A change of every string that leaves the records' states as they stand. -/
theorem AddsWaiters.modifyAll (added : List StringNo) (f : StringBlock → StringBlock) (s : State)
    (h : ∀ b, (f b).record = b.record) : AddsWaiters added s (s.modifyAll f) :=
  ⟨rfl, fun _ => id, fun i _ hw => by rwa [State.modifyAll_string, h] at hw, .of_mq rfl⟩

/-- An event of a tracker touches no record, the reply queue and the command unit as little. -/
theorem OneTracker.addsWaiters {i : StringNo} {s t : State} (h : OneTracker i s t) (monitor : MonitorBounded s t)
    (added : List StringNo) : AddsWaiters added s t where
  rq := h.rq
  held b hb := by rwa [h.cu] at hb
  waiting j _ hw := by
    rcases eq_or_ne j i with rfl | hj
    · rwa [h.record] at hw
    · rwa [h.others j hj] at hw
  monitor := monitor

theorem forStrings_addsWaiters {added : List StringNo} {event : StringNo → State → State}
    (h : ∀ i s, AddsWaiters added s (event i s)) (strings : List StringNo) (s : State) :
    AddsWaiters added s (forStrings strings event s) :=
  forStrings_relates (AddsWaiters.refl added) (fun _ _ _ => .trans) event h strings s

/-- The reply queue, within its 8 slots, is full while a record waits or a command is held, the records of some strings excepted,
which have yet to seek their slot; and the monitor queue stays within its bound (R154, R156, R157, R167). -/
structure SlotsFilled (seeking : List StringNo) (s : State) : Prop where
  bound : s.rq.length ≤ 8
  waiting : ∀ i, i ∉ seeking → (s.string i).record.state = .waiting → s.rq.length = 8
  held : ∀ b, s.cu = .held b → s.rq.length = 8
  monitor : s.mq.length ≤ 16

theorem slotsFilled_iff (s : State) : SlotsFilled [] s ↔ WaitersFindNoSlot s ∧ QueueBounds s :=
  ⟨fun h => ⟨⟨h.bound, fun i => h.waiting i List.not_mem_nil, h.held⟩, ⟨h.monitor, h.bound⟩⟩,
    fun ⟨slots, bounds⟩ => ⟨slots.bound, fun i _ => slots.waiting i, slots.held, bounds.monitor⟩⟩

theorem SlotsFilled.adds {added : List StringNo} {s t : State} (h : SlotsFilled [] s) (k : AddsWaiters added s t) :
    SlotsFilled added t where
  bound := by rw [k.rq]; exact h.bound
  waiting i hi hw := by rw [k.rq]; exact h.waiting i List.not_mem_nil (k.waiting i hi hw)
  held b hb := by rw [k.rq]; exact h.held b (k.held b hb)
  monitor := k.monitor h.monitor

theorem SlotsFilled.same {s t : State} (h : SlotsFilled [] s) (strings : t.strings = s.strings) (rq : t.rq = s.rq)
    (mq : t.mq = s.mq) (cu : t.cu = s.cu) : SlotsFilled [] t :=
  h.adds (.ofSame strings rq mq cu)

/-- A full reply queue takes no RESULT (R189). -/
theorem seekSlot_full (i : StringNo) (s : State) (h : s.rq.length = 8) : (seekSlot i s).rq.length = 8 := by
  rw [seekSlot_stays i s (.inr h.ge)]
  exact h

/-- A record that has sought its slot waits only where none is left (R189). -/
theorem SlotsFilled.seekSlot {i : StringNo} {seeking : List StringNo} {s : State} (h : SlotsFilled (i :: seeking) s) :
    SlotsFilled seeking (seekSlot i s) where
  bound := seekSlot_bound i s h.bound
  waiting j hj hw := by
    rcases eq_or_ne j i with rfl | hji
    · exact le_antisymm (seekSlot_bound j s h.bound) (seekSlot_waits j s hw)
    · rw [(seekSlot_touches i s).others j hji] at hw
      exact seekSlot_full i s (h.waiting j (by simp [hji, hj]) hw)
  held b hb := by
    rw [(seekSlot_touches i s).cu] at hb
    exact seekSlot_full i s (h.held b hb)
  monitor := by
    rw [(seekSlot_touches i s).mq]
    exact h.monitor

theorem SlotsFilled.forStrings_seekSlot {seeking : List StringNo} {s : State} (h : SlotsFilled seeking s) :
    SlotsFilled [] (forStrings seeking Machine.seekSlot s) := by
  induction seeking generalizing s with
  | nil => exact h
  | cons i rest ih => exact ih h.seekSlot

section

variable {s : State} (h : SlotsFilled [] s)

include h

/-! ## Measurement records -/

theorem SlotsFilled.endMeasurement (i : StringNo) (o : MeasureOutcome) : SlotsFilled [] (endMeasurement i o s) :=
  (h.adds (.modifyString [i] i _ s fun hi => absurd List.mem_cons_self hi)).seekSlot

/-- A change that leaves a RUNNING record RUNNING. -/
theorem SlotsFilled.modifyRunning {i : StringNo} (running : (s.string i).record.state = .running)
    {f : Measurement → Measurement} (state : ∀ r, (f r).state = r.state) : SlotsFilled [] (s.modifyRecord i f) :=
  h.adds (.modifyString [] i _ s fun _ hw => by rw [state, running] at hw; cases hw)

theorem recordPeriod_slots (i : StringNo) (p : Nat) : SlotsFilled [] (recordPeriod i p s) := by
  unfold recordPeriod
  simp only
  split
  · next running =>
    have added := h.modifyRunning running (f := (·.add p)) fun _ => rfl
    split
    · exact added.endMeasurement i _
    · exact added
  · exact h

theorem recordTick_slots (i : StringNo) : SlotsFilled [] (recordTick i s) := by
  unfold recordTick
  simp only
  split
  · next running =>
    have counted := h.modifyRunning running (f := fun k => { k with elapsed := k.elapsed + 1 }) fun _ => rfl
    split
    · exact counted.endMeasurement i _
    · exact counted
  · exact h

theorem abortAndSeek_slots (i : StringNo) : SlotsFilled [] (abortAndSeek i s) := by
  have aborted : AddsWaiters [i] s (abortRecord i s) := by
    unfold abortRecord
    split
    · exact .modifyString [i] i _ s fun hi => absurd List.mem_cons_self hi
    · exact .refl _ s
  exact (h.adds aborted).seekSlot

/-! ## Ticks -/

theorem SlotsFilled.modifyTicked (i : StringNo) (f : TickTaken → TickTaken) : SlotsFilled [] (s.modifyTicked i f) :=
  h.adds (.modifyString [] i _ s fun _ => id)

theorem SlotsFilled.modifyTimers (i : StringNo) (f : Timers → Timers) : SlotsFilled [] (s.modifyTimers i f) :=
  h.adds (.modifyString [] i _ s fun _ => id)

theorem SlotsFilled.oneTracker {i : StringNo} {t : State} (event : OneTracker i s t) (monitor : MonitorBounded s t) :
    SlotsFilled [] t :=
  h.adds (event.addsWaiters monitor [])

theorem attackOnce_slots (i : StringNo) : SlotsFilled [] (attackOnce i s) := by
  have ticked := (h.modifyTicked i fun k => { k with attack := true }).modifyTimers i fun t => { t with attack := t.attack.tick }
  unfold attackOnce attackTick
  simp only
  split
  · exact h
  · split
    · exact ticked.oneTracker (takeGiveUp_touches i _) (takeGiveUp_monitor i _)
    · split
      · exact ticked.oneTracker (takeEarlyPoint_touches i _) (takeEarlyPoint_monitor i _)
      · exact ticked

theorem releaseOnce_slots (i : StringNo) : SlotsFilled [] (releaseOnce i s) := by
  have ticked := (h.modifyTicked i fun k => { k with release := true }).modifyTimers i fun t =>
    { t with release := t.release.tick }
  unfold releaseOnce releaseTick
  simp only
  split
  · exact h
  · split
    · exact ticked.oneTracker (takeReleaseExpiry_touches i _) (takeReleaseExpiry_monitor i _)
    · exact ticked

theorem updateOnce_slots (i : StringNo) : SlotsFilled [] (updateOnce i s) := by
  have ticked := (h.modifyTicked i fun k => { k with update := true }).modifyTimers i fun t => { t with update := t.update.tick }
  unfold updateOnce updateTick
  simp only
  split
  · exact h
  · split
    · exact ticked.oneTracker (takeUpdateExpiry_touches i _) (takeUpdateExpiry_monitor i _)
    · exact ticked

theorem recordOnce_slots (i : StringNo) : SlotsFilled [] (recordOnce i s) := by
  unfold recordOnce
  split
  · exact h
  · exact recordTick_slots (h.modifyTicked i _) i

theorem quietTimers_slots (i : StringNo) : SlotsFilled [] (quietTimers i s) := by
  have skip (reaches : Bool) {once : State → State} (takes : ∀ t, SlotsFilled [] t → SlotsFilled [] (once t)) {t : State}
      (ht : SlotsFilled [] t) : SlotsFilled [] (if reaches then t else once t) := by
    split
    · exact ht
    · exact takes t ht
  exact skip _ (fun _ ht => updateOnce_slots ht i) (skip _ (fun _ ht => releaseOnce_slots ht i)
    (skip _ (fun _ ht => attackOnce_slots ht i) h))

theorem stringTick_slots (i : StringNo) : SlotsFilled [] (stringTick i s) :=
  recordOnce_slots (updateOnce_slots (releaseOnce_slots (attackOnce_slots (quietTimers_slots h i) i) i) i) i

theorem reloaded_slots : SlotsFilled [] (reloaded s) :=
  (h.adds (.modifyAll [] (fun b => { b with ticked := .clear }) s fun _ => rfl)).same rfl rfl rfl rfl

theorem dividerPeriod_slots : SlotsFilled [] (dividerPeriod s) := by
  unfold dividerPeriod
  split
  · split
    · exact h.same rfl rfl rfl rfl
    · rw [underflow_eq]
      exact reloaded_slots
        (forStrings_keeps (P := SlotsFilled []) stringTick (fun i _ ht => stringTick_slots ht i) allStrings s h)
  · exact h

/-! ## Frame arrivals and the teardown -/

theorem stringArrival_slots (samples : PerString Word) (i : StringNo) : SlotsFilled [] (stringArrival samples i s) := by
  set r := runStage samples s.plu.frameNo i (s.string i) with hr
  have ran : SlotsFilled [] (leaveStage i r s) :=
    (h.adds (.modifyString [] i (fun b => { b with stage := r.stage }) s fun _ => id)).same rfl rfl rfl rfl
  have begun : SlotsFilled [] (followPeak i (leaveStage i r s)) :=
    ran.adds (.modifyString [] i _ _ fun _ hw => by split at hw <;> exact hw)
  have edged : SlotsFilled [] (takeReportedEdge i r.edge (followPeak i (leaveStage i r s))) := by
    cases r.edge with
    | none => exact begun
    | some edge => exact begun.oneTracker (takeEdge_touches i edge _) (takeEdge_monitor i _ edge)
  have arrives : stringArrival samples i s = deliverReports i r.edge r.period (followPeak i (leaveStage i r s)) := rfl
  rw [arrives]
  cases r.period with
  | none => rw [deliverReports_none]; exact edged
  | some p =>
    rw [deliverReports_some]
    have judged (v : Validator) := edged.adds (.modifyString [] i (fun b => { b with validator := v }) _ fun _ => id)
    exact recordPeriod_slots ((judged _).oneTracker (takeOutcome_touches i _ _ _) (takeOutcome_monitor i _ _ _)) i p

theorem frameArrival_slots (samples : PerString Word) (order : List StringNo) :
    SlotsFilled [] (frameArrival samples order s) :=
  forStrings_keeps (P := SlotsFilled []) _ (fun i _ ht => stringArrival_slots ht samples i) _ _ (h.same rfl rfl rfl rfl)

theorem teardownLast_slots : SlotsFilled [] (teardownLast s) := h.same rfl rfl rfl rfl

theorem pickupTeardown_slots : SlotsFilled [] (pickupTeardown s) := by
  have ended : SlotsFilled [] (forStrings allStrings linkEnd s) :=
    forStrings_keeps (P := SlotsFilled []) linkEnd
      (fun i _ ht => ht.oneTracker (endNote_touches i .link _) (endNote_monitor i _ .link)) allStrings s h
  have cleared : SlotsFilled [] (teardownCleared s) :=
    (ended.adds (.modifyAll [] (·.silence) _ fun _ => rfl)).adds (.modifyAll [] (·.clearStage) _ fun _ => rfl)
  rw [pickupTeardown_eq]
  exact teardownLast_slots
    (forStrings_keeps (P := SlotsFilled []) abortAndSeek (fun i _ ht => abortAndSeek_slots ht i) allStrings _ cleared)

/-- A slot of the pickup link: a frame arrival, the teardown, or a change of the link's own state (R2 to R6). -/
theorem pickupSlot_slots (f : PickupFrame) (order : List StringNo) : SlotsFilled [] (pickupSlot f order s) := by
  have deliver (g : GoodFrame) {t : State} (ht : SlotsFilled [] t) : SlotsFilled [] (deliverGood g order t) := by
    refine frameArrival_slots ?_ _ _
    exact ht.same rfl rfl rfl rfl
  have begun : SlotsFilled [] (s.doPart .slot) := h.same rfl rfl rfl rfl
  have noted : SlotsFilled [] (noteBadFrame (s.doPart .slot)) := h.same rfl rfl rfl rfl
  have bridge (badRun : Nat) : SlotsFilled [] (repeatLast badRun order (noteBadFrame (s.doPart .slot))) := by
    unfold repeatLast
    simp only
    split
    · refine frameArrival_slots ?_ _ _
      exact noted.same rfl rfl rfl rfl
    · exact noted.same rfl rfl rfl rfl
  unfold pickupSlot judgeSlot
  split
  · split
    · split
      · unfold goodWhileSearching
        simp only
        split
        · exact begun.same rfl rfl rfl rfl
        · refine deliver _ ?_
          exact begun.same rfl rfl rfl rfl
      · exact deliver _ begun
      · exact deliver _ begun
    · unfold badFrame
      split
      · exact begun.same rfl rfl rfl rfl
      · exact bridge _
      · split
        · exact bridge _
        · refine pickupTeardown_slots ?_
          exact noted.same rfl rfl rfl rfl
  · exact h

end

end Sys2Proof.Machine
end

section
/-!
PROOFS. Every command's run leaves only the records it aborts to seek a slot; with the command unit, the lane's slot arbiter and the
events of the strings this settles O7.
-/

namespace Sys2Proof.Machine

open Sys2Proof.Safety

/-! ## What a command's run adds -/

/-- The run leaves no producer of a reply but the records it aborted, which seek their slots after its own reply (R158). -/
def RunAddsAborted (s : State) (x : Executed) : Prop := AddsWaiters x.aborted s x.state

theorem runAddsAborted_refuse (reason : RefusalReason) (s : State) : RunAddsAborted s (refuse reason s) := .refl [] s

theorem runAddsAborted_carriedOut {s t : State} (adjusted : Bool) (h : AddsWaiters [] s t) :
    RunAddsAborted s (carriedOut adjusted t) := h

section

variable (s : State)

theorem withString_addsAborted (word : Payload) (run : StringNo → State → Executed) (h : ∀ i, RunAddsAborted s (run i s)) :
    RunAddsAborted s (withString word run s) := by
  unfold withString
  split
  · exact runAddsAborted_refuse _ s
  · exact h _

theorem withTable_addsAborted (word : Payload) (run : Fin 4 → State → Executed) (h : ∀ n, RunAddsAborted s (run n s)) :
    RunAddsAborted s (withTable word run s) := by
  unfold withTable
  split
  · exact runAddsAborted_refuse _ s
  · exact h _

theorem runLoadGrid_addsAborted (params : List Payload) : RunAddsAborted s (runLoadGrid params s) := by
  unfold runLoadGrid
  split
  · refine withString_addsAborted s _ _ fun i => ?_
    split
    · exact runAddsAborted_refuse _ s
    · split
      · exact runAddsAborted_refuse _ s
      · exact runAddsAborted_carriedOut _ (.modifyString [] i _ s fun _ => id)
  · exact runAddsAborted_refuse _ s

/-- LOAD PROFILE aborts the record of its string when it is active (R34). -/
theorem runLoadProfile_addsAborted (params : List Payload) : RunAddsAborted s (runLoadProfile params s) := by
  unfold runLoadProfile
  split
  · split
    · exact runAddsAborted_refuse _ s
    · next p _ =>
      refine withString_addsAborted s _ _ fun i => ?_
      split
      · exact runAddsAborted_refuse _ s
      · have loaded (added : List StringNo) : AddsWaiters added s (s.modifyString i (·.loadProfile p)) :=
          .modifyString added i _ s fun _ => id
        unfold takeProfile RunAddsAborted
        by_cases active : (s.string i).record.active = true
        · simp only [active, if_true]
          refine (loaded [i]).trans ?_
          unfold abortRecord
          split
          · exact .modifyString [i] i _ _ fun hi => absurd List.mem_cons_self hi
          · exact .refl _ _
        · simp only [active]
          have kept : abortRecord i (s.modifyString i (·.loadProfile p)) = s.modifyString i (·.loadProfile p) :=
            if_neg (by rw [State.modifyString_string]; exact active)
          change AddsWaiters _ s (abortRecord i (s.modifyString i (·.loadProfile p)))
          rw [kept]
          exact loaded _
  · exact runAddsAborted_refuse _ s

theorem runLoadAction_addsAborted (params : List Payload) : RunAddsAborted s (runLoadAction params s) := by
  unfold runLoadAction
  split
  · split
    · exact runAddsAborted_refuse _ s
    · exact withString_addsAborted s _ _ fun i => runAddsAborted_carriedOut _ (.modifyString [] i _ s fun _ => id)
  · exact runAddsAborted_refuse _ s

theorem runLoadMap_addsAborted (params : List Payload) : RunAddsAborted s (runLoadMap params s) := by
  unfold runLoadMap
  split
  · refine withTable_addsAborted s _ _ fun n => ?_
    split
    · exact runAddsAborted_refuse _ s
    · exact runAddsAborted_carriedOut _ (.ofSame rfl rfl rfl rfl)
  · exact runAddsAborted_refuse _ s

theorem runClearMap_addsAborted (params : List Payload) : RunAddsAborted s (runClearMap params s) := by
  unfold runClearMap
  split
  · exact withTable_addsAborted s _ _ fun n => runAddsAborted_carriedOut _ (.ofSame rfl rfl rfl rfl)
  · exact runAddsAborted_refuse _ s

theorem runLoadCrosstalk_addsAborted (params : List Payload) : RunAddsAborted s (runLoadCrosstalk params s) := by
  unfold runLoadCrosstalk
  split
  · exact withString_addsAborted s _ _ fun i => runAddsAborted_carriedOut _ (.modifyString [] i _ s fun _ => id)
  · exact runAddsAborted_refuse _ s

theorem runSetStyle_addsAborted (params : List Payload) : RunAddsAborted s (runSetStyle params s) := by
  unfold runSetStyle
  split
  · exact runAddsAborted_carriedOut _ (forStrings_addsWaiters (fun i t => .modifyString [] i _ t fun _ => id) _ s)
  · exact runAddsAborted_refuse _ s

theorem runStringOn_addsAborted (params : List Payload) : RunAddsAborted s (runStringOn params s) := by
  unfold runStringOn
  split
  · split
    · exact runAddsAborted_refuse _ s
    · exact runAddsAborted_carriedOut _ (forStrings_addsWaiters
        (fun i t => (onString_touches i t).addsWaiters (onString_monitor i t) []) _ s)
  · exact runAddsAborted_refuse _ s

theorem runStringOff_addsAborted (params : List Payload) : RunAddsAborted s (runStringOff params s) := by
  unfold runStringOff
  split
  · exact runAddsAborted_carriedOut _ (forStrings_addsWaiters
      (fun i t => (offString_touches i t).addsWaiters (offString_monitor i t) []) _ s)
  · exact runAddsAborted_refuse _ s

theorem runAllNotesEnd_addsAborted (params : List Payload) : RunAddsAborted s (runAllNotesEnd params s) := by
  unfold runAllNotesEnd
  split
  · exact runAddsAborted_carriedOut _ (forStrings_addsWaiters
      (fun i t => (panicString_touches i t).addsWaiters (panicString_monitor i t) []) _ s)
  · exact runAddsAborted_refuse _ s

theorem runMeasure_addsAborted (params : List Payload) : RunAddsAborted s (runMeasure params s) := by
  unfold runMeasure
  split
  · refine withString_addsAborted s _ _ fun i => ?_
    split
    · exact runAddsAborted_refuse _ s
    · exact runAddsAborted_carriedOut _ (.modifyString [] i _ s fun _ hw => nomatch hw)
  · exact runAddsAborted_refuse _ s

theorem runMeasureCancel_addsAborted (params : List Payload) : RunAddsAborted s (runMeasureCancel params s) := by
  unfold runMeasureCancel
  split
  · refine withString_addsAborted s _ _ fun i => ?_
    split
    · exact runAddsAborted_carriedOut _ (.modifyString [] i _ s fun _ hw => nomatch hw)
    · exact runAddsAborted_refuse _ s
  · exact runAddsAborted_refuse _ s

theorem crossInjected_monitor (point : InjectPoint) (j : Injection) : MonitorBounded s (crossInjected point j s).state := by
  cases point with
  | map => exact crossRoute_monitor _ _ _ _ _ _ s
  | route => exact crossRoute_monitor _ _ _ _ _ _ s
  | atAdmit => exact .of_mq (crossAdmit_crossedAs _ _ _ s).monitor

theorem runInject_addsAborted (params : List Payload) : RunAddsAborted s (runInject params s) := by
  have crossed (point : InjectPoint) (j : Injection) : AddsWaiters [] s (crossInjected point j s).state :=
    ((crossInjected_queuesOnly point j s).oneTracker j.string).addsWaiters (crossInjected_monitor s point j) []
  have replies {x : Crossing} (clamped : Bool) (hx : AddsWaiters [] s x.state) : RunAddsAborted s (injectReply clamped x) := by
    unfold injectReply
    split
    · exact hx.trans (.ofSame rfl rfl rfl rfl)
    · exact hx
  unfold runInject
  split
  · split
    · exact withString_addsAborted s _ _ fun i => replies _ (crossed _ _)
    · exact runAddsAborted_refuse _ s
  · exact runAddsAborted_refuse _ s

theorem runClearCounters_addsAborted (params : List Payload) : RunAddsAborted s (runClearCounters params s) := by
  unfold runClearCounters
  split
  · split
    · exact runAddsAborted_refuse _ s
    · exact runAddsAborted_carriedOut _ (.ofSame rfl rfl rfl rfl)
  · exact runAddsAborted_refuse _ s

/-- Records aborted one after another: those of the list alone come to wait (R191). -/
theorem forStrings_abortRecord_adds (strings : List StringNo) (added : List StringNo) (h : strings ⊆ added) :
    AddsWaiters added s (forStrings strings abortRecord s) := by
  induction strings generalizing s with
  | nil => exact .refl _ s
  | cons i rest ih =>
    obtain ⟨hi, hrest⟩ := List.cons_subset.mp h
    refine AddsWaiters.trans ?_ (ih (abortRecord i s) hrest)
    unfold abortRecord
    split
    · exact .modifyString added i _ s fun hn => absurd hi hn
    · exact .refl _ s

/-- RESTORE DEFAULTS aborts every active record (R182). -/
theorem runRestoreDefaults_addsAborted (params : List Payload) : RunAddsAborted s (runRestoreDefaults params s) := by
  unfold runRestoreDefaults
  split
  · split
    · exact runAddsAborted_refuse _ s
    · have restored : AddsWaiters s.activeRecords s (restoredSettings s) :=
        AddsWaiters.trans (t := s.modifyAll (·.restoreDefaults)) (.modifyAll _ _ s fun _ => rfl) (.ofSame rfl rfl rfl rfl)
      exact restored.trans (forStrings_abortRecord_adds _ _ _ (List.Subset.refl _))
  · exact runAddsAborted_refuse _ s

/-- A read answers or is refused, and aborts nothing (R178). -/
theorem reads_addAborted {run : List Payload → State → Executed} (h : ReadsOnly run) (params : List Payload) :
    RunAddsAborted s (run params s) := by
  unfold RunAddsAborted
  rw [h params s]
  exact .refl _ s

/-- Every run but RESTART's leaves the reply queue as it stands and no producer but the records it aborted. -/
theorem run_addsAborted {c : Command} (h : c ≠ .restart) (params : List Payload) : RunAddsAborted s (c.run params s) := by
  cases c
  case loadGrid => exact runLoadGrid_addsAborted s params
  case loadProfile => exact runLoadProfile_addsAborted s params
  case loadAction => exact runLoadAction_addsAborted s params
  case loadMap => exact runLoadMap_addsAborted s params
  case clearMap => exact runClearMap_addsAborted s params
  case loadCrosstalk => exact runLoadCrosstalk_addsAborted s params
  case setStyle => exact runSetStyle_addsAborted s params
  case stringOn => exact runStringOn_addsAborted s params
  case stringOff => exact runStringOff_addsAborted s params
  case allNotesEnd => exact runAllNotesEnd_addsAborted s params
  case measure => exact runMeasure_addsAborted s params
  case measureCancel => exact runMeasureCancel_addsAborted s params
  case inject => exact runInject_addsAborted s params
  case readStatus => exact reads_addAborted s runReadStatus_reads params
  case readString => exact reads_addAborted s runReadString_reads params
  case readGrid => exact reads_addAborted s runReadGrid_reads params
  case readMap => exact reads_addAborted s runReadMap_reads params
  case readAction => exact reads_addAborted s runReadAction_reads params
  case readProfile => exact reads_addAborted s runReadProfile_reads params
  case readCounters => exact reads_addAborted s runReadCounters_reads params
  case readStatusCounters => exact reads_addAborted s runReadStatusCounters_reads params
  case clearCounters => exact runClearCounters_addsAborted s params
  case restoreDefaults => exact runRestoreDefaults_addsAborted s params
  case restart => exact absurd rfl h
  case setTick | setNumbering | setFlagMask | setCountPoint | clearFlags =>
    simp only [Command.run, runSetTick, runSetNumbering, runSetFlagMask, runSetCountPoint, runClearFlags]
    split
    · exact runAddsAborted_carriedOut _ (.ofSame rfl rfl rfl rfl)
    · exact runAddsAborted_refuse _ s

end

/-! ## Execution -/

/-- With room for one reply more, only records that have yet to seek their slot wait, and no command is held. -/
structure RoomForReply (seeking : List StringNo) (s : State) : Prop where
  room : s.rq.length < 8
  waiting : ∀ i, i ∉ seeking → (s.string i).record.state ≠ .waiting
  held : ∀ b, s.cu ≠ .held b
  monitor : s.mq.length ≤ 16

theorem RoomForReply.slotsFilled {seeking : List StringNo} {s : State} (h : RoomForReply seeking s) : SlotsFilled seeking s :=
  ⟨h.room.le, fun i hi hw => absurd hw (h.waiting i hi), fun b hb => absurd hb (h.held b), h.monitor⟩

theorem RoomForReply.placeReply {seeking : List StringNo} {s : State} (h : RoomForReply seeking s) (r : Reply) :
    SlotsFilled seeking (s.placeReply r) where
  bound := by rw [State.placeReply_rq, List.length_append]; exact h.room
  waiting i hi hw := absurd hw (h.waiting i hi)
  held b hb := absurd hb (h.held b)
  monitor := h.monitor

theorem RoomForReply.adds {added : List StringNo} {s t : State} (h : RoomForReply [] s) (k : AddsWaiters added s t) :
    RoomForReply added t where
  room := by rw [k.rq]; exact h.room
  waiting i hi hw := h.waiting i List.not_mem_nil (k.waiting i hi hw)
  held b hb := h.held b (k.held b hb)
  monitor := k.monitor h.monitor

/-- The link-loss effect empties the reply queue and leaves no producer (R9, R192). -/
theorem linkLossEffect_room (s : State) : RoomForReply [] (linkLossEffect s) where
  room := Nat.zero_lt_succ _
  waiting i _ := by
    rw [show (linkLossEffect s).string i = (s.string i).linkLoss from State.modifyAll_string (·.linkLoss) s i]
    exact ne_of_eq_of_ne (Measurement.drop_idle _) (by decide)
  held _ := nofun
  monitor := Nat.zero_le _

theorem runBuffer_room {s : State} (h : RoomForReply [] s) (b : CommandBuffer) :
    RoomForReply (runBuffer b s).aborted (runBuffer b s).state := by
  unfold runBuffer
  split
  · exact h
  · next c _ =>
    split
    · exact h
    · rcases eq_or_ne c .restart with rfl | hc
      · simp only [Command.run, runRestart]
        split
        · exact linkLossEffect_room _
        · exact h
      · exact h.adds (run_addsAborted _ hc _)

/-- A command executed with a slot free and no record WAITING: its reply takes the slot, and then the records it aborted seek theirs
(R158, R167, R171). -/
theorem execute_slots {s : State} (room : s.rq.length < 8) (waiting : ∀ i, (s.string i).record.state ≠ .waiting)
    (monitor : s.mq.length ≤ 16) (b : CommandBuffer) : SlotsFilled [] (execute b s) := by
  have ready : RoomForReply [] { s with cu := .ready } := ⟨room, fun i _ => waiting i, fun _ => nofun, monitor⟩
  exact ((runBuffer_room ready b).placeReply _).forStrings_seekSlot

section

variable {s : State} (h : SlotsFilled [] s)

include h

/-- A command finds a slot free only where no record waits (R157, R167). -/
theorem takeCommand_slots (b : CommandBuffer) : SlotsFilled [] (takeCommand b s) := by
  unfold takeCommand
  split
  · next free =>
    have room : s.rq.length < 8 := of_decide_eq_true free
    exact execute_slots room (fun i hw => room.ne (h.waiting i List.not_mem_nil hw)) h.monitor b
  · next full =>
    have filled : s.rq.length = 8 := le_antisymm h.bound (Nat.le_of_not_lt fun room => full (decide_eq_true room))
    exact ⟨h.bound, h.waiting, fun _ _ => filled, h.monitor⟩

/-- A command unit that goes on collecting, or returns to READY, holds no command. -/
theorem SlotsFilled.unheld {t : State} (strings : t.strings = s.strings) (rq : t.rq = s.rq) (mq : t.mq = s.mq)
    (cu : ∀ b, t.cu ≠ .held b) : SlotsFilled [] t :=
  h.adds ⟨rq, fun b hb => absurd hb (cu b), fun i _ hw => by rwa [State.string, strings] at hw, .of_mq mq⟩

theorem startCommand_slots (code : BitVec 7) (declared : Nat) : SlotsFilled [] (startCommand code declared s) := by
  unfold startCommand
  simp only
  split
  · exact takeCommand_slots h _
  · exact h.unheld rfl rfl rfl fun _ => nofun

theorem takeWord_slots (w : Word) : SlotsFilled [] (takeWord w s) := by
  unfold takeWord
  split
  · split
    · exact startCommand_slots h _ _
    · exact h.same rfl rfl rfl rfl
  · split
    · refine startCommand_slots ?_ _ _
      exact h.unheld rfl rfl rfl fun _ => nofun
    · simp only
      split
      · exact takeCommand_slots h _
      · exact h.unheld rfl rfl rfl fun _ => nofun
  · exact h.same rfl rfl rfl rfl

theorem sendCommand_slots (code : BitVec 7) (params : List Payload) : SlotsFilled [] (sendCommand code params s) := by
  unfold sendCommand
  split
  · exact List.foldlRecOn _ _ h fun t ht w _ => takeWord_slots ht w
  · exact h

end

/-! ## The slot arbiter and the lane -/

/-- The lowest WAITING record is one, and there is none to find where none waits (R157). -/
theorem firstWaiting_waits {s : State} {i : StringNo} (h : s.firstWaiting = some i) : (s.string i).record.state = .waiting := by
  have found : s.isWaiting i = true := List.find?_some h
  exact of_decide_eq_true found

theorem firstWaiting_none {s : State} (h : s.firstWaiting = none) (i : StringNo) : (s.string i).record.state ≠ .waiting := by
  intro waits
  have found := (firstWaiting_isSome s).mpr ⟨i, waits⟩
  rw [h] at found
  cases found

/-- The arbiter gives a slot just freed to a producer, if there is one, and it is full again (R157, R169). -/
theorem grantSlot_slots {s : State} (freed : s.rq.length < 8)
    (waiting : ∀ i, (s.string i).record.state = .waiting → s.rq.length = 7) (monitor : s.mq.length ≤ 16) :
    SlotsFilled [] (grantSlot s) := by
  unfold grantSlot
  split
  · next i found =>
    have waits := firstWaiting_waits found
    have filled : (seekSlot i s).rq.length = 8 := by
      rw [(seekSlot_places i s waits freed).1, List.length_append, waiting i waits]
      rfl
    exact ⟨filled.le, fun _ _ _ => filled, fun _ _ => filled, (seekSlot_touches i s).mq ▸ monitor⟩
  · next none =>
    have unwaited := firstWaiting_none none
    split
    · exact execute_slots freed unwaited monitor _
    · next ready => exact ⟨freed.le, fun i _ hw => absurd hw (unwaited i), fun b hb => by simp [ready] at hb, monitor⟩
    · next collecting => exact ⟨freed.le, fun i _ hw => absurd hw (unwaited i), fun b hb => by simp [collecting] at hb, monitor⟩

section

variable {s : State} (h : SlotsFilled [] s)

include h

/-- A reply that begins frees a slot, which the arbiter grants (R157, R159). -/
theorem beginReply_slots (chosen : s.chosenSource = some .rq) : SlotsFilled [] (beginMessage .rq s) := by
  obtain ⟨r, rest, hrq⟩ := rq_ne_nil_of_chosen s chosen
  have shorter : s.rq.tail.length + 1 = s.rq.length := by rw [hrq]; rfl
  have bound := h.bound
  refine grantSlot_slots (Nat.lt_of_succ_le (shorter.trans_le bound)) (fun i hw => ?_) h.monitor
  exact Nat.succ_injective (shorter.trans (h.waiting i List.not_mem_nil hw))

theorem afterLaneSlot_slots : SlotsFilled [] (afterLaneSlot s) := by
  unfold afterLaneSlot
  split
  · exact h.same rfl rfl rfl rfl
  · split
    · next source chosen =>
      cases source with
      | rq => exact beginReply_slots h chosen
      | eq => exact h.same rfl rfl rfl rfl
      | mq =>
        have shorter : s.mq.tail.length ≤ 16 := by rw [List.length_tail]; exact (Nat.sub_le _ _).trans h.monitor
        exact ⟨h.bound, h.waiting, h.held, shorter⟩
    · exact h

theorem upstream_slots : SlotsFilled [] (upstream s) := by
  have begun : SlotsFilled [] (s.doPart .upstream) := h.same rfl rfl rfl rfl
  unfold upstream
  split
  · exact (afterLaneSlot_slots (afterLaneSlot_slots begun)).same rfl rfl rfl rfl
  · exact h

/-! ## Downstream frames -/

theorem takeDownstream_slots (f : DownstreamFrame) : SlotsFilled [] (takeDownstream f s) := by
  unfold takeDownstream
  simp only
  split
  · refine takeWord_slots ?_ _
    exact h.same rfl rfl rfl rfl
  · exact h.same rfl rfl rfl rfl

theorem downstream_slots (f : DownstreamFrame) : SlotsFilled [] (downstream f s) := by
  have counted : SlotsFilled [] { s with slu := { s.slu with syncRun := s.slu.syncRun + 1 } } := h.same rfl rfl rfl rfl
  unfold downstream syncedFrame unsyncedFrame
  split
  · split
    · simp only
      split
      · exact counted
      · refine takeDownstream_slots ?_ f
        rw [synthLinkUp_eq]
        exact counted.same rfl rfl rfl rfl
    · refine takeDownstream_slots ?_ f
      exact h.same rfl rfl rfl rfl
  · split
    · exact h.same rfl rfl rfl rfl
    · split
      · exact h.same rfl rfl rfl rfl
      · exact (linkLossEffect_room s).slotsFilled.same rfl rfl rfl rfl

end

/-! ## O7 -/

/-- Whatever happens, no slot is left free while a producer of a reply waits. -/
theorem Happens.slotsFilled {s t : State} (happens : Happens s t) (h : SlotsFilled [] s) : SlotsFilled [] t := by
  cases happens with
  | nothing => exact h
  | powerOn =>
    refine ⟨Nat.zero_le _, fun i _ hw => ?_, fun _ => nofun, Nat.zero_le _⟩
    rw [show State.string { State.reset with pending := s.pending } i = .powerOn from reset_string i] at hw
    cases hw
  | slot f order => exact pickupSlot_slots h f order
  | words f => exact downstream_slots h f
  | frame => exact upstream_slots h
  | period => exact dividerPeriod_slots h
  | command code params => exact sendCommand_slots h code params
  | attack i => exact attackOnce_slots (quietTimers_slots h i) i
  | release i => exact releaseOnce_slots (quietTimers_slots h i) i
  | update i => exact updateOnce_slots (quietTimers_slots h i) i
  | record i => exact recordOnce_slots h i

/-- Settles O7: a slot comes free only where a reply begins, and the arbiter gives it away at once; a record or command that finds no
slot finds all eight used. -/
theorem stepLeavesNoSlotFreeWhileAProducerWaits : Obligations.StepLeavesNoSlotFreeWhileAProducerWaits := by
  intro s t h slots bounds
  exact (slotsFilled_iff t).mp (step_keeps (P := SlotsFilled []) (fun _ _ hs => hs.same rfl rfl rfl rfl)
    (fun _ _ happens => happens.slotsFilled) h ((slotsFilled_iff s).mpr ⟨slots, bounds⟩))

end Sys2Proof.Machine
end

section
/-!
PROOFS. The event queue's admission rules: which rule each kind of message meets, and what each rule does by the units free (O22).
-/

namespace Sys2Proof.Machine

open Sys2Proof.Safety

/-! ## The free units -/

/-- The units of the event queue that are neither used nor reserved (R145). -/
def EventQueue.free (q : EventQueue) : Nat := 64 - (q.entries.length + q.reserved)

/-- A message that needs some units finds them, as the model asks it, exactly where that many are free. -/
theorem EventQueue.load_le_iff {q : EventQueue} {units : Nat} (h : 0 < units) :
    q.load + units ≤ Config.eventQueueSize ↔ units ≤ q.free := by
  unfold EventQueue.load EventQueue.free Config.eventQueueSize
  omega

section

variable (m : Message) (s : State)

/-! ## Messages that take one unit -/

theorem admitOne_free (h : 1 ≤ s.eq.free) :
    admitOne m s = ⟨{ s with eq := ⟨s.eq.entries ++ [m], s.eq.reserved⟩ }, true⟩ :=
  if_pos ((EventQueue.load_le_iff Nat.one_pos).mpr h)

theorem admitOne_full (h : s.eq.free < 1) : admitOne m s = ⟨s, false⟩ :=
  if_neg fun fits => h.not_ge ((EventQueue.load_le_iff Nat.one_pos).mp fits)

/-! ## Starts that reserve the unit of their end -/

theorem admitReserving_free (h : 2 ≤ s.eq.free) :
    admitReserving m s = ⟨{ s with eq := ⟨s.eq.entries ++ [m], s.eq.reserved + 1⟩ }, true⟩ :=
  if_pos ((EventQueue.load_le_iff Nat.two_pos).mpr h)

/-- The refusal sets START_LOST and counts (R146). -/
theorem admitReserving_full (h : s.eq.free < 2) : admitReserving m s =
    ⟨{ s with su := { s.su with flags := flagsAfter 5 s.su, counters := countersAfter 3 1 s.su } }, false⟩ := by
  unfold admitReserving
  rw [if_neg fun fits => h.not_ge ((EventQueue.load_le_iff Nat.two_pos).mp fits), State.cause_bump_eq]
  rfl

/-! ## A PITCH -/

section

variable (fresh : ∀ q ∈ s.eq.entries, q.isPitchOf m.string = false)

include fresh

theorem not_any_isPitchOf : ¬s.eq.entries.any (·.isPitchOf m.string) = true := by
  simpa using fresh

theorem admitPitch_fresh_free (h : 1 ≤ s.eq.free) :
    admitPitch m s = ⟨{ s with eq := ⟨s.eq.entries ++ [m], s.eq.reserved⟩ }, true⟩ :=
  (if_neg (not_any_isPitchOf m s fresh)).trans (if_pos ((EventQueue.load_le_iff Nat.one_pos).mpr h))

/-- The refusal sets UPDATE_LOST and counts (R149). -/
theorem admitPitch_fresh_full (h : s.eq.free < 1) : admitPitch m s =
    ⟨{ s with su := { s.su with flags := flagsAfter 6 s.su, counters := countersAfter 4 1 s.su } }, false⟩ := by
  unfold admitPitch
  rw [if_neg (not_any_isPitchOf m s fresh), if_neg fun fits => h.not_ge ((EventQueue.load_le_iff Nat.one_pos).mp fits),
    State.cause_bump_eq]
  rfl

end

/-- Where no PITCH of the string is queued there is none to replace. -/
theorem map_replaced_of_others {entries : List Message} (h : ∀ r ∈ entries, r.isPitchOf m.string = false) :
    entries.map (fun q => if q.isPitchOf m.string then replacedPitch q m else q) = entries :=
  (List.map_congr_left fun r hr => if_neg (Bool.eq_false_iff.mp (h r hr))).trans (List.map_id entries)

/-- The one PITCH queued of the string is replaced where it stands (R149). -/
theorem admitPitch_queued {before after : List Message} {q : Message} (split : s.eq.entries = before ++ q :: after)
    (queued : q.isPitchOf m.string = true) (others : ∀ r ∈ before ++ after, r.isPitchOf m.string = false) :
    admitPitch m s = ⟨{ s with eq := ⟨before ++ replacedPitch q m :: after, s.eq.reserved⟩ }, true⟩ := by
  obtain ⟨ahead, behind⟩ := List.forall_mem_append.mp others
  have found : s.eq.entries.any (·.isPitchOf m.string) = true := by
    rw [split]
    simp [queued]
  unfold admitPitch
  rw [if_pos found, split, List.map_append, List.map_cons, map_replaced_of_others m ahead, map_replaced_of_others m behind,
    if_pos queued]

end

/-- Settles O22: each kind of message meets one of the rules, and each rule goes by the units free. -/
theorem admissionRules : Obligations.AdmissionRules := by
  intro m s free
  refine ⟨fun c note velocity early bend body => ?_, fun reserves kind => ?_, fun reserves => ⟨fun cause body tracker => ?_,
    fun cause note bend body => ?_⟩⟩
  · have start (reserves : Bool) : admitMessage reserves m s = if reserves then admitReserving m s else admitOne m s := by
      rw [admitMessage, body]
    rw [start, start]
    exact ⟨admitReserving_free m s, admitReserving_full m s, admitOne_free m s, admitOne_full m s⟩
  · have plain : admitMessage reserves m s = admitOne m s := by
      obtain ⟨velocity, body⟩ | ⟨injected, cause, body⟩ := kind
      · rw [admitMessage, body]
      · rw [admitMessage, body]
        exact if_pos injected
    rw [plain]
    exact ⟨admitOne_free m s, admitOne_full m s⟩
  · rw [admitMessage, body]
    exact if_neg (Bool.eq_false_iff.mp tracker)
  · have pitch : admitMessage reserves m s = admitPitch m s := by rw [admitMessage, body]
    rw [pitch]
    refine ⟨fun fresh => ⟨admitPitch_fresh_free m s fresh, admitPitch_fresh_full m s fresh⟩, ?_⟩
    intro before q old oldNote oldBend after split string queuedBody others
    have queued : q.isPitchOf m.string = true := by simp [Message.isPitchOf, Message.isPitch, queuedBody, string]
    have replaced : replacedPitch q m = { q with
        lane := m.lane, injected := m.injected,
        body := .pitch (if old.rank ≤ cause.rank then cause else old) note bend } := by
      simp only [replacedPitch, queuedBody, body, PitchCause.higher]
    rw [admitPitch_queued m s split queued others, replaced]

end Sys2Proof.Machine
end

section
/-!
PROOFS. One lane word slot: the source it begins, the word it carries, and the producer that a freed reply slot goes to (O24).
-/

namespace Sys2Proof.Machine

open Sys2Proof.Safety

/-! ## The choice of a source -/

theorem eligible_rq_of_nil {s : State} (h : s.rq = []) : s.eligible .rq = false := by simp [State.eligible, h]

theorem eligible_mq_of_nil {s : State} (h : s.mq = []) : s.eligible .mq = false := by simp [State.eligible, h]

/-- HOLD keeps the event queue from the lane (R160). -/
theorem eligible_eq_of_not {s : State} (h : ¬(s.eq.entries ≠ [] ∧ s.slu.hold = false)) : s.eligible .eq = false := by
  simpa [State.eligible] using h

/-- The first eligible source after the one last served is chosen (R160). -/
theorem chosenSource_of_passed {s : State} {source : Source} (passed : List Source) {later : List Source}
    (order : sourcesAfter s.lane.lastServed = passed ++ source :: later) (skipped : ∀ x ∈ passed, s.eligible x = false)
    (eligible : s.eligible source = true) : s.chosenSource = some source :=
  List.find?_eq_some_iff_append.mpr ⟨eligible, passed, later, order, by simpa using skipped⟩

theorem chosenSource_none {s : State} (h : ∀ source, s.eligible source = false) : s.chosenSource = none :=
  List.find?_eq_none.mpr fun source _ => Bool.eq_false_iff.mp (h source)

theorem chosenSource_eventQueue {s : State} {m : Message} {rest : List Message} (queued : s.eq.entries = m :: rest)
    (hold : s.slu.hold = false)
    (last : s.lane.lastServed = .rq ∨ (s.lane.lastServed = .mq ∧ s.rq = []) ∨
      (s.lane.lastServed = .eq ∧ s.mq = [] ∧ s.rq = [])) : s.chosenSource = some .eq := by
  have eligible : s.eligible .eq = true := by simp [State.eligible, queued, hold]
  rcases last with last | ⟨last, rq⟩ | ⟨last, mq, rq⟩
  · exact chosenSource_of_passed [] (by rw [last]; rfl) (by simp) eligible
  · exact chosenSource_of_passed [.rq] (by rw [last]; rfl) (by simp [eligible_rq_of_nil rq]) eligible
  · exact chosenSource_of_passed [.mq, .rq] (by rw [last]; rfl) (by simp [eligible_mq_of_nil mq, eligible_rq_of_nil rq]) eligible

theorem chosenSource_monitorQueue {s : State} {m : Message} {rest : List Message} (queued : s.mq = m :: rest)
    (last : s.lane.lastServed = .eq ∨ (s.lane.lastServed = .rq ∧ ¬(s.eq.entries ≠ [] ∧ s.slu.hold = false)) ∨
      (s.lane.lastServed = .mq ∧ s.rq = [] ∧ ¬(s.eq.entries ≠ [] ∧ s.slu.hold = false))) : s.chosenSource = some .mq := by
  have eligible : s.eligible .mq = true := by simp [State.eligible, queued]
  rcases last with last | ⟨last, unready⟩ | ⟨last, rq, unready⟩
  · exact chosenSource_of_passed [] (by rw [last]; rfl) (by simp) eligible
  · exact chosenSource_of_passed [.eq] (by rw [last]; rfl) (by simp [eligible_eq_of_not unready]) eligible
  · exact chosenSource_of_passed [.rq, .eq] (by rw [last]; rfl) (by simp [eligible_rq_of_nil rq, eligible_eq_of_not unready])
      eligible

theorem chosenSource_replyQueue {s : State} {r : Reply} {rest : List Reply} (queued : s.rq = r :: rest)
    (last : s.lane.lastServed = .mq ∨ (s.lane.lastServed = .eq ∧ s.mq = []) ∨
      (s.lane.lastServed = .rq ∧ ¬(s.eq.entries ≠ [] ∧ s.slu.hold = false) ∧ s.mq = [])) : s.chosenSource = some .rq := by
  have eligible : s.eligible .rq = true := by simp [State.eligible, queued]
  rcases last with last | ⟨last, mq⟩ | ⟨last, unready, mq⟩
  · exact chosenSource_of_passed [] (by rw [last]; rfl) (by simp) eligible
  · exact chosenSource_of_passed [.mq] (by rw [last]; rfl) (by simp [eligible_mq_of_nil mq]) eligible
  · exact chosenSource_of_passed [.eq, .mq] (by rw [last]; rfl) (by simp [eligible_mq_of_nil mq, eligible_eq_of_not unready])
      eligible

/-! ## The word of a slot -/

theorem laneWord_sending {s : State} {t : Transmit} (h : s.lane.transmit = some t) :
    laneWord s = ⟨true, t.words.getD t.sent 0⟩ := by
  simp only [laneWord, h]

theorem laneWord_begins {s : State} {source : Source} (h : s.lane.transmit = none) (chosen : s.chosenSource = some source) :
    laneWord s = ⟨true, (s.headWords source).headD 0⟩ := by
  simp only [laneWord, h, chosen]

theorem laneWord_empty {s : State} (h : s.lane.transmit = none) (chosen : s.chosenSource = none) : laneWord s = ⟨false, 0⟩ := by
  simp only [laneWord, h, chosen, emptySlot]

/-! ## A message begun -/

theorem beginMessage_eventQueue {s : State} {m : Message} {rest : List Message} (queued : s.eq.entries = m :: rest) :
    beginMessage .eq s = { s with eq := ⟨rest, s.eq.reserved⟩, lane := ⟨transmitAfterHead m.words .eq, .eq⟩ } := by
  simp [beginMessage, State.dropHead, State.headWords, queued]

theorem beginMessage_monitorQueue {s : State} {m : Message} {rest : List Message} (queued : s.mq = m :: rest) :
    beginMessage .mq s = { s with mq := rest, lane := ⟨transmitAfterHead m.words .mq, .mq⟩ } := by
  simp [beginMessage, State.dropHead, State.headWords, queued]

/-- The part with a reply begun and the slot it frees not yet given away. -/
def replyBegun (r : Reply) (rest : List Reply) (s : State) : State :=
  { s with rq := rest, lane := ⟨transmitAfterHead r.words .rq, .rq⟩ }

theorem beginMessage_replyQueue {s : State} {r : Reply} {rest : List Reply} (queued : s.rq = r :: rest) :
    beginMessage .rq s = grantSlot (replyBegun r rest s) := by
  simp [beginMessage, State.dropHead, State.headWords, queued, replyBegun]

/-! ## The producer that a freed slot goes to -/

/-- The strings are listed in the order of their numbers. -/
theorem allStrings_ascending : allStrings.Pairwise (·.number < ·.number) := by decide

/-- The WAITING record below which no record waits is the first that is found (R157). -/
theorem firstWaiting_of_lowest {s : State} {i : StringNo} (waits : (s.string i).record.state = .waiting)
    (lowest : ∀ j, j.number < i.number → (s.string j).record.state ≠ .waiting) : s.firstWaiting = some i := by
  obtain ⟨j, found⟩ := Option.isSome_iff_exists.mp ((firstWaiting_isSome s).mpr ⟨i, waits⟩)
  obtain ⟨_, before, after, order, passed⟩ := List.find?_eq_some_iff_append.mp found
  have ascending := allStrings_ascending
  rw [order, List.pairwise_append, List.pairwise_cons] at ascending
  obtain ⟨_, ⟨below, _⟩, _⟩ := ascending
  have listed : i ∈ before ++ j :: after := order ▸ mem_allStrings i
  rcases List.mem_append.mp listed with ahead | here
  · exact absurd (decide_eq_true waits) (by simpa [State.isWaiting] using passed i ahead)
  · rcases List.mem_cons.mp here with rfl | behind
    · exact found
    · exact absurd (firstWaiting_waits found) (lowest j (below i behind))

/-- A freed slot goes to the WAITING record of the lowest-numbered string, which is IDLE again (R157, R189). -/
theorem grantSlot_record {s : State} {i : StringNo} (waits : (s.string i).record.state = .waiting)
    (lowest : ∀ j, j.number < i.number → (s.string j).record.state ≠ .waiting) (free : s.rq.length < 8) :
    grantSlot s = { s.modifyRecord i (·.toIdle) with
      rq := s.rq ++ [resultReply i (s.string i).record], su := { s.su with flags := flagsAfter 10 s.su } } := by
  have granted : grantSlot s = seekSlot i s := by simp only [grantSlot, firstWaiting_of_lowest waits lowest]
  rw [granted, ← placeResult_eq]
  exact if_pos ⟨waits, decide_eq_true free⟩

section

variable {s : State} (unwaited : ∀ i, (s.string i).record.state ≠ .waiting)

include unwaited

theorem firstWaiting_eq_none : s.firstWaiting = none := by
  rw [← Option.not_isSome_iff_eq_none, firstWaiting_isSome]
  simpa using unwaited

/-- With no record WAITING it goes to the held command (R157, R169). -/
theorem grantSlot_held {b : CommandBuffer} (held : s.cu = .held b) : grantSlot s = execute b s := by
  simp only [grantSlot, firstWaiting_eq_none unwaited, held]

/-- With neither it stays free (R157). -/
theorem grantSlot_free (unheld : ∀ b, s.cu ≠ .held b) : grantSlot s = s := by
  simp only [grantSlot, firstWaiting_eq_none unwaited]
  split
  · next b held => exact absurd held (unheld b)
  · rfl
  · rfl

end

/-! ## The held command -/

/-- A record that seeks its slot takes no reply away (R189). -/
theorem mem_seekSlot_rq {r : Reply} {s : State} (i : StringNo) (h : r ∈ s.rq) : r ∈ (seekSlot i s).rq := by
  unfold seekSlot
  split
  · rw [placeResult_eq]
    exact List.mem_append_left _ h
  · exact h

/-- An execution places a reply of the command's code (R171). -/
theorem execute_replies (b : CommandBuffer) (s : State) : ∃ body, (⟨b.code, body⟩ : Reply) ∈ (execute b s).rq :=
  ⟨(runBuffer b { s with cu := .ready }).reply,
    forStrings_keeps (P := fun t => (⟨b.code, _⟩ : Reply) ∈ t.rq) seekSlot (fun i _ => mem_seekSlot_rq i) _ _
      (by simp)⟩

/-- A held command of a listed code, whole in the buffer, is executed as its row executes it with the command unit READY (R169). -/
theorem exec_row_of_held (c : Command) {params : List Payload} {s : State} (whole : params.length ≤ 128)
    (up : s.slu.link = .up) (free : s.rq.length < 8) :
    exec (row c params) { s with cu := .ready } = .next (execute ⟨c.code, params.length, params.length, params, false⟩ s) := by
  have buffer : wholeBuffer c.code params = ⟨c.code, params.length, params.length, params, false⟩ := by
    simp [wholeBuffer, List.take_of_length_le whole, Nat.not_lt.mpr whole]
  have ready : sendCommand c.code params { s with cu := .ready } = execute (wholeBuffer c.code params) { s with cu := .ready } :=
    sendCommand_executes c.code params _ up rfl free (whole.trans (by decide))
  rw [exec_row, ready, buffer]
  rfl

/-! ## O24 -/

/-- Settles O24: at a boundary the chosen source's message begins; a reply begun frees a slot, and the arbiter gives it away. -/
theorem laneWordSlot : Obligations.LaneWordSlot := by
  intro s starts eqReady
  refine ⟨fun t sending => ⟨laneWord_sending sending, afterLaneSlot_sending s t sending⟩, fun boundary rq unready mq => ?empty,
    fun m rest boundary queued hold last => ?eventQueue, fun m rest boundary queued last => ?monitorQueue,
    fun r rest boundary queued last => ?replyQueue⟩
  case empty =>
    have chosen : s.chosenSource = none := chosenSource_none fun source => by
      cases source with
      | rq => exact eligible_rq_of_nil rq
      | eq => exact eligible_eq_of_not unready
      | mq => exact eligible_mq_of_nil mq
    exact ⟨laneWord_empty boundary chosen, afterLaneSlot_empty s boundary chosen⟩
  case eventQueue =>
    have chosen := chosenSource_eventQueue queued hold last
    rw [laneWord_begins boundary chosen, afterLaneSlot_begins s .eq boundary chosen, beginMessage_eventQueue queued,
      State.headWords, queued]
    exact ⟨rfl, rfl⟩
  case monitorQueue =>
    have chosen := chosenSource_monitorQueue queued last
    rw [laneWord_begins boundary chosen, afterLaneSlot_begins s .mq boundary chosen, beginMessage_monitorQueue queued,
      State.headWords, queued]
    exact ⟨rfl, rfl⟩
  case replyQueue =>
    have chosen := chosenSource_replyQueue queued last
    have begins : afterLaneSlot s = grantSlot (replyBegun r rest s) := by
      rw [afterLaneSlot_begins s .rq boundary chosen, beginMessage_replyQueue queued]
    rw [laneWord_begins boundary chosen, begins, State.headWords, queued]
    refine ⟨rfl, fun i waits lowest free => ?record, fun unwaited => ?producers⟩
    case record => exact (grantSlot_record (s := replyBegun r rest s) waits lowest free).trans rfl
    case producers =>
      have granted {b : CommandBuffer} (held : s.cu = .held b) :
          grantSlot (replyBegun r rest s) = execute b (replyBegun r rest s) :=
        grantSlot_held (s := replyBegun r rest s) unwaited held
      refine ⟨grantSlot_free (s := replyBegun r rest s) unwaited, fun b held => ?_, fun c params held whole up free => ?_⟩
      · rw [granted held]
        exact ⟨execute_cu b _, execute_replies b _⟩
      · rw [granted held]
        exact exec_row_of_held (s := replyBegun r rest s) c whole up free

end Sys2Proof.Machine
end

section
/-!
PROOFS. The end of a measurement and the search of its RESULT for a slot; the trackers' share of a frame arrival, which the records
do not feel (O45).
-/

namespace Sys2Proof.Machine

open Sys2Proof.Safety

/-! ## The end of a measurement -/

section

variable (i : StringNo) (o : MeasureOutcome) (s : State)

/-- A measurement that ends with a slot free places its RESULT, and its record is IDLE again (R187, R189). -/
theorem endMeasurement_placed (free : s.rq.length < 8) :
    endMeasurement i o s = { s.modifyRecord i fun r => (r.finish o).toIdle with
      rq := s.rq ++ [resultReply i ((s.string i).record.finish o)], su := { s.su with flags := flagsAfter 10 s.su } } := by
  have seeks : endMeasurement i o s = placeResult i (s.modifyRecord i (·.finish o)) :=
    if_pos ⟨by simp [Measurement.finish], decide_eq_true free⟩
  rw [seeks, placeResult_eq, State.modifyRecord_modifyRecord, State.modifyRecord_string]
  rfl

/-- One that ends with none leaves its record WAITING (R187, R189). -/
theorem endMeasurement_waits (full : 8 ≤ s.rq.length) : endMeasurement i o s = s.modifyRecord i (·.finish o) :=
  seekSlot_stays i _ (.inr full)

theorem endMeasurement_placed_record (free : s.rq.length < 8) :
    ((endMeasurement i o s).string i).record = ((s.string i).record.finish o).toIdle := by
  rw [endMeasurement_placed i o s free]
  exact congrArg (·.record) (State.modifyString_string i (fun b => { b with record := (b.record.finish o).toIdle }) s)

theorem endMeasurement_placed_rq (free : s.rq.length < 8) :
    (endMeasurement i o s).rq = s.rq ++ [resultReply i ((s.string i).record.finish o)] := by
  rw [endMeasurement_placed i o s free]

/-- A RESULT placed sets MEASURE_DONE under the flag mask (R189). -/
theorem endMeasurement_placed_done (free : s.rq.length < 8) (mask : s.su.mask.getLsbD 10 = true) :
    (endMeasurement i o s).su.flags.getLsbD 10 = true := by
  have causes : (flagsAfter 10 s.su).getLsbD 10 = (s.su.mask.getLsbD 10 || s.su.flags.getLsbD 10) :=
    flagsAfter_self s.su (by decide)
  rw [endMeasurement_placed i o s free, causes, mask, Bool.true_or]

/-- Either way its record is no longer RUNNING (R187). -/
theorem endMeasurement_not_running : ((endMeasurement i o s).string i).record.state ≠ .running := by
  by_cases free : s.rq.length < 8
  · rw [endMeasurement_placed_record i o s free]
    exact nofun
  · rw [endMeasurement_waits i o s (Nat.le_of_not_lt free), State.modifyRecord_string]
    exact nofun

end

/-! ## MEASURE_TIMEOUT -/

/-- The blocks of a string whose RUNNING record has taken the tick (R187). -/
def StringBlock.tickCounted (b : StringBlock) : StringBlock :=
  { b with ticked := { b.ticked with record := true }, record := { b.record with elapsed := b.record.elapsed + 1 } }

/-- The tick that brings the elapsed ticks of a RUNNING record to T times its measurement out (R187). -/
theorem recordOnce_timesOut (i : StringNo) (s : State) (untaken : (s.string i).ticked.record = false)
    (running : (s.string i).record.state = .running) (reached : (s.string i).record.elapsed + 1 = (s.string i).record.timeout) :
    recordOnce i s = endMeasurement i .timeout (s.modifyString i (·.tickCounted)) := by
  unfold recordOnce recordTick
  rw [if_neg (Bool.eq_false_iff.mp untaken)]
  simp only [State.modifyTicked_string]
  rw [if_pos running, if_pos reached.ge]
  exact congrArg (endMeasurement i .timeout) (State.modifyString_modifyString i _ _ s)

/-! ## The trackers' share of a frame arrival -/

/-- Everything a measurement's end goes by, and MEASURE_DONE, as it stood: the records, the reply queue and the flag mask. -/
structure MeasuredKept (s t : State) : Prop where
  rq : t.rq = s.rq
  record : ∀ i, (t.string i).record = (s.string i).record
  mask : t.su.mask = s.su.mask
  done : t.su.flags.getLsbD 10 = s.su.flags.getLsbD 10

theorem MeasuredKept.refl (s : State) : MeasuredKept s s := ⟨rfl, fun _ => rfl, rfl, rfl⟩

theorem MeasuredKept.trans {s t u : State} (h : MeasuredKept s t) (k : MeasuredKept t u) : MeasuredKept s u :=
  ⟨k.rq.trans h.rq, fun i => (k.record i).trans (h.record i), k.mask.trans h.mask, k.done.trans h.done⟩

theorem MeasuredKept.modifyString (i : StringNo) (f : StringBlock → StringBlock) (s : State)
    (h : (f (s.string i)).record = (s.string i).record) : MeasuredKept s (s.modifyString i f) where
  rq := rfl
  record j := by
    rw [State.string_modifyString]
    split
    · next same => rw [h, same]
    · rfl
  mask := rfl
  done := rfl

/-- No event of a tracker causes MEASURE_DONE or touches a record (R17, R189). -/
theorem MeasuredKept.ofTracker {i : StringNo} {s t : State} (touches : OneTracker i s t)
    (status : StatusKept trackerFlags trackerCounters s.su t.su) : MeasuredKept s t where
  rq := touches.rq
  record j := by
    rcases eq_or_ne j i with rfl | other
    · exact touches.record
    · rw [touches.others j other]
  mask := touches.mask
  done := status.flag 10 (by decide)

theorem takeReportedEdge_measuredKept (i : StringNo) (edge : Option Edge) (s : State) :
    MeasuredKept s (takeReportedEdge i edge s) := by
  by_cases onset : edge = some .onset
  · subst onset
    by_cases silent : (s.string i).tracker.state = .silent
    · rw [takeReportedEdge_onset i s silent]
      exact .ofTracker (takeOnset_touches i s) (takeOnset_statusKept i s)
    · have stays : takeReportedEdge i (some .onset) s = s := takeEdge_onset_stays i s silent
      rw [stays]
      exact .refl s
  · exact .ofTracker (takeReportedEdge_touches i edge s) (takeReportedEdge_event i edge s onset).status

/-- At its turn of a frame arrival a string's record takes the raw period of its stage, if there is one, from a part in which the
tracker's share leaves the measurements as they stood (R20, R186). -/
theorem stringArrival_measured (samples : PerString Word) (i : StringNo) (s : State) :
    ∃ u, MeasuredKept s u ∧ stringArrival samples i s =
      (runStage samples s.plu.frameNo i (s.string i)).period.elim u fun p => recordPeriod i p u := by
  set r := runStage samples s.plu.frameNo i (s.string i) with hr
  set edged := takeReportedEdge i r.edge (followPeak i (leaveStage i r s)) with hedged
  have left : MeasuredKept s (leaveStage i r s) :=
    (MeasuredKept.modifyString i (fun b => { b with stage := r.stage }) s rfl).trans ⟨rfl, fun _ => rfl, rfl, rfl⟩
  have begun : MeasuredKept s (followPeak i (leaveStage i r s)) :=
    left.trans (.modifyString i _ _ (by split <;> rfl))
  have edge : MeasuredKept s edged := begun.trans (takeReportedEdge_measuredKept i r.edge _)
  have arrives : stringArrival samples i s = deliverReports i r.edge r.period (followPeak i (leaveStage i r s)) := rfl
  rw [arrives]
  cases r.period with
  | none => exact ⟨edged, edge, deliverReports_none i r.edge _⟩
  | some p =>
    set v := (edged.string i).validator.take (edged.string i).profile p
    set judged := edged.modifyString i fun b => { b with validator := v.validator }
    have taken : MeasuredKept s judged := edge.trans (.modifyString i _ edged rfl)
    have outcome := takeOutcome_touches i v.outcome v.validator.accepted judged
    exact ⟨_, taken.trans (.ofTracker outcome (takeOutcome_event i _ _ _).status), deliverReports_some i r.edge p _⟩

/-! ## MEASURE_COMPLETE -/

/-- No record but one string's is RUNNING. -/
def AloneRunning (i : StringNo) (s : State) : Prop := ∀ j, j ≠ i → (s.string j).record.state ≠ .running

/-- From a part in which no other record is RUNNING, the turns of the other strings leave the measurements and the string's own as
they stood. -/
def TurnsPassed (i : StringNo) (s t : State) : Prop := AloneRunning i s → MeasuredKept s t ∧ OwnKept i s t

theorem TurnsPassed.refl (i : StringNo) (s : State) : TurnsPassed i s s := fun _ => ⟨.refl s, .refl i s⟩

theorem MeasuredKept.aloneRunning {i : StringNo} {s t : State} (h : MeasuredKept s t) (alone : AloneRunning i s) :
    AloneRunning i t := fun j hj => by
  rw [h.record]
  exact alone j hj

theorem TurnsPassed.trans (i : StringNo) (s t u : State) (h : TurnsPassed i s t) (k : TurnsPassed i t u) : TurnsPassed i s u := by
  intro alone
  obtain ⟨measured, own⟩ := h alone
  obtain ⟨measured', own'⟩ := k (measured.aloneRunning alone)
  exact ⟨measured.trans measured', own.trans i _ _ _ own'⟩

/-- A record that is not RUNNING takes no period, so another string's turn passes so (R184). -/
theorem stringArrival_passed (samples : PerString Word) (i j : StringNo) (s : State) (h : j ≠ i) :
    TurnsPassed i s (stringArrival samples j s) := by
  intro alone
  refine ⟨?_, stringArrival_ownKept samples i j s h⟩
  obtain ⟨u, kept, arrives⟩ := stringArrival_measured samples j s
  rw [arrives]
  cases (runStage samples s.plu.frameNo j (s.string j)).period with
  | none => exact kept
  | some p =>
    have stays : recordPeriod j p u = u := recordPeriod_stays j p u (by rw [kept.record]; exact alone j h)
    exact (congrArg (MeasuredKept s) stays).mpr kept

/-- A frame arrival that delivers the Nth period of the one RUNNING record ends its measurement at the string's turn, and nothing
else of it meets the measurements (R186, R187). -/
theorem frameArrival_completes (samples : PerString Word) (order : List StringNo) (i : StringNo) (p : Nat) (s : State)
    (delivered : (runStage samples (s.plu.frameNo + 1) i (s.string i)).period = some p)
    (running : (s.string i).record.state = .running) (reached : (s.string i).record.count + 1 = (s.string i).record.target)
    (alone : AloneRunning i s) :
    ∃ u, MeasuredKept s u ∧
      MeasuredKept (endMeasurement i .complete (u.modifyRecord i (·.add p))) (frameArrival samples order s) := by
  obtain ⟨v, before, after⟩ := forStrings_turn (TurnsPassed.refl i) (TurnsPassed.trans i) (stringArrival samples) i
    (fun j t h => stringArrival_passed samples i j t h) (servedOrder_nodup order) (mem_servedOrder order i)
    { s with plu := { s.plu with frameNo := s.plu.frameNo + 1 } }
  obtain ⟨measured, own⟩ := before alone
  obtain ⟨u, kept, arrives⟩ := stringArrival_measured samples i v
  have toTurn : MeasuredKept s u := MeasuredKept.trans ⟨measured.rq, measured.record, measured.mask, measured.done⟩ kept
  have period : (runStage samples v.plu.frameNo i (v.string i)).period = some p := by
    rw [own.plu, own.string]
    exact delivered
  have completes : recordPeriod i p u = endMeasurement i .complete (u.modifyRecord i (·.add p)) := by
    rw [recordPeriod, toTurn.record, if_pos running, if_pos reached.ge]
  have turn : stringArrival samples i v = endMeasurement i .complete (u.modifyRecord i (·.add p)) := by
    rw [arrives, period, ← completes]
    rfl
  have others : AloneRunning i (stringArrival samples i v) := fun j hj => by
    rw [(stringArrival_frame samples i v).2.2.1 j hj, measured.record]
    exact alone j hj
  rw [turn] at after others
  exact ⟨u, toTurn, (after others).1⟩

/-- The part that a good slot has prepared for its frame arrival while the link plays on (R4, R5). -/
def goodSlotBegun (f : PickupFrame) (s : State) : State :=
  { s.doPart .slot with
    plu := { s.plu with link := .up, badRun := 0, lastGood := some (frameContent f), side := (frameContent f).side } }

theorem pickupSlot_good {f : PickupFrame} {s : State} (order : List StringNo) (link : s.slu.link = .up)
    (playing : s.plu.link = .up ∨ s.plu.link = .holding) (good : goodFrame f = true) :
    pickupSlot f order s = frameArrival (frameContent f).samples order (goodSlotBegun f s) := by
  rw [pickupSlot, if_pos link, judgeSlot_good f order (s.doPart .slot) playing good]
  rfl

/-- A slot that delivers it ends the measurement, so MEASURE_COMPLETE is at hand (R187; log entry 1). -/
theorem completesIn_of_not_running {i : StringNo} {s t : State} (running : (s.string i).record.state = .running)
    (ended : (t.string i).record.state ≠ .running) (frameNo : t.plu.frameNo = s.plu.frameNo + 1) : completesIn i s t = true := by
  simp [completesIn, arrivesIn, running, ended, frameNo]

/-! ## RESULT_GRANT -/

/-- The two lane word slots of an upstream frame whose first begins a reply of two words or more, with a record WAITING: the reply
slot it frees is granted, and the second sends the reply's second word (R157, R159). -/
theorem laneSlots_grant {i : StringNo} {s : State} {reply : Reply} {rest : List Reply}
    (boundary : s.lane.transmit = none) (queued : s.rq = reply :: rest) (free : rest.length < 8)
    (chosen : s.chosenSource = some .rq) (waits : (s.string i).record.state = .waiting)
    (lowest : ∀ j, j.number < i.number → (s.string j).record.state ≠ .waiting) (words : 2 ≤ reply.words.length) :
    afterLaneSlot (afterLaneSlot (s.doPart .upstream)) = { s.modifyRecord i (·.toIdle) with
      rq := rest ++ [resultReply i (s.string i).record]
      lane := ⟨if 2 < reply.words.length then some ⟨reply.words, .rq, 2⟩ else none, .rq⟩
      su := { s.su with flags := flagsAfter 10 s.su }
      slu := s.slu.doPart .upstream } := by
  have eligible : (s.doPart .upstream).eligible = s.eligible :=
    funext fun source => by cases source <;> simp [State.eligible, State.doPart]
  have begins : (s.doPart .upstream).chosenSource = some .rq := by
    rw [State.chosenSource, eligible]
    exact chosen
  have first : afterLaneSlot (s.doPart .upstream) = _ :=
    (afterLaneSlot_begins (s.doPart .upstream) .rq boundary begins).trans
      ((beginMessage_replyQueue (s := s.doPart .upstream) queued).trans
        (grantSlot_record (s := replyBegun reply rest (s.doPart .upstream)) waits lowest free))
  have sending : (afterLaneSlot (s.doPart .upstream)).lane.transmit = some ⟨reply.words, .rq, 1⟩ := by
    have head : transmitAfterHead reply.words .rq = some ⟨reply.words, .rq, 1⟩ := if_neg (Nat.not_le.mpr words)
    rw [first]
    exact head
  rw [afterLaneSlot_sending _ _ sending, first]
  rfl

/-! ## O45 -/

/-- Settles O45: each end is at hand where its row says, and its RESULT takes the free slot, or its record waits. At
MEASURE_COMPLETE the turns of the other strings, whose records are not RUNNING, leave the measurement as it stands. -/
theorem measurementEnds : Obligations.MeasurementEnds := by
  intro i s link b r free done
  refine ⟨fun count untaken running reached => ?timeout, fun f order p good playing delivered running reached alone => ?complete,
    fun reply rest boundary queued room chosen waits lowest words => ?grant⟩
  case timeout =>
    intro ended marked
    have atHand : timeoutAtHand i s = true := by
      have tick : s.tickAtHand = true := decide_eq_true ⟨link, count⟩
      have reaches : (s.string i).record.reachesTimeout = true := decide_eq_true ⟨running, reached.ge⟩
      rw [timeoutAtHand, tick, untaken, reaches]
      rfl
    have taken : exec (.measureTimeout i) s = .next (recordOnce i s) := by
      simp only [exec, execMeasureTimeout, occurs, atHand, if_true]
    rw [taken, recordOnce_timesOut i s untaken running reached]
    by_cases h : free
    · rw [if_pos h, endMeasurement_placed i .timeout (s.modifyString i (·.tickCounted)) h, State.modifyString_string]
      refine congrArg Host.Outcome.next ?_
      exact congrArg (fun u => ({ u with rq := s.rq ++ [⟨0x14, .result (resultWords i ended)⟩], su := done } : State))
        (State.modifyString_modifyString i _ _ s)
    · rw [if_neg h, endMeasurement_waits i .timeout (s.modifyString i (·.tickCounted)) (Nat.le_of_not_lt h)]
      exact congrArg Host.Outcome.next (State.modifyString_modifyString i _ _ s)
  case complete =>
    intro ended
    have slot := pickupSlot_good order link playing good
    obtain ⟨u, before, after⟩ := frameArrival_completes (frameContent f).samples order i p (goodSlotBegun f s) delivered running
      reached alone
    set counted := u.modifyRecord i (·.add p)
    have finished : (counted.string i).record.finish .complete = { ended with state := .waiting } := by
      rw [State.modifyRecord_string, before.record]
      simp only [Measurement.finish, Measurement.add, minWith_eq, maxWith_eq]
      rfl
    have queued : counted.rq = s.rq := before.rq
    refine ⟨pickupSlot f order s, ?_, rfl, fun h => ?_, fun h => ?_⟩
    · have atHand : completesIn i s (pickupSlot f order s) = true := by
        refine completesIn_of_not_running running ?_ ?_
        · rw [slot, after.record]
          exact endMeasurement_not_running i .complete counted
        · rw [slot, frameArrival_plu]
          rfl
      simp only [exec, execMeasureComplete, occurs, atHand, if_true]
    · have room : counted.rq.length < 8 := by rwa [queued]
      have masked : counted.su.mask = s.su.mask := before.mask
      rw [slot, after.record, after.rq, after.done, endMeasurement_placed_record i .complete counted room,
        endMeasurement_placed_rq i .complete counted room, finished, queued]
      exact ⟨rfl, rfl, fun mask => endMeasurement_placed_done i .complete counted room (by rwa [masked])⟩
    · have full : 8 ≤ counted.rq.length := by
        rw [queued]
        exact Nat.le_of_not_lt h
      rw [slot, after.record, after.rq, endMeasurement_waits i .complete counted full, State.modifyRecord_string, finished]
      exact ⟨rfl, queued⟩
  case grant =>
    intro sent
    have atHand : resultGrantAtHand s = true := by
      have grants : grantsResult s = true := (grantsResult_iff s).mpr ⟨boundary, chosen, i, waits⟩
      simp [resultGrantAtHand, link, grants]
    refine ⟨upstream s, ?_, rfl, ?_⟩
    · simp only [exec, execResultGrant, occurs, atHand, if_true]
    · rw [upstream_eq s link, laneSlots_grant boundary queued room chosen waits lowest words, ← Slu.doPart_sent .upstream s.slu]
      rfl

end Sys2Proof.Machine
end

section
/-!
PROOFS. The refusals of the command unit: UNKNOWN by the code, LENGTH by the count, RANGE by the string, table, point or kind a
command names (O59).
-/

namespace Sys2Proof.Machine

open Sys2Proof.Safety

/-! ## The code list -/

/-- The counts the model allows are those of the code list (R173). -/
theorem countAllowed_iff (c : Command) (n : Nat) : c.countAllowed n = true ↔ listedCount n c := by
  cases c
  case loadGrid =>
    simp only [Command.countAllowed, listedCount, decide_eq_true_eq]
    omega
  all_goals simp [Command.countAllowed, listedCount]

/-- No listed count is more than the buffer holds (R165, R173). -/
theorem listedCount_le_bufferSize {c : Command} {n : Nat} (h : listedCount n c) : n ≤ 128 := by
  cases c <;> simp only [listedCount] at h <;> omega

theorem not_unlistedCode_code (c : Command) : ¬unlistedCode c.code.toNat := by
  unfold unlistedCode
  cases c <;> decide

/-- A code that stands for a command is that command's code (R173). -/
theorem eq_code_of_commandOf {code : BitVec 7} {c : Command} (h : commandOf code = some c) : code = c.code := by
  apply BitVec.eq_of_toNat_eq
  unfold commandOf at h
  split at h
  case h_30 => cases h
  all_goals
    cases h
    assumption

/-- A code R172 names stands for no command. -/
theorem commandOf_unlisted {code : BitVec 7} (h : unlistedCode code.toNat) : commandOf code = none := by
  refine Option.eq_none_iff_forall_not_mem.mpr fun c hc => ?_
  rw [eq_code_of_commandOf hc] at h
  exact not_unlistedCode_code c h

/-! ## A refused command -/

/-- A command refused at a check leaves its reply and nothing else (R171). -/
theorem sendCommand_refused {code : BitVec 7} {params : List Payload} {s : State} {reason : RefusalReason}
    (atOnce : executesAtOnce s) (hlen : params.length ≤ 255)
    (refused : runBuffer (wholeBuffer code params) s = refuse reason s) :
    sendCommand code params s = { s with rq := s.rq ++ [⟨code, .refused reason⟩] } := by
  obtain ⟨up, ready, free⟩ := atOnce
  have same : { s with cu := .ready } = s := by rw [← ready]
  rw [sendCommand_executes code params s up ready free hlen, execute, same, refused]
  rfl

/-- A command of a listed count that its own checks refuse (R171). -/
theorem exec_row_refused {c : Command} {params : List Payload} {s : State} {reason : RefusalReason}
    (atOnce : executesAtOnce s) (listed : listedCount params.length c) (refused : c.run params s = refuse reason s) :
    exec (row c params) s = .next (replied c (.refused reason) s) :=
  exec_replies atOnce (listedCount_le_bufferSize listed) ((countAllowed_iff c _).mpr listed) refused

/-! ## RANGE of a string, a table, a point or a kind -/

theorem ofNumber_out_of_range {n : Nat} (h : n = 0 ∨ 6 < n) : StringNo.ofNumber n = none := by
  unfold StringNo.ofNumber
  split
  case h_7 => rfl
  all_goals omega

/-- A command of one string refuses a number outside 1..6 (R174). -/
theorem withString_range {word : Payload} (run : StringNo → State → Executed) (s : State)
    (h : word.toNat = 0 ∨ 6 < word.toNat) : withString word run s = refuse .range s := by
  rw [withString, stringOf, ofNumber_out_of_range h]

/-- A command of one mapping table refuses a number above 3 (R174). -/
theorem withTable_range {word : Payload} (run : Fin 4 → State → Executed) (s : State) (h : 3 < word.toNat) :
    withTable word run s = refuse .range s := by
  rw [withTable, tableOf, dif_neg (by omega)]

theorem injectPointOf_le {n : Nat} {point : InjectPoint} (h : injectPointOf n = some point) : n ≤ 2 := by
  unfold injectPointOf at h
  split at h
  case h_4 => cases h
  all_goals decide

theorem injectKindOf_le {n : Nat} {kind : InjectKind} (h : injectKindOf n = some kind) : n ≤ 3 := by
  unfold injectKindOf at h
  split at h
  case h_5 => cases h
  all_goals decide

/-! ## What a command of a listed count runs -/

/-- Eighteen words are a profile (R33). -/
theorem exists_profileOfWords {fields : List Payload} (h : fields.length = 18) : ∃ p, profileOfWords fields = some p :=
  match fields, h with
  | [_, _, _, _, _, _, _, _, _, _, _, _, _, _, _, _, _, _], _ => ⟨_, rfl⟩

/-- Eighteen words are an action entry (R111). -/
theorem exists_actionOfWords {fields : List Payload} (h : fields.length = 18) : ∃ a, actionOfWords fields = some a :=
  match fields, h with
  | [_, _, _, _, _, _, _, _, _, _, _, _, _, _, _, _, _, _], _ => ⟨_, rfl⟩

/-- Nine words are an INJECT's (R137). -/
theorem exists_injectWords {params : List Payload} (h : params.length = 9) :
    ∃ point kind string verdict note bend grade velocity lane,
      params = [point, kind, string, verdict, note, bend, grade, velocity, lane] :=
  match params, h with
  | [_, _, _, _, _, _, _, _, _], _ => ⟨_, _, _, _, _, _, _, _, _, rfl⟩

theorem exists_two_words {params : List Payload} (h : 2 ≤ params.length) : ∃ first second rest, params = first :: second :: rest :=
  match params, h with
  | first :: second :: rest, _ => ⟨first, second, rest, rfl⟩

/-- The commands whose first word names a string (R174). -/
def stringNamingCommands : List Command :=
  [.loadGrid, .loadProfile, .loadAction, .loadCrosstalk, .measure, .measureCancel, .readString, .readGrid, .readAction,
    .readProfile]

/-- The commands whose first word names a mapping table (R174). -/
def tableNamingCommands : List Command := [.loadMap, .clearMap, .readMap]

/-- A command whose first word names a string looks at that word first (R174). -/
theorem run_withString {c : Command} (names : c ∈ stringNamingCommands) {word : Payload} {rest : List Payload}
    (listed : listedCount (word :: rest).length c) (s : State) : ∃ run, c.run (word :: rest) s = withString word run s := by
  cases c
  case loadGrid =>
    obtain ⟨_, base, entries, words⟩ := exists_two_words listed.2.1
    obtain ⟨-, rfl⟩ := List.cons.inj words
    simp only [Command.run, runLoadGrid]
    exact ⟨_, rfl⟩
  case loadProfile =>
    obtain ⟨p, taken⟩ := exists_profileOfWords (Nat.succ.inj listed)
    simp only [Command.run, runLoadProfile, taken]
    exact ⟨_, rfl⟩
  case loadAction =>
    obtain ⟨a, taken⟩ := exists_actionOfWords (Nat.succ.inj listed)
    simp only [Command.run, runLoadAction, taken]
    exact ⟨_, rfl⟩
  case loadCrosstalk | measure | readGrid =>
    obtain ⟨second, third, rfl⟩ := List.length_eq_two.mp (Nat.succ.inj listed)
    simp only [Command.run, runLoadCrosstalk, runMeasure, runReadGrid]
    exact ⟨_, rfl⟩
  case measureCancel | readString | readAction | readProfile =>
    obtain rfl := List.length_eq_zero_iff.mp (Nat.succ.inj listed)
    simp only [Command.run, runMeasureCancel, runReadString, runReadAction, runReadProfile]
    exact ⟨_, rfl⟩
  all_goals exact absurd names (by decide)

/-- A command whose first word names a mapping table looks at that word first (R174). -/
theorem run_withTable {c : Command} (names : c ∈ tableNamingCommands) {word : Payload} {rest : List Payload}
    (listed : listedCount (word :: rest).length c) (s : State) : ∃ run, c.run (word :: rest) s = withTable word run s := by
  cases c
  case loadMap =>
    obtain ⟨_, start, entries, words⟩ := exists_two_words listed.1
    obtain ⟨-, rfl⟩ := List.cons.inj words
    simp only [Command.run, runLoadMap]
    exact ⟨_, rfl⟩
  case clearMap =>
    obtain ⟨mode, rfl⟩ := List.length_eq_one_iff.mp (Nat.succ.inj listed)
    simp only [Command.run, runClearMap]
    exact ⟨_, rfl⟩
  case readMap =>
    obtain ⟨start, count, rfl⟩ := List.length_eq_two.mp (Nat.succ.inj listed)
    simp only [Command.run, runReadMap]
    exact ⟨_, rfl⟩
  all_goals exact absurd names (by decide)

/-- INJECT refuses a point above 2, a kind above 3 and a string outside 1..6 (R137, R174). -/
theorem runInject_range {point kind string : Payload} {rest : List Payload} (nine : (point :: kind :: string :: rest).length = 9)
    (s : State) (h : 2 < point.toNat ∨ 3 < kind.toNat ∨ string.toNat = 0 ∨ 6 < string.toNat) :
    runInject (point :: kind :: string :: rest) s = refuse .range s := by
  obtain ⟨_, _, _, verdict, note, bend, grade, velocity, lane, words⟩ := exists_injectWords nine
  cases words
  simp only [runInject]
  split
  · next hpoint hkind =>
    have := injectPointOf_le hpoint
    have := injectKindOf_le hkind
    exact withString_range _ s (by omega)
  · rfl

/-! ## A listed count is not refused with LENGTH -/

/-- The command was not refused with LENGTH. -/
def Executed.PassesLength (x : Executed) : Prop := x.reply ≠ .refused .length

section

variable (s : State)

theorem refuse_passesLength {reason : RefusalReason} (h : reason ≠ .length) : (refuse reason s).PassesLength :=
  fun same => h (ReplyBody.refused.inj same)

theorem carriedOut_passesLength (adjusted : Bool) : (carriedOut adjusted s).PassesLength := by
  cases adjusted <;> exact nofun

theorem answer_passesLength (words : List Payload) : (answer words s).PassesLength := nofun

theorem withString_passesLength (word : Payload) (run : StringNo → State → Executed) (h : ∀ i, (run i s).PassesLength) :
    (withString word run s).PassesLength := by
  unfold withString
  split
  · exact refuse_passesLength s nofun
  · exact h _

theorem withTable_passesLength (word : Payload) (run : Fin 4 → State → Executed) (h : ∀ n, (run n s).PassesLength) :
    (withTable word run s).PassesLength := by
  unfold withTable
  split
  · exact refuse_passesLength s nofun
  · exact h _

theorem takeProfile_passesLength (i : StringNo) (given : List Payload) (p : Profile) :
    (takeProfile i given p s).PassesLength := by
  unfold takeProfile Executed.PassesLength
  simp only
  split <;> exact nofun

theorem injectReply_passesLength (clamped : Bool) (x : Crossing) : (injectReply clamped x).PassesLength := by
  unfold injectReply
  split
  · exact nofun
  · exact carriedOut_passesLength _ clamped

/-- A choice of outcomes, of which none is a LENGTH refusal. -/
theorem ite_passesLength (condition : Prop) [Decidable condition] {x y : Executed} (hx : x.PassesLength)
    (hy : y.PassesLength) : (if condition then x else y).PassesLength := by
  split <;> assumption

/-- The check of the count is the one place where LENGTH is refused: the checks after it give other reasons (R171, R173). -/
theorem run_passesLength {c : Command} {params : List Payload} (listed : listedCount params.length c) :
    (c.run params s).PassesLength := by
  have refused {reason : RefusalReason} (h : reason ≠ .length) := refuse_passesLength s h
  have taken (adjusted : Bool) (t : State) := carriedOut_passesLength t adjusted
  have answered (words : List Payload) := answer_passesLength s words
  cases c
  case loadGrid =>
    obtain ⟨string, base, entries, rfl⟩ := exists_two_words listed.2.1
    refine withString_passesLength s _ _ fun i => ite_passesLength _ (refused nofun) ?_
    split
    · exact refused nofun
    · exact taken _ _
  case loadProfile =>
    obtain ⟨string, fields, rfl⟩ := List.exists_cons_of_length_eq_add_one listed
    obtain ⟨p, fits⟩ := exists_profileOfWords (Nat.succ.inj listed)
    simp only [Command.run, runLoadProfile, fits]
    exact withString_passesLength s _ _ fun i => ite_passesLength _ (refused nofun) (takeProfile_passesLength s i fields p)
  case loadAction =>
    obtain ⟨string, fields, rfl⟩ := List.exists_cons_of_length_eq_add_one listed
    obtain ⟨a, fits⟩ := exists_actionOfWords (Nat.succ.inj listed)
    simp only [Command.run, runLoadAction, fits]
    exact withString_passesLength s _ _ fun i => taken _ _
  case loadMap =>
    obtain ⟨table, start, words, rfl⟩ := exists_two_words listed.1
    exact withTable_passesLength s _ _ fun n => ite_passesLength _ (refused nofun) (taken _ _)
  case inject =>
    obtain ⟨point, kind, string, verdict, note, bend, grade, velocity, lane, rfl⟩ := exists_injectWords listed
    simp only [Command.run, runInject]
    split
    · exact withString_passesLength s _ _ fun i => injectReply_passesLength _ _
    · exact refused nofun
  case clearMap =>
    obtain ⟨table, mode, rfl⟩ := List.length_eq_two.mp listed
    exact withTable_passesLength s _ _ fun n => taken _ _
  case setStyle =>
    obtain ⟨mask, style, rfl⟩ := List.length_eq_two.mp listed
    exact taken _ _
  case readStatusCounters =>
    obtain ⟨first, number, rfl⟩ := List.length_eq_two.mp listed
    exact ite_passesLength _ (refused nofun) (answered _)
  case clearCounters =>
    obtain ⟨first, number, rfl⟩ := List.length_eq_two.mp listed
    exact ite_passesLength _ (refused nofun) (taken _ _)
  case loadCrosstalk =>
    obtain ⟨string, hi, lo, rfl⟩ := List.length_eq_three.mp listed
    exact withString_passesLength s _ _ fun i => taken _ _
  case measure =>
    obtain ⟨string, n, ticks, rfl⟩ := List.length_eq_three.mp listed
    exact withString_passesLength s _ _ fun i => ite_passesLength _ (refused nofun) (taken _ _)
  case readGrid =>
    obtain ⟨string, start, count, rfl⟩ := List.length_eq_three.mp listed
    refine withString_passesLength s _ _ fun i => ite_passesLength _ (refused nofun) (ite_passesLength _ (answered _) ?_)
    split
    · exact refused nofun
    · exact ite_passesLength _ (refused nofun) (answered _)
  case readMap =>
    obtain ⟨table, start, count, rfl⟩ := List.length_eq_three.mp listed
    exact withTable_passesLength s _ _ fun n =>
      ite_passesLength _ (refused nofun) (ite_passesLength _ (answered _) (answered _))
  case readCounters =>
    obtain ⟨first, number, form, rfl⟩ := List.length_eq_three.mp listed
    exact ite_passesLength _ (refused nofun) (answered _)
  case stringOn =>
    obtain ⟨mask, rfl⟩ := List.length_eq_one_iff.mp listed
    exact ite_passesLength _ (refused nofun) (taken _ _)
  case measureCancel =>
    obtain ⟨string, rfl⟩ := List.length_eq_one_iff.mp listed
    exact withString_passesLength s _ _ fun i => ite_passesLength _ (taken _ _) (refused nofun)
  case readString | readAction | readProfile =>
    obtain ⟨string, rfl⟩ := List.length_eq_one_iff.mp listed
    simp only [Command.run, runReadString, runReadAction, runReadProfile]
    exact withString_passesLength s _ _ fun i => answered _
  case setTick | setNumbering | setFlagMask | setCountPoint | stringOff | clearFlags =>
    obtain ⟨word, rfl⟩ := List.length_eq_one_iff.mp listed
    exact taken _ _
  case readStatus =>
    obtain rfl := List.length_eq_zero_iff.mp listed
    exact answered _
  case restoreDefaults =>
    obtain rfl := List.length_eq_zero_iff.mp listed
    exact ite_passesLength _ (refused nofun) nofun
  case allNotesEnd | restart =>
    obtain rfl := List.length_eq_zero_iff.mp listed
    exact taken _ _

/-! ## The replies an execution adds -/

/-- A run leaves no reply of its own in the reply queue: it keeps the queue or, in RESTART, empties it (R171, R183). -/
theorem run_rq_drop (c : Command) (params : List Payload) : (c.run params s).state.rq.drop s.rq.length = [] := by
  rcases eq_or_ne c .restart with rfl | other
  · simp only [Command.run, runRestart]
    split
    · exact List.drop_nil
    · exact List.drop_length
  · rw [(run_addsAborted s other params).rq]
    exact List.drop_length

end

/-- One reply more is one more to look at beyond a point of the queue. -/
theorem not_mem_drop_concat {r added : Reply} {queue : List Reply} {n : Nat} (h : r ∉ queue.drop n) (ne : r ≠ added) :
    r ∉ (queue ++ [added]).drop n := by
  rw [List.drop_append, List.mem_append]
  rintro (old | new)
  · exact h old
  · exact ne (List.mem_singleton.mp (List.mem_of_mem_drop new))

/-- A record that seeks its slot places a RESULT and no refusal (R189). -/
theorem seekSlot_adds_no_refusal {code : BitVec 7} {reason : RefusalReason} {n : Nat} (i : StringNo) (s : State)
    (h : (⟨code, .refused reason⟩ : Reply) ∉ s.rq.drop n) : (⟨code, .refused reason⟩ : Reply) ∉ (seekSlot i s).rq.drop n := by
  unfold seekSlot
  split
  · rw [placeResult_eq]
    exact not_mem_drop_concat h nofun
  · exact h

/-- A command of a listed count is not refused with LENGTH (R173). -/
theorem exec_row_passesLength {c : Command} {params : List Payload} {s : State} (atOnce : executesAtOnce s)
    (listed : listedCount params.length c) :
    ∃ t, exec (row c params) s = .next t ∧ (⟨c.code, .refused .length⟩ : Reply) ∉ t.rq.drop s.rq.length := by
  refine ⟨_, exec_runs c params s atOnce (listedCount_le_bufferSize listed) ((countAllowed_iff c _).mpr listed), ?_⟩
  refine forStrings_keeps (P := fun t => (⟨c.code, .refused .length⟩ : Reply) ∉ t.rq.drop s.rq.length) seekSlot
    seekSlot_adds_no_refusal _ _ (not_mem_drop_concat ?_ fun same => ?_)
  · rw [run_rq_drop]
    exact List.not_mem_nil
  · exact run_passesLength s listed (Reply.mk.inj same).2.symm

/-- Settles O59. -/
theorem refusedCommands : Obligations.RefusedCommands := by
  intro params s atOnce hlen
  refine ⟨fun code unlisted => ?unknown, fun c unlisted => ?length, fun c => exec_row_passesLength atOnce,
    ?string, ?table, ?inject⟩
  case unknown =>
    have refused : runBuffer (wholeBuffer code params) s = refuse .unknown s := by
      simp only [runBuffer, wholeBuffer, commandOf_unlisted unlisted]
    exact congrArg Host.Outcome.next (sendCommand_refused atOnce hlen refused)
  case length =>
    have disallowed : c.countAllowed params.length = false :=
      Bool.eq_false_iff.mpr fun allowed => unlisted ((countAllowed_iff c _).mp allowed)
    have refused := runBuffer_length c params s (.inr disallowed)
    exact (exec_row c params s).trans (congrArg _ (sendCommand_refused atOnce hlen refused))
  case string =>
    rintro c word rest rfl listed outside names
    obtain ⟨run, looks⟩ := run_withString names listed s
    exact exec_row_refused atOnce listed (looks.trans (withString_range run s outside))
  case table =>
    rintro c word rest rfl listed above names
    obtain ⟨run, looks⟩ := run_withTable names listed s
    exact exec_row_refused atOnce listed (looks.trans (withTable_range run s above))
  case inject =>
    rintro point kind string rest rfl nine outside
    exact exec_row_refused (c := .inject) atOnce nine (runInject_range nine s outside)

end Sys2Proof.Machine
end

section
/-!
PROOFS. MEASURE and MEASURE CANCEL: what each does with a string's measurement record, by whether the record is IDLE (O53).
-/

namespace Sys2Proof.Machine

open Sys2Proof.Safety

theorem clamp_ne_iff {lo hi : Nat} (h : lo ≤ hi) (v : Nat) : clamp lo hi v ≠ v ↔ v < lo ∨ hi < v := by
  rw [clamp_eq h]
  omega

/-- No payload word is above 32,767, so the upper clamp of T never acts (R185). -/
theorem clamp_ticks (w : Payload) : clamp 1 32767 w.toNat = max 1 w.toNat := by
  rw [clamp_eq (by decide), Nat.min_eq_right (Nat.le_of_lt_succ w.isLt)]

theorem Measurement.active_of_idle {r : Measurement} (idle : r.state = .idle) : r.active = false := by
  rw [Measurement.active_eq, idle]
  rfl

section

variable {i : StringNo} {s : State}

/-- A record that is not IDLE holds MEASURE off (R185). -/
theorem runMeasure_busy (n ticks : Payload) (busy : (s.string i).record.state ≠ .idle) :
    runMeasure [stringWord i, n, ticks] s = refuse .busy s := by
  simp only [runMeasure, withString_stringWord, Measurement.active_eq, decide_eq_true busy, if_true]

/-- MEASURE starts an IDLE record with N and T clamped, ADJUSTED when a clamp acted (R185). -/
theorem runMeasure_idle (n ticks : Payload) (idle : (s.string i).record.state = .idle) :
    runMeasure [stringWord i, n, ticks] s =
      ⟨s.modifyRecord i fun _ => .start (max 4 (min 64 n.toNat)) (max 1 ticks.toNat),
        acceptUnless (n.toNat < 4 ∨ 64 < n.toNat ∨ ticks.toNat = 0), []⟩ := by
  have clamped : (clamp 4 64 n.toNat ≠ n.toNat ∨ ticks.toNat = 0) ↔ (n.toNat < 4 ∨ 64 < n.toNat ∨ ticks.toNat = 0) := by
    rw [clamp_ne_iff (by decide), or_assoc]
  rw [← acceptUnless_congr clamped, ← carriedOut_eq, ← clamp_eq (by decide), ← clamp_ticks]
  simp only [runMeasure, withString_stringWord, Measurement.active_of_idle idle, Bool.false_eq_true, if_false]

/-- MEASURE CANCEL finds nothing to cancel in an IDLE record (R190). -/
theorem runMeasureCancel_idle (idle : (s.string i).record.state = .idle) :
    runMeasureCancel [stringWord i] s = refuse .idle s := by
  simp only [runMeasureCancel, withString_stringWord, Measurement.active_of_idle idle, Bool.false_eq_true, if_false]

/-- MEASURE CANCEL takes an active record to IDLE; it aborts nothing, so that no RESULT follows (R190). -/
theorem runMeasureCancel_active (active : (s.string i).record.state ≠ .idle) :
    runMeasureCancel [stringWord i] s = ⟨s.modifyRecord i (·.toIdle), .accept, []⟩ := by
  simp only [runMeasureCancel, withString_stringWord, Measurement.active_eq, decide_eq_true active, if_true]
  rfl

end

/-- Settles O53. -/
theorem measureCommands : Obligations.MeasureCommands := by
  intro i n ticks s atOnce b r
  have measure {t : State} {body : ReplyBody} (hrun : runMeasure [stringWord i, n, ticks] s = ⟨t, body, []⟩) :
      exec (.measure [stringWord i, n, ticks]) s = .next (replied .measure body t) :=
    exec_replies (c := .measure) atOnce (by simp) rfl hrun
  have cancel {t : State} {body : ReplyBody} (hrun : runMeasureCancel [stringWord i] s = ⟨t, body, []⟩) :
      exec (.measureCancel [stringWord i]) s = .next (replied .measureCancel body t) :=
    exec_replies (c := .measureCancel) atOnce (by simp) rfl hrun
  exact ⟨fun busy => measure (runMeasure_busy n ticks busy), fun idle => measure (runMeasure_idle n ticks idle),
    fun idle => cancel (runMeasureCancel_idle idle), fun active => cancel (runMeasureCancel_active active)⟩

end Sys2Proof.Machine
end
